-- ==== Sys2Proof/Word.lean ====
section
/-! DEFINITION. The word types of the QX8-H model and their plainest arithmetic (00_scope.md R8 to R11, R16, R19). -/

namespace Sys2Proof

/-- A byte of memory or of a frame. -/
abbrev Byte := BitVec 8
/-- A 16-bit unsigned value (R16). -/
abbrev U16 := BitVec 16
/-- A 32-bit unsigned value (R16). -/
abbrev U32 := BitVec 32
/-- A 48-bit value (a counter word of chapter 16). -/
abbrev U48 := BitVec 48
/-- A 64-bit unsigned value (R16). -/
abbrev U64 := BitVec 64
/-- A count of Tide nanoseconds (R9). -/
abbrev TideTime := BitVec 64

/-- Size of a page frame granule, 4 KiB. -/
abbrev granule : Nat := 4096

/-- `⌈a / b⌉` for `b > 0`. -/
def ceilDiv (a b : Nat) : Nat := (a + b - 1) / b

/-- `a` rounded up to a multiple of `b`. -/
def roundUp (a b : Nat) : Nat := ceilDiv a b * b

end Sys2Proof
end

