-- ==== Sys2Proof/Syntax.lean ====
section
/-! DEFINITION. The commands of the QX8-H: one constructor per row of the opcode table. Operands are what the world outside supplies (a register value, a frame, a message, a measurement) or names (a function, a region, a session); what the module determines from its own state is no operand. A time-driven command carries `dt`, the nanoseconds that have passed since the command before it took effect. -/

namespace Sys2Proof

/-- A PCIe function: 0 is PF0, 1 to 15 the virtual functions. -/
abbrev Fn := Fin 16
/-- A compute region (Table 1-5). -/
abbrev Region := Fin 6
/-- A fabric port. -/
abbrev FabPort := Fin 16
/-- A place on the fabric. -/
abbrev Place := Fin 64
/-- A context number. -/
abbrev Ctx := Fin 16

/-- A die-to-die link (Table 1-4). -/
inductive D2D where
  | a | b
  deriving DecidableEq, Repr

/-- A TSN port. -/
inductive TsnPort where
  | a | b
  deriving DecidableEq, Repr

/-- The kinds of time-of-day source (R75). -/
inductive TimeInput where
  | tsn (p : TsnPort)
  | fab (p : FabPort)
  deriving DecidableEq, Repr

/-- What happened on a peer-delay exchange (R76). -/
inductive PeerDelayKind where
  /-- A request of the link partner arrived. -/
  | request
  /-- The module's own exchange completed with this link delay in ns. -/
  | measured (delay : Nat)
  deriving DecidableEq, Repr

/-- What one tensor block did in a rate window: region, handshakes its cells completed, nanoseconds it worked (R63). -/
structure TbWindow where
  region : Region
  handshakes : Nat
  worked : Nat
  deriving DecidableEq, Repr

/-- A source of page commands (R158): the PGM_CMD registers of a function, or a ring of it. -/
inductive PageSrc where
  | regs (fn : Nat)
  | ring (fn q : Nat)
  deriving DecidableEq, Repr

/-- A queue pair's number. -/
abbrev Qn := Fin 8



/-- The geometry of a KV table (Table 8-3). -/
structure KvGeometry where
  kind : Nat
  layers : Nat
  hkv : Nat
  d : Nat
  dv : Nat
  deriving DecidableEq, Repr

/-- Keys and values of one position in FP32 codes: element d of head g at index g · D + d. -/
structure KvRow where
  keys : List (BitVec 32)
  values : List (BitVec 32)
  deriving DecidableEq, Repr

/-- A serving stream's number. -/
abbrev StreamNo := Fin 256

/-- A decode session's number. -/
abbrev DecNo := Fin 128
/-- An encode session's number. -/
abbrev EncNo := Fin 32
/-- A decode core. -/
abbrev DecCore := Fin 6
/-- An encode core. -/
abbrev EncCore := Fin 2

/-- Sample planes in row order: luma, and chroma as Cb, Cr pairs of which one covers 2 × 2 luma samples; none for 4:0:0. -/
structure Planes where
  width : Nat
  height : Nat
  luma : List Nat
  chroma : List Nat
  deriving DecidableEq, Repr

/-- What the decoding process gives for one output frame (R400): a frame, a complementary pair of fields, or an unpaired field. -/
inductive CodedForm where
  | frame (p : Planes)
  | pair (top bottom : Planes)
  | field (p : Planes)
  deriving DecidableEq, Repr

/-- Profiles of Table 10-1; any other is `other`. -/
inductive StreamProfile where
  | main | main10 | mainStill | constrainedBaseline | high | other
  deriving DecidableEq, Repr

/-- What a sequence declares: profile, level times ten, chroma_format_idc, bit depth, picture size, reference pictures, and whether it uses a tool that Table 10-1 leaves out. -/
structure SequenceInfo where
  profile : StreamProfile
  level : Nat
  chroma : Nat
  depth : Nat
  width : Nat
  height : Nat
  refs : Nat
  otherTool : Bool
  /-- matrix_coefficients and the full-range flag of its colour description. -/
  matrix : Option Nat
  fullRange : Bool
  deriving DecidableEq, Repr

/-- A decoded picture as the decoding process of its standard gives it, cropped to its conformance window. -/
structure DecodedPicture where
  image : CodedForm
  /-- The same with film grain, where an AV1 stream carries it: pool outputs take it (R400). -/
  grained : Option Planes
  /-- The picture of its first reference, from which damaged blocks are concealed (R420); none for a picture without one. -/
  firstRef : Option Planes
  /-- Place in output order. -/
  order : Nat
  randomAccess : Bool
  /-- The stream outputs it. -/
  shown : Bool
  deriving DecidableEq, Repr

/-- The rows of Table 10-7 that the bitstream itself can meet below the sequence level. -/
inductive StreamFault where
  | unitInvalid | parameterSet | sliceData | sliceHeader | truncated | missingRef
  deriving DecidableEq, Repr

/-- The first access unit of a session's input queue that is whole: its bytes, as its standard delimits it. -/
structure DecUnit where
  ctx : Ctx
  session : DecNo
  bytes : Nat
  deriving DecidableEq, Repr

/-- What parsing and decoding one access unit under its standard gives: faults with their byte offsets; the 16 × 16 blocks that were not decoded, in raster order; bytes in no decodable unit; its sequence; and the picture. -/
structure DecodeOutcome where
  faults : List (StreamFault × Nat)
  concealed : List Nat
  discarded : Nat
  sequence : SequenceInfo
  picture : Option DecodedPicture
  deriving DecidableEq, Repr

/-- Which session an EVENT_HEAD doorbell names. -/
inductive CodecSession where
  | dec (s : DecNo)
  | enc (e : EncNo)
  deriving DecidableEq, Repr

/-- A ring of a pair of rings: 0 or 1. -/
abbrev RingNo := Fin 2

/-- What the host's memory gave a read descriptor: the bytes that arrived, and whether a completion was UR, CA or poisoned (R452). -/
structure DmaOutcome where
  bytes : List Byte
  hostError : Bool
  deriving DecidableEq, Repr

/-- A QOP frame as a TSN port receives it: port, sender, R-TAG if it has one, UDP payload. -/
structure QopFrame where
  port : TsnPort
  ip : BitVec 32
  udp : BitVec 16
  rtag : Option (BitVec 16)
  payload : List Byte
  deriving DecidableEq, Repr

/-- A session slot. -/
abbrev SessionNo := Fin 8
/-- A mailbox channel. -/
abbrev MbxNo := Fin 6

/-- Who casts a vote by a write (Table 13-3). -/
inductive VoteWriter where
  | host (fn : Fn)
  | session (slot : SessionNo)
  deriving DecidableEq, Repr

/-- What R550 measures in one window: mean current of the twelve rails in mA, in the order of Table 14-11, and mean input and package power in mW. -/
structure PowerWindow where
  rails : List Nat
  input : Nat
  package : Nat
  deriving DecidableEq, Repr

/-- Where a cap write comes from (R557). -/
inductive CapWriter where
  | dictionary
  | register (fn : Fn)
  deriving DecidableEq, Repr

/-- A holder that energy is attributed to (R576): a job, a serving step by its admission, or a context. -/
inductive EnergyHolder where
  | job (c : Ctx) (id : Nat)
  | step (c : Ctx) (seq : Nat)
  | context (c : Ctx)
  deriving DecidableEq, Repr

/-- The activities of Table 14-5 that units count beside the handshakes of the tensor blocks: lane handshakes of VB, AE, LE or CE, bytes of block SRAM and of region pools, flit-hops, HBM bytes and row activations, luma samples of a codec stage. -/
inductive EnergyTerm where
  | lanes (type : Fin 4)
  | sramRead | sramWritten | poolRead | poolWritten
  | flitHops
  | hbmRead | hbmWritten | activations
  | luma (stage : Fin 16)
  deriving DecidableEq, Repr

/-- Such an activity of an interval: in which compute region and at which of its set points in mV where it is one of lanes, and how often. -/
structure EnergyCount where
  term : EnergyTerm
  region : Region
  mv : Nat
  count : Nat
  deriving DecidableEq, Repr

/-- A path on which pair bodies travel (R604, R609). -/
inductive PairPath where
  | tsnA | tsnB | fabric
  deriving DecidableEq, Repr

/-- A pair body as it arrives (Table 15-10); KIND is that of the command. -/
structure PairBody where
  role : Nat
  pairId : Nat
  place : Nat
  partner : Nat
  health : Nat
  epoch : Nat
  tide : Nat
  seq : Nat
  leftUs : Nat
  mirrorSeq : Nat
  config : Nat
  mac : List Byte
  deriving DecidableEq, Repr

/-- A heartbeat path. -/
inductive BeatPath where
  | tsn | fabric
  deriving DecidableEq, Repr

/-- A reported edge of the wait-for graph (Table 16-15). -/
structure WfgEdge where
  since : Nat
  waiterKind : Nat
  holderKind : Nat
  waiterCtx : Nat
  holderCtx : Nat
  waiterId : Nat
  holderId : Nat
  reason : Nat
  source : Nat
  deriving DecidableEq, Repr

/-- An event counter (Table 16-1). -/
inductive CounterRef where
  | block (id : BitVec 12) (i : Fin 4)
  | region (r : Fin 11) (j : Fin 16)
  | chip (k : Fin 64)
  deriving DecidableEq, Repr

/-- A STOP pair body (Table 16-8). -/
structure StopBody where
  originPlace : BitVec 8
  hops : BitVec 8
  originTide : BitVec 64
  triggerId : BitVec 32
  deriving DecidableEq, Repr

/-- What the capture path reads out of a held unit (Table 16-12). -/
inductive HeldBody where
  /-- BLOCK_STATE: STATE, an uncorrected error pending, operator index or step number. -/
  | blockState (state : Nat) (uncorrected : Bool) (index : BitVec 32)
  /-- CHANNEL: FROM, TO, KIND, hop or port, ORDER, and the 1 to 256 bytes held. -/
  | channel (source dest : BitVec 12) (kind hop : Nat) (order : BitVec 32) (payload : List Byte)
  /-- SCAN: the unit's bits in scan order. -/
  | scan (bits : List Byte)
  deriving DecidableEq, Repr

/-- State held at a stop in a unit: the block, the context whose it is, and the body of its record (R649, R653). -/
structure HeldUnit where
  block : BitVec 12
  ctx : Option Ctx
  body : HeldBody
  deriving DecidableEq, Repr

/-- What a unit's checks find (Tables 1-11 and 18-3). An HBM unit is 64 B of the device address space, by number. -/
inductive UnitEvent where
  /-- A block of a compute region has held one handshake for 10 ms. -/
  | hang (r : Region) (block : Fin 32)
  /-- The region arbiter's own state holds an uncorrected error. -/
  | arbiter (r : Region)
  /-- An HBM read met one bad symbol, which is corrected; its syndrome. -/
  | correctedHbm (unit : Nat) (syndrome : BitVec 32)
  /-- A read of a block's SRAM met one bad bit, which is corrected; its word and syndrome. -/
  | correctedSram (block : BitVec 12) (word : Nat) (syndrome : BitVec 32)
  /-- A read of block SRAM or of a VB register file met an uncorrected error: how often the block repeated the work item, and whether the last attempt failed too, so that its result is poisoned. -/
  | retried (r : Region) (block : Fin 32) (word : Nat) (attempts : Fin 4) (poisoned : Bool)
  /-- An HBM read met two bad symbols: the unit's content is lost and every read of it delivers poison. -/
  | lostHbm (unit : Nat)
  deriving DecidableEq, Repr

/-- Who gives a Slack or wait-for command: a function through EVC_SLACK_CTRL, or the dictionary (R664). -/
inductive SlackWriter where
  | register (fn : Fn)
  | dictionary
  deriving DecidableEq, Repr



/-- CAUSE of a chip-level fault (Table 18-5). -/
inductive FaultCause where
  | thermalTrip | railFault | d2dLink | nocHop | sharedState | domainDown | firmware | regionsExhausted
  deriving DecidableEq, Repr

/-- The Board area of the identity EEPROM (R719). -/
structure BoardIdentity where
  serial : List Byte
  revision : BitVec 8
  macA : List Byte
  macB : List Byte
  deriving DecidableEq, Repr

/-- What the schema part's migration table says of an entry (R683). -/
inductive MigrateAction where
  | keep
  /-- Carried to a new KEY: index · 256 + sub-index. -/
  | move (key : Nat)
  /-- Multiplied by a ratio. -/
  | scale (num den : Nat)
  | drop
  deriving DecidableEq, Repr

/-- What a boot stage finds (R733): whether its parts verified, whether the replay-protected area authenticates, the calibration record if it verified (VT by 8r + b, P_base), the EEPROM if its checksum holds, the bank's capacitance in 0.1 mF, the measurement digests, the journal's scan. -/
structure BootReport where
  verified : Bool
  areaOk : Bool
  calibration : Option (List Nat × Nat)
  identity : Option BoardIdentity
  bankTenths : Nat
  digests : List (List Byte)
  /-- What the journal's scan meets (R681): torn records, segments it ends early in, SEQs that it does not reach. -/
  torn : Nat
  corrupt : List Nat
  unread : List Nat
  /-- The migration table by index · 256 + sub-index; an entry it does not name is kept (R683). -/
  migration : List (Nat × MigrateAction)
  deriving DecidableEq, Repr

/-- Where a register write goes. The two forms `readW0` and `readW2` are the host's reads of a register that has no row of its own: R12's access codes give them their effect. -/
inductive RegSpace where
  | w0 | w2
  | readW0 | readW2
  /-- The fields of configuration space that the spec acts on: 0 VF Enable, 1 Bus Master Enable, 2 ASPM L1 enable, 3 ASPM L1.2 enable. -/
  | config
  deriving DecidableEq, Repr

/-- The commands of the block: one constructor per row of the opcode table; those that stand last come at a time of their own. -/
inductive Instr where
  /-- D2D_FLIT_RETRY: flit `flit` of a link fails its CRC and is re-sent (R26). -/
  | d2dFlitRetry (link : D2D) (flit : Nat)
  /-- D2D_LINK_FAILED: the flit fails for the eighth time in a row (R27). -/
  | d2dLinkFailed (link : D2D) (flit : Nat)
  /-- REGION_FAULT: a region-level fault (R37 step 1). -/
  | regionFault (r : Region)
  /-- EVC_TIDE_NOW_LO_READ: 32-bit read of W0+0x0061_0000 (R91). -/
  | evcTideNowLoRead (fn : Fn)
  /-- W4_READ: `len` bytes at W4 offset `off` (R142). -/
  | w4Read (fn : Fn) (off : BitVec 36) (len : BitVec 13)
  /-- W4_WRITE: bytes at W4 offset `off` (R142). -/
  | w4Write (fn : Fn) (off : BitVec 36) (bytes : List Byte)
  /-- PGM_W4_DROPS_READ: a read of PGM_W4_DROPS (R183). -/
  | pgmW4DropsRead (fn : Fn)
  /-- ALLOC: the oldest page command of the source executes, an ALLOC (R156). -/
  | alloc (src : PageSrc)
  /-- RELEASE (R156, R157). -/
  | release (src : PageSrc)
  /-- RELEASE_WAIT_END: the pins of the oldest waiting RELEASE of the source have ended (R157). -/
  | releaseWaitEnd (src : PageSrc)
  /-- SHARE (R156). -/
  | share (src : PageSrc)
  /-- COPY (R156). -/
  | copy (src : PageSrc)
  /-- PIN (R156). -/
  | pin (src : PageSrc)
  /-- UNPIN (R156). -/
  | unpin (src : PageSrc)
  /-- QUERY (R156). -/
  | query (src : PageSrc)
  /-- ZERO (R156). -/
  | zero (src : PageSrc)
  /-- COW_BREAK: a block of job `job` writes bytes at a CVA whose page has a reference count above 1 (R161). -/
  | cowBreak (job : Nat) (cva : BitVec 38) (bytes : List Byte)
  /-- COW_COPY_DONE: the copy of a stall is complete (R161). -/
  | cowCopyDone (stall : Nat)
  /-- SQ_TAIL doorbell (R206). -/
  | sqTail (fn : Fn) (q : Qn) (value : BitVec 16)
  /-- CQ_HEAD doorbell (R209). -/
  | cqHead (fn : Fn) (q : Qn) (value : BitVec 16)
  /-- QUEUE_ENABLE: PGM_Q_CTRL is written with ENABLE = 1 (R204). -/
  | queueEnable (fn : Fn) (q : Qn) (irqEn : Bool)
  /-- QUEUE_DISABLE: PGM_Q_CTRL is written with ENABLE = 0 (R210). -/
  | queueDisable (fn : Fn) (q : Qn) (irqEn : Bool)
  /-- RING_ENTRY_FETCH (R202). -/
  | ringEntryFetch (fn : Fn) (q : Qn)
  /-- NOP: the next entry of the ring starts, a NOP (R198). -/
  | nop (fn : Fn) (q : Qn)
  /-- LOAD (R200, R214). -/
  | load (fn : Fn) (q : Qn)
  /-- RUN (R214). -/
  | run (fn : Fn) (q : Qn)
  /-- UNLOAD (R221). -/
  | unload (fn : Fn) (q : Qn)
  /-- PAGE_ENTRY (R198). -/
  | pageEntry (fn : Fn) (q : Qn)
  /-- SIGNAL (R203). -/
  | signal (fn : Fn) (q : Qn)
  /-- WAIT (R203). -/
  | wait (fn : Fn) (q : Qn)
  /-- COMPLETION_RECORD_WRITE (R208). -/
  | completionRecordWrite (fn : Fn) (q : Qn)
  /-- MATMUL: an issued operator of a job computes its outputs (R241). -/
  | matmul (job : Nat) (op : Nat)
  /-- CONV2D: an issued operator of a job computes its outputs (R279). -/
  | conv2d (job : Nat) (op : Nat)
  /-- CONV2D_GROUPED: an issued operator of a job computes its outputs (R291). -/
  | conv2dGrouped (job : Nat) (op : Nat)
  /-- MAXPOOL2D: an issued operator of a job computes its outputs (R294). -/
  | maxpool2d (job : Nat) (op : Nat)
  /-- AVGPOOL2D: an issued operator of a job computes its outputs (R295). -/
  | avgpool2d (job : Nat) (op : Nat)
  /-- ATTENTION: an issued operator of a job computes its outputs (R245). -/
  | attention (job : Nat) (op : Nat)
  /-- LAYERNORM: an issued operator of a job computes its outputs (R247). -/
  | layernorm (job : Nat) (op : Nat)
  /-- RMSNORM: an issued operator of a job computes its outputs (R247). -/
  | rmsnorm (job : Nat) (op : Nat)
  /-- SOFTMAX: an issued operator of a job computes its outputs (R247). -/
  | softmax (job : Nat) (op : Nat)
  /-- GROUPNORM: an issued operator of a job computes its outputs (R249). -/
  | groupnorm (job : Nat) (op : Nat)
  /-- ROPE: an issued operator of a job computes its outputs (R250). -/
  | rope (job : Nat) (op : Nat)
  /-- EMBED_GATHER: an issued operator of a job computes its outputs (R251). -/
  | embedGather (job : Nat) (op : Nat)
  /-- TOPK: an issued operator of a job computes its outputs (R257). -/
  | topk (job : Nat) (op : Nat)
  /-- SAMPLE: an issued operator of a job computes its outputs (R259). -/
  | sample (job : Nat) (op : Nat)
  /-- ARGMAX: an issued operator of a job computes its outputs (R258). -/
  | argmax (job : Nat) (op : Nat)
  /-- RESIZE: an issued operator of a job computes its outputs (R261). -/
  | resize (job : Nat) (op : Nat)
  /-- COLOR_CONVERT: an issued operator of a job computes its outputs (R263). -/
  | colorConvert (job : Nat) (op : Nat)
  /-- CONVERT: an issued operator of a job computes its outputs (R253). -/
  | convert (job : Nat) (op : Nat)
  /-- TRANSPOSE: an issued operator of a job computes its outputs (R254). -/
  | transpose (job : Nat) (op : Nat)
  /-- REDUCE: an issued operator of a job computes its outputs (R256). -/
  | reduce (job : Nat) (op : Nat)
  /-- CONCAT: an issued operator of a job computes its outputs (R255). -/
  | concat (job : Nat) (op : Nat)
  /-- MAP: an issued operator of a job computes its outputs (R264). -/
  | map (job : Nat) (op : Nat)
  /-- KVT_READ: the PGM_KVT command of a function executes (R317). -/
  | kvtRead (fn : Fn)
  /-- KV_CREATE for a context (R313). -/
  | kvCreate (c : Ctx) (g : KvGeometry)
  /-- KV_EXTEND: append a span (R313). -/
  | kvExtend (table : BitVec 16) (tcode : BitVec 3) (fmt : BitVec 4)
  /-- KV_WRITE: the keys and values of positions of one layer from LENGTH onward (R313). -/
  | kvWrite (table : BitVec 16) (layer : Nat) (rows : List KvRow)
  /-- KV_ADVANCE (R313). -/
  | kvAdvance (table : BitVec 16) (n : Nat)
  /-- KV_FORK: a new table of a KIND names the pages of positions 0 to p − 1 (R313). -/
  | kvFork (table : BitVec 16) (kind : Nat) (p : Nat)
  /-- KV_TRUNCATE (R313). -/
  | kvTruncate (table : BitVec 16) (p : Nat)
  /-- KV_REPLACE: the pages of one span are replaced by those of `spans`, each a TCODE with LAYERS page-header slots (R313). -/
  | kvReplace (table : BitVec 16) (span : Nat) (spans : List (Nat × List Nat)) (wait : Bool)
  /-- KV_DESTROY (R313). -/
  | kvDestroy (table : BitVec 16)
  /-- SPEC_OPEN (R339). -/
  | specOpen (table : BitVec 16) (n : Nat)
  /-- COMMIT with c accepted positions (R344). -/
  | commit (table : BitVec 16) (c : Nat)
  /-- ROLLBACK (R345). -/
  | rollback (table : BitVec 16)
  /-- EDIT_PENDING_EXECUTE: the oldest pending edit of the table executes (R334). -/
  | editPendingExecute (table : BitVec 16)
  /-- MODEL_BIND (R352). -/
  | modelBind (fn : Fn) (q : Qn)
  /-- MODEL_UNBIND (R354). -/
  | modelUnbind (fn : Fn) (q : Qn)
  /-- MODEL_UNBIND_DONE: no request names the slot any more (R354). -/
  | modelUnbindDone (c : Ctx) (slot : Fin 4)
  /-- CUSTOMER_SET (R364). -/
  | customerSet (fn : Fn) (q : Qn)
  /-- SUBMIT (R357, R358). -/
  | submit (fn : Fn) (q : Qn)
  /-- CANCEL (R388). -/
  | cancel (fn : Fn) (q : Qn)
  /-- ADAPTER_LOAD (R390, R391). -/
  | adapterLoad (fn : Fn) (q : Qn)
  /-- ADAPTER_RETIRE (R391). -/
  | adapterRetire (fn : Fn) (q : Qn)
  /-- ADAPTER_FORCE_DONE: the forced requests have ended and the generation is freed (R392). -/
  | adapterForceDone (gen : Fin 256)
  /-- ADAPTER_GEN_FREE: a generation that is not current and that no request pins is freed (R391). -/
  | adapterGenFree (gen : Fin 256)
  /-- STREAM_OPEN (R369). -/
  | streamOpen (fn : Fn) (q : Qn)
  /-- STREAM_CLOSE (R369). -/
  | streamClose (fn : Fn) (q : Qn)
  /-- STREAM_CLOSE_DONE: no request names the stream any more. -/
  | streamCloseDone (c : Ctx) (stream : StreamNo)
  /-- REQ_READ (R359). -/
  | reqRead (fn : Fn) (q : Qn)
  /-- SERVING_REGIONS_TAKE (R353). -/
  | servingRegionsTake (c : Ctx)
  /-- SAMPLER_ROW (R375). -/
  | samplerRow
  /-- STREAM_RECORD_WRITE: the next due record of a stream (R373). -/
  | streamRecordWrite (c : Ctx) (stream : StreamNo)
  /-- STREAM_HEAD doorbell (R371). -/
  | streamHead (fn : Fn) (stream : StreamNo) (value : BitVec 16)
  /-- REQUEST_FREE: an ENDING request becomes FREE (Table 9-6). -/
  | requestFree (req : Fin 8192)
  /-- VDEC_OPEN (R409). -/
  | vdecOpen (fn : Fn) (q : Qn)
  /-- VDEC_FEED (R410). -/
  | vdecFeed (fn : Fn) (q : Qn)
  /-- VDEC_FEED_DONE: the queue has space and the bytes are copied (R410). -/
  | vdecFeedDone (c : Ctx) (s : DecNo)
  /-- VDEC_CLOSE (Table 10-3). -/
  | vdecClose (fn : Fn) (q : Qn)
  /-- VDEC_CLOSE_DONE: the END record with LAST = 1 is written and the resources are released. -/
  | vdecCloseDone (c : Ctx) (s : DecNo)
  /-- VENC_OPEN (R426). -/
  | vencOpen (fn : Fn) (q : Qn)
  /-- VENC_FRAME (R428). -/
  | vencFrame (fn : Fn) (q : Qn)
  /-- VENC_CLOSE (Table 10-3). -/
  | vencClose (fn : Fn) (q : Qn)
  /-- VENC_CLOSE_DONE. -/
  | vencCloseDone (c : Ctx) (e : EncNo)
  /-- VENC_RATE (R437). -/
  | vencRate (fn : Fn) (q : Qn)
  /-- EVENT_HEAD doorbell (R407, R416). -/
  | eventHead (fn : Fn) (session : CodecSession) (value : BitVec 16)
  /-- OUT_HEAD doorbell (R407, R439). -/
  | outHead (fn : Fn) (e : EncNo) (value : BitVec 32)
  /-- RETURN doorbell (R414). -/
  | outReturn (fn : Fn) (s : DecNo) (value : BitVec 32)
  /-- DECODE_OUTPUT: the next picture in output order (R414, R415). -/
  | decodeOutput (c : Ctx) (s : DecNo)
  /-- EVENT_RECORD_WRITE: the next event record of a session (R416). -/
  | eventRecordWrite (c : Ctx) (session : CodecSession)
  /-- FLR of a function (R448). -/
  | flr (fn : Fn)
  /-- VF_ENABLE_CLEAR (R448). -/
  | vfEnableClear
  /-- ENDPOINT_RESET: a conventional reset of the endpoint (R448). -/
  | endpointReset
  /-- DMA_TAIL doorbell (R450). -/
  | dmaTail (fn : Fn) (d : RingNo) (value : BitVec 32)
  /-- DMA_RING_ENABLE: a write to PGM_DMA_CTRL with ENABLE = 1 (R450). -/
  | dmaRingEnable (fn : Fn) (d : RingNo) (value : BitVec 32)
  /-- DMA_RING_DISABLE: a write to PGM_DMA_CTRL with ENABLE = 0 (R451). -/
  | dmaRingDisable (fn : Fn) (d : RingNo) (value : BitVec 32)
  /-- DMA_DESCRIPTOR_START (R451). -/
  | dmaDescriptorStart (fn : Fn) (d : RingNo)
  /-- DMA_DESCRIPTOR_DONE (R452, R453). -/
  | dmaDescriptorDone (fn : Fn) (d : RingNo) (outcome : DmaOutcome)
  /-- CTX_CREATE: the SEC_CTX command executes, a CREATE (R458). -/
  | ctxCreate
  /-- CTX_DESTROY (R458). -/
  | ctxDestroy
  /-- CTX_SET (R458). -/
  | ctxSet
  /-- SEC_SCHED_WRITE (R460). -/
  | secSchedWrite (fn : Fn) (value : BitVec 32)
  /-- TEARDOWN: a due teardown starts (R467 steps 1 and 2). -/
  | teardown (c : Ctx)
  /-- LATE_COMPLETION (R468). -/
  | lateCompletion (c : Ctx)
  /-- TLP_RECEIVE: a TLP to a window of a function, posted or not, on the function's stream or not (R474). -/
  | tlpReceive (fn : Fn) (posted : Bool) (onStream : Bool)
  /-- KEY_PROG: key set, direction (true transmit), sub-stream (0 PR, 1 NPR, 2 CPL) (R472). -/
  | keyProg (c : Ctx) (set : Fin 2) (tx : Bool) (sub : Fin 3) (key : BitVec 256)
  /-- K_SET_GO (R473). -/
  | kSetGo (c : Ctx) (set : Fin 2)
  /-- IDE_INTEGRITY_FAILURE of a stream (R475). -/
  | ideIntegrityFailure (c : Ctx)
  /-- TDISP GET_VERSION (R476). -/
  | tdispGetVersion (fn : Fn)
  /-- TDISP GET_CAPABILITIES (R476). -/
  | tdispGetCapabilities (fn : Fn)
  /-- LOCK_INTERFACE_REQUEST (R477). -/
  | lockInterfaceRequest (fn : Fn)
  /-- GET_DEVICE_INTERFACE_REPORT (R478). -/
  | getDeviceInterfaceReport (fn : Fn)
  /-- GET_DEVICE_INTERFACE_STATE (R476). -/
  | getDeviceInterfaceState (fn : Fn)
  /-- START_INTERFACE_REQUEST (R477). -/
  | startInterfaceRequest (fn : Fn)
  /-- STOP_INTERFACE_REQUEST (R457). -/
  | stopInterfaceRequest (fn : Fn)
  /-- TDISP_UNSUPPORTED: any other TDISP request (R476). -/
  | tdispUnsupported (fn : Fn) (code : BitVec 8)
  /-- TDI_CONFIG_CHANGE: a change to locked configuration (R478). -/
  | tdiConfigChange (fn : Fn)
  /-- SPDM NEGOTIATE_ALGORITHMS: whether the offer holds matching algorithms (R479). -/
  | spdmNegotiateAlgorithms (matching : Bool)
  /-- SPDM GET_CERTIFICATE of a slot (R480). -/
  | spdmGetCertificate (slot : Fin 8)
  /-- SPDM CHALLENGE of a slot (R479). -/
  | spdmChallenge (slot : Fin 8)
  /-- SPDM GET_MEASUREMENTS: an index, or 0xFF for all (R481). -/
  | spdmGetMeasurements (index : BitVec 8)
  /-- SPDM KEY_EXCHANGE for a session number (R479). -/
  | spdmKeyExchange (session : BitVec 16)
  /-- SPDM_SESSION_END (R528). -/
  | spdmSessionEnd (session : BitVec 16)
  /-- OPEN_REQ (R499). -/
  | openReq (f : QopFrame)
  /-- OPEN_AUTH (R500). -/
  | openAuth (f : QopFrame)
  /-- QOP CLOSE (R503). -/
  | qopClose (f : QopFrame)
  /-- QOP READ (R505). -/
  | qopRead (f : QopFrame)
  /-- QOP WRITE (R505). -/
  | qopWrite (f : QopFrame)
  /-- QOP_EVENT: every session with an unsent event sends its oldest (R506). -/
  | qopEvent
  /-- ARP_REQUEST for an address (R493). -/
  | arpRequest (port : TsnPort) (target : BitVec 32)
  /-- ICMP_ECHO with its data (R493). -/
  | icmpEcho (port : TsnPort) (target : BitVec 32) (data : List Byte)
  /-- GCL_CONFIG_CHANGE: a write of 1 to CONFIG_CHANGE acts (R495). -/
  | gclConfigChange
  /-- RW_P_DURABLE: the oldest pending RW-P write's record is durable (R508). -/
  | rwPDurable
  /-- RESTORE_DEFAULTS is written (R509). -/
  | restoreDefaults
  /-- MBX_GO: a write to MBX_OUT_CTRL with GO = 1 (R511). -/
  | mbxGo (fn : Fn) (ch : MbxNo) (value : BitVec 32) (viaIde : Bool)
  /-- MBX_IN_RELEASE: a write to MBX_IN_CTRL with FULL = 1 (R516). -/
  | mbxInRelease (fn : Fn) (ch : MbxNo) (value : BitVec 32) (viaIde : Bool)
  /-- MBX_DOMAIN_READ (R517). -/
  | mbxDomainRead (fn : Fn)
  /-- ECHO: the target takes a message whose COMMAND is ECHO, or one that Table 12-10 does not list (R512). -/
  | echo (fn : Fn) (ch : MbxNo)
  /-- DICT_READ (R512). -/
  | dictRead (fn : Fn) (ch : MbxNo)
  /-- DICT_WRITE (R512). -/
  | dictWrite (fn : Fn) (ch : MbxNo)
  /-- KEY_SET (R513). -/
  | keySet (fn : Fn) (ch : MbxNo)
  /-- KEY_CLEAR (R513). -/
  | keyClear (fn : Fn) (ch : MbxNo)
  /-- PASSWORD_SET (R513). -/
  | passwordSet (fn : Fn) (ch : MbxNo)
  /-- NET_RESET (R514). -/
  | netReset (fn : Fn) (ch : MbxNo)
  /-- PEER_MAIL: a peer mailbox message has arrived (R519). -/
  | peerMail
  /-- PWR_VOTE_WRITE: PWR_VOTE of a function or SESSION_VOTE of a session (R526). -/
  | pwrVoteWrite (who : VoteWriter) (value : BitVec 32)
  /-- CAP_WRITE: a requested cap in W (R557, R558). -/
  | capWrite (who : CapWriter) (watts : Nat)
  /-- MARGIN_RAISE for a region and band (R570). -/
  | marginRaise (r : Region) (band : Fin 8)
  /-- TIME_REQ with T1 on a port (R590). -/
  | timeReq (port : FabPort) (t1 : BitVec 64)
  /-- NAK naming a SEQ (R587). -/
  | nak (port : FabPort) (seq : BitVec 16)
  /-- LINK_TRAINED (R584, R595). -/
  | linkTrained (port : FabPort)
  /-- DMA_DATA: the next DMA_DATA segment that has arrived (R597, R599). -/
  | dmaData
  /-- DMA_RESULT (R598). -/
  | dmaResult
  /-- MIRROR (R615). -/
  | mirror
  /-- MIRROR_ACK (R616). -/
  | mirrorAck
  /-- SNAPSHOT (R617). -/
  | snapshot
  /-- REPLAY (R623). -/
  | replay
  /-- REPLAY_RUN_DONE: the output planes that the replayed RUN wrote, in the order of R599 item 6 (R622). -/
  | replayRunDone (outputs : List Byte)
  /-- COMPARE_RESULT (R623). -/
  | compareResult
  /-- COMPARE_OUTPUT: an OUTPUT message (R624). -/
  | compareOutput
  /-- PLACE_ANNOUNCE (R595). -/
  | placeAnnounce
  /-- PEER_VOTE (R594). -/
  | peerVote
  /-- FAB_SCRUB_DONE (R466). -/
  | fabScrubDone
  /-- FAB_CTX_GONE (R470). -/
  | fabCtxGone
  /-- FAB_XFER_DOORBELL (R628). -/
  | fabXferDoorbell (fn : Fn) (d : RingNo) (value : BitVec 32)
  /-- FAB_XFER_START (R597). -/
  | fabXferStart (fn : Fn) (d : RingNo)
  /-- TEST_ACK (R600). -/
  | testAck (port : FabPort) (accepted : Bool)
  /-- BER_TEST is written (R600). -/
  | berTest (value : BitVec 8)
  /-- RELINQUISH is written (R613). -/
  | relinquish
  /-- PLACE_ADOPT is written (R625). -/
  | placeAdopt (place : Place)
  /-- EVC_SEL_WRITE (R632). -/
  | evcSelWrite (fn : Fn) (c : CounterRef) (value : BitVec 32)
  /-- EVC_CNT_LO_READ: low half of a counter's live word or last-command word (R637). -/
  | evcCntLoRead (fn : Fn) (c : CounterRef) (last : Bool)
  /-- EVC_SNAP_GO: EVC_SNAP_CTRL is written with GO = 1 (R638). -/
  | evcSnapGo (fn : Fn) (value : BitVec 32)
  /-- SLACK_TRIGGER by the HOST source (R641). -/
  | slackTrigger (who : SlackWriter)
  /-- STOP on a port (R647). -/
  | stop (port : FabPort) (body : StopBody)
  /-- SLACK_RESUME (R650). -/
  | slackResume (who : SlackWriter)
  /-- SLACK_SCAN (R650). -/
  | slackScan (who : SlackWriter)
  /-- UPD_BEGIN: the update command executes, a BEGIN (R671). -/
  | updBegin
  /-- UPD_DATA (R671). -/
  | updData
  /-- UPD_END (R671). -/
  | updEnd
  /-- UPD_ABORT (R671). -/
  | updAbort
  /-- UPD_ACTIVATE (R671). -/
  | updActivate
  /-- UPD_CANCEL (R671). -/
  | updCancel
  /-- JOURNAL_RECORD_DURABLE (R679). -/
  | journalRecordDurable
  /-- JOURNAL_COMPACT: at 75 % use, or by a write (R682). -/
  | journalCompact (byWrite : Bool)
  /-- COMPACT_DONE (R682). -/
  | compactDone
  /-- FLASH_FAULT at a flash offset (R685). -/
  | flashFault (offset : BitVec 30)
  /-- CHIP_FAULT with its cause (R43). -/
  | chipFault (cause : FaultCause)
  /-- NOC_HOP_RESEND on a hop (R688). -/
  | nocHopResend (hop : Nat)
  /-- SWEEP_START (R701). -/
  | sweepStart
  /-- BLOCK_HANG of a block of a region (R691). -/
  | blockHang (dt : Nat) (event : UnitEvent)
  /-- EXTRACT_N changes to this level (R714). -/
  | extractN (level : Bool)
  /-- EOFF_N changes to this level (R715). -/
  | eoff (dt : Nat) (level : Bool)
  /-- WAKE_N has been at this level for 1 ms (R716). -/
  | wakeN (dt : Nat) (level : Bool)
  /-- PERST_N is asserted (R717). -/
  | perstN (dt : Nat)
  /-- PERST_N_RELEASE (R717). -/
  | perstNRelease (dt : Nat)
  /-- SLOT_ID_CHANGE: the straps as they read now (R718). -/
  | slotIdChange (pins : Place)
  /-- FEED_RANGE: the feed in mV has been there for 1 ms (R720). -/
  | feedRange (milliVolt : BitVec 16)
  /-- PWR_RESET is written (R735). -/
  | pwrReset (dt : Nat) (fn : Fn) (value : BitVec 32)
  /-- TSN_LINK_CHANGE (R725). -/
  | tsnLinkChange (port : TsnPort) (up : Bool)
  /-- REGISTER_WRITE of a 32- or 64-bit value at an offset (R12). -/
  | registerWrite (fn : Fn) (space : RegSpace) (offset : BitVec 28) (value : BitVec 64) (wide : Bool) (viaIde : Bool)
  /-- REGION_DRAINED: the drain ends (R37 steps 2 to 5). -/
  | regionDrained (dt : Nat) (r : Region)
  /-- REGION_SELFTEST_DONE: the region's self-test ends (R37 step 6, R40). -/
  | regionSelftestDone (dt : Nat) (r : Region) (pass : Bool)
  /-- RATE_WINDOW_END: a window of 1,048,576 ns ends (R63). -/
  | rateWindowEnd (dt : Nat) (tbs : List TbWindow)
  /-- GPTP_SYNC_RECEIVE: a sync message with its domain, logSyncInterval, clock priority, origin time at the module's ingress and the discipline's error estimate in ns (R76). -/
  | gptpSyncReceive (dt : Nat) (port : TsnPort) (domain : BitVec 7) (logSync : Int) (priority : Nat) (sourceTime : BitVec 64) (err : BitVec 32)
  /-- TIDE_PPS_EDGE: a rising edge on TIDE_PPS (R81). -/
  | tidePpsEdge (dt : Nat)
  /-- TIDE_REF_VALID (R83). -/
  | tideRefValid (dt : Nat)
  /-- TIDE_REF_INVALID (R83). -/
  | tideRefInvalid (dt : Nat)
  /-- SOURCE_INVALID: three expected intervals pass without a sync message (R84). -/
  | sourceInvalid (dt : Nat) (src : TimeInput)
  /-- SOURCE_SELECT (R85). -/
  | sourceSelect (dt : Nat)
  /-- TIDE_ACQUIRE (R87). -/
  | tideAcquire (dt : Nat)
  /-- TIDE_LOCK (R87, R71). -/
  | tideLock (dt : Nat)
  /-- TIDE_UNLOCK (R87). -/
  | tideUnlock (dt : Nat)
  /-- HOLDOVER_EXPIRE (R88). -/
  | holdoverExpire (dt : Nat)
  /-- FABRIC_TIME_REQ_SEND (R79). -/
  | fabricTimeReqSend (dt : Nat)
  /-- PEER_DELAY on a TSN port (R76). -/
  | peerDelay (dt : Nat) (port : TsnPort) (kind : PeerDelayKind)
  /-- FILL_FRAME_DONE: the fill engine ends the frame at the head of its queue (R166). -/
  | fillFrameDone (dt : Nat)
  /-- COPY_FRAME_DONE: the fill engine ends the copy at the head of its queue (R170). -/
  | copyFrameDone (dt : Nat)
  /-- WAIT_TEST (R203). -/
  | waitTest (dt : Nat) (fn : Fn) (q : Qn)
  /-- WAIT_TIMEOUT (R203). -/
  | waitTimeout (dt : Nat) (fn : Fn) (q : Qn)
  /-- JOB_PLACE (R218). -/
  | jobPlace (dt : Nat)
  /-- OPERATOR_COMPLETE (R219). -/
  | operatorComplete (dt : Nat) (job : Nat) (op : Nat)
  /-- JOB_COMPLETE (R211). -/
  | jobComplete (dt : Nat) (job : Nat)
  /-- SERVING_REGIONS_RETURN (R353). -/
  | servingRegionsReturn (dt : Nat) (c : Ctx)
  /-- DECODE_STEP_ISSUE (R366). -/
  | decodeStepIssue (dt : Nat) (c : Ctx)
  /-- PREFILL_ROW_ISSUE (R367). -/
  | prefillRowIssue (dt : Nat) (c : Ctx)
  /-- SPEC_STEP_ISSUE (R385). -/
  | specStepIssue (dt : Nat) (c : Ctx)
  /-- SERVING_STEP_COMPLETE (R360). -/
  | servingStepComplete (dt : Nat) (c : Ctx)
  /-- SERVING_STEP_FAULT (R389). -/
  | servingStepFault (dt : Nat) (c : Ctx)
  /-- REQUEST_DEADLINE_MISSED (R368). -/
  | requestDeadlineMissed (dt : Nat) (req : Fin 8192)
  /-- NO_MEMORY_TIMEOUT: 100 ms of WAIT_REASON NO_MEMORY (R383). -/
  | noMemoryTimeout (dt : Nat) (req : Fin 8192)
  /-- DECODE_PICTURE_START: a free core takes the next access unit of the session R404 names; `units` are the whole units that head the input queues. -/
  | decodePictureStart (dt : Nat) (core : DecCore) (units : List DecUnit)
  /-- DECODE_PICTURE_DONE (R419). -/
  | decodePictureDone (dt : Nat) (core : DecCore) (outcome : DecodeOutcome)
  /-- PICTURE_TIMEOUT: the time budget is exceeded (R418). -/
  | pictureTimeout (dt : Nat) (core : DecCore) (outcome : DecodeOutcome)
  /-- ENCODE_PICTURE_START (R404, R433). -/
  | encodePictureStart (dt : Nat) (core : EncCore)
  /-- SLICE_WRITE: the next slice of the picture that a core codes for a session is written (R435, R438). -/
  | sliceWrite (dt : Nat) (core : EncCore) (c : Ctx) (e : EncNo)
  /-- ENCODE_PICTURE_DONE (R435, R432). -/
  | encodePictureDone (dt : Nat) (core : EncCore)
  /-- DMA_TIMEOUT: a completion is 10 ms overdue; the bytes that had arrived (R452). -/
  | dmaTimeout (dt : Nat) (fn : Fn) (d : RingNo) (bytes : List Byte)
  /-- CONTEXT_START (R461). -/
  | contextStart (dt : Nat)
  /-- SLICE_END: the slice ends, or the running context is no longer a candidate (R461, R462). -/
  | sliceEnd (dt : Nat)
  /-- CONTEXT_SWITCH_REGIONS_FREE (R462). -/
  | contextSwitchRegionsFree (dt : Nat)
  /-- CONTEXT_CLEAR_DONE (R464). -/
  | contextClearDone (dt : Nat)
  /-- SLICE_OVERRUN of a job (R463). -/
  | sliceOverrun (dt : Nat) (job : Nat)
  /-- TEARDOWN_WAIT_END (R467 steps 3 and 4). -/
  | teardownWaitEnd (dt : Nat) (c : Ctx)
  /-- TEARDOWN_SCRUB_START (R465). -/
  | teardownScrubStart (dt : Nat) (c : Ctx)
  /-- TEARDOWN_SCRUB_DONE (R465, R467 step 6). -/
  | teardownScrubDone (dt : Nat) (c : Ctx)
  /-- OPEN_TIMEOUT of an opening session (R499). -/
  | openTimeout (dt : Nat) (session : SessionNo)
  /-- SLOT_LOCK_EXPIRE of a key slot, 8 for the password (R502). -/
  | slotLockExpire (dt : Nat) (slot : Fin 9)
  /-- SESSION_IDLE_TIMEOUT (R503). -/
  | sessionIdleTimeout (dt : Nat) (session : SessionNo)
  /-- GCL_ACTIVATE (R495). -/
  | gclActivate (dt : Nat)
  /-- RUN_TO_IDLE (R532). -/
  | runToIdle (dt : Nat)
  /-- STATE_DROP: entry to the next deeper state begins (R531, R533). -/
  | stateDrop (dt : Nat)
  /-- POWER_ENTRY_DONE (R532, R533). -/
  | powerEntryDone (dt : Nat)
  /-- WAKE_EVENT: the wake that waits starts the exit (R534). -/
  | wakeEvent (dt : Nat)
  /-- WAKE_TIMER_FIRE (R541). -/
  | wakeTimerFire (dt : Nat)
  /-- POWER_EXIT_DONE (R545). -/
  | powerExitDone (dt : Nat)
  /-- BROWN_OUT: the retention draw in mA has exceeded 3.0 A for 50 µs (R538). -/
  | brownOut (dt : Nat) (milliamp : BitVec 16)
  /-- POWER_WINDOW_END (R550, R555, R556, R559). -/
  | powerWindowEnd (dt : Nat) (w : PowerWindow)
  /-- SENSOR_READ: the junction sensors in °C, by region 0 to 10 (R551, R562, R564, R567). -/
  | sensorRead (dt : Nat) (sensors : List (List Int))
  /-- THERMAL_TRIP_CLEAR (R564). -/
  | thermalTripClear (dt : Nat)
  /-- THERMAL_LOOP_TICK (R563). -/
  | thermalLoopTick (dt : Nat)
  /-- ENERGY_INTERVAL_END: what the units have counted in the interval for each holder, and as overhead (R575 to R577). -/
  | energyIntervalEnd (dt : Nat) (holders : List (EnergyHolder × EnergyCount)) (overhead : List EnergyCount)
  /-- TIME_RESP with T1, T2, T3, and the server's error estimate in ns (R590, R80). -/
  | timeResp (dt : Nat) (port : FabPort) (t1 t2 t3 : BitVec 64) (err : BitVec 32)
  /-- MSG flit on a port (R587, R591). -/
  | msg (dt : Nat) (port : FabPort) (flit : List Byte)
  /-- LINK_FAIL of a port (R589). -/
  | linkFail (dt : Nat) (port : FabPort)
  /-- REASSEMBLY_TIMEOUT (R592). -/
  | reassemblyTimeout (dt : Nat)
  /-- MIRROR_LOST (R616). -/
  | mirrorLost (dt : Nat)
  /-- PEER_VOTE_SEND (R594). -/
  | peerVoteSend (dt : Nat)
  /-- PEER_VOTE_LAPSE of a place (R594). -/
  | peerVoteLapse (dt : Nat) (place : Place)
  /-- TEST_REQ: lanes and duration in ms (R600). -/
  | testReq (dt : Nat) (port : FabPort) (lanes : BitVec 8) (ms : BitVec 32)
  /-- BER_SCHEDULE (R600). -/
  | berSchedule (dt : Nat)
  /-- BER_TEST_END: errors by lane (R601). -/
  | berTestEnd (dt : Nat) (port : FabPort) (errors : List Nat)
  /-- HEARTBEAT_SEND (R604). -/
  | heartbeatSend (dt : Nat)
  /-- HEARTBEAT (R605). -/
  | heartbeat (dt : Nat) (path : BeatPath) (body : PairBody)
  /-- PATH_LOST (R605). -/
  | pathLost (dt : Nat) (path : BeatPath)
  /-- RENEW_SEND (R609). -/
  | renewSend (dt : Nat)
  /-- RENEW (R609, R611). -/
  | renew (dt : Nat) (path : BeatPath) (body : PairBody)
  /-- RENEW_ACK from the partner or, on a TSN port, from the witness (R610). -/
  | renewAck (dt : Nat) (path : PairPath) (body : PairBody)
  /-- LEASE_END (R610). -/
  | leaseEnd (dt : Nat)
  /-- PAIR_RELEASE: a RELEASE arrives (R611). -/
  | pairRelease (dt : Nat) (path : BeatPath) (body : PairBody)
  /-- CLAIM_TIMER (R611). -/
  | claimTimer (dt : Nat)
  /-- INIT_CLAIM_TIMER (Table 15-9). -/
  | initClaimTimer (dt : Nat)
  /-- CLAIM_RESEND (R611). -/
  | claimResend (dt : Nat)
  /-- CLAIM (R613). -/
  | claim (dt : Nat) (path : BeatPath) (body : PairBody)
  /-- GRANT from the witness (R611). -/
  | grant (dt : Nat) (path : PairPath) (body : PairBody)
  /-- DENY from the witness (R612). -/
  | deny (dt : Nat) (path : PairPath) (body : PairBody)
  /-- PLACE_ADOPT_TIMEOUT (R625). -/
  | placeAdoptTimeout (dt : Nat)
  /-- EVC_SNAP_DONE (R638). -/
  | evcSnapDone (dt : Nat) (fn : Fn)
  /-- SLACK_TIDE_AT (R641). -/
  | slackTideAt (dt : Nat)
  /-- STOP_REPEAT on a port (R646). -/
  | stopRepeat (dt : Nat) (port : FabPort)
  /-- SLACK_CAPTURE_DONE with what the held units yield (R649). -/
  | slackCaptureDone (dt : Nat) (held : List HeldUnit)
  /-- SCAN_DONE with the scan records (R650). -/
  | scanDone (dt : Nat) (scan : List HeldUnit)
  /-- WFG_BUILD: a round of the edges that the four sources report, by command or by the timer (R658); the Tides at which the waits began, in the order of the edges. -/
  | wfgBuild (dt : Nat) (byTimer : Bool) (sinces : List Nat)
  /-- UPD_DATA_DONE (R672). -/
  | updDataDone (dt : Nat)
  /-- BOOT_ATTEMPT_TIMEOUT (R675). -/
  | bootAttemptTimeout (dt : Nat)
  /-- SELFTEST_WINDOW_OPEN (R693). -/
  | selftestWindowOpen (dt : Nat)
  /-- SELFTEST_WINDOW_DONE of a region: whether the results match (R694). -/
  | selftestWindowDone (dt : Nat) (r : Region) (pass : Bool)
  /-- WINDOW_ABANDON (R695). -/
  | windowAbandon (dt : Nat) (r : Region)
  /-- SWEEP_DONE: blocks whose sets mismatched, as region and place in the turn (R701). -/
  | sweepDone (dt : Nat) (mismatches : List (Region × Fin 32))
  /-- STANDBY_REPLAY (R702). -/
  | standbyReplay (dt : Nat)
  /-- WATCHDOG_MISS (R704, R735). -/
  | watchdogMiss (dt : Nat)
  /-- RECOVERY_DONE (R704). -/
  | recoveryDone (dt : Nat)
  /-- OVER_VOLTAGE_DISCONNECT (R720). -/
  | overVoltageDisconnect (dt : Nat) (milliVolt : BitVec 32)
  /-- POWER_ON: the feed exceeds the start threshold (R721). -/
  | powerOn (dt : Nat) (milliVolt : BitVec 16)
  /-- FEED_LOSS (R722). -/
  | feedLoss (dt : Nat) (milliVolt : BitVec 16)
  /-- FEED_RETURN (R722). -/
  | feedReturn (dt : Nat) (milliVolt : BitVec 16)
  /-- BANK_DEPLETED (R722). -/
  | bankDepleted (dt : Nat)
  /-- COOLANT_SAMPLE: inlet and outlet in °C, flow in 0.1 L/min (R729). -/
  | coolantSample (dt : Nat) (inlet outlet : Int) (flow : Nat)
  /-- BOOT_STAGE_DONE (R733). -/
  | bootStageDone (dt : Nat) (report : BootReport)
  /-- MODULE_READY (R732). -/
  | moduleReady (dt : Nat)
  deriving DecidableEq, Repr

end Sys2Proof
end

