-- ==== Sys2Proof/Decode.lean ====
section
/-! DEFINITION. The words of the opcode table. The QX8-H takes commands, not instruction words: no row of the table gives bits, so no word spells a command. -/

namespace Sys2Proof

/-- The command that a word of `nbits` bits spells by the table's bits: none, for every row of the table gives no bits. [DEDUCED, safe, log entry 3] -/
def decodeTableWord (_nbits _w : Nat) : Option Instr := none

end Sys2Proof
end

