-- ==== Sys2Proof/Machine/Store.lean ====
section
/-! DEFINITION. Sparse data by key: a list of key and value pairs in ONE canonical form (keys strictly rising), so that equal contents are equal data. Memory, register banks, page maps and session tables are all held in this form. -/

namespace Sys2Proof.Machine

/-- Sparse data by key. -/
abbrev Store (α : Type) := List (Nat × α)

/-- The canonical form: every key is above `lo` and the keys rise strictly. -/
def Store.sortedFrom {α : Type} (lo : Nat) : Store α → Bool
  | [] => true
  | (k, _) :: rest => decide (lo ≤ k) && Store.sortedFrom (k + 1) rest

/-- The canonical form of a store: strictly rising keys. -/
def Store.wf {α : Type} (m : Store α) : Bool := Store.sortedFrom 0 m

/-- The value listed at a key, if one is. -/
def Store.look {α : Type} : Store α → Nat → Option α
  | [], _ => none
  | (k, v) :: rest, a => if k = a then some v else Store.look rest a

/-- List the value `v` at key `a`, replacing what was there. -/
def Store.put {α : Type} : Store α → Nat → α → Store α
  | [], a, v => [(a, v)]
  | (k, w) :: rest, a, v =>
    if a < k then (a, v) :: (k, w) :: rest
    else if a = k then (a, v) :: rest
    else (k, w) :: Store.put rest a v

/-- List nothing at key `a`. -/
def Store.del {α : Type} : Store α → Nat → Store α
  | [], _ => []
  | (k, w) :: rest, a => if k = a then Store.del rest a else (k, w) :: Store.del rest a

/-- Read a store every key of which holds a value: an unlisted key reads as `d`. -/
def Store.valAt {α : Type} (d : α) (m : Store α) (a : Nat) : α := (m.look a).getD d

/-- Write a store every key of which holds a value: writing `d` unlists the key. -/
def Store.setAt {α : Type} [DecidableEq α] (d : α) (m : Store α) (a : Nat) (v : α) : Store α :=
  if v = d then m.del a else m.put a v

/-- Change the value at one key of a store that reads `d` where nothing is listed. -/
def Store.updAt {α : Type} [DecidableEq α] (d : α) (m : Store α) (a : Nat) (f : α → α) : Store α :=
  m.setAt d a (f (m.valAt d a))

/-- Change a listed value; nothing happens at an unlisted key. -/
def Store.modAt {α : Type} (m : Store α) (a : Nat) (f : α → α) : Store α :=
  match m.look a with
  | some v => m.put a (f v)
  | none => m

/-- The keys that are listed, rising. -/
def Store.keys {α : Type} (m : Store α) : List Nat := m.map (·.1)

/-- The values that are listed, in key order. -/
def Store.vals {α : Type} (m : Store α) : List α := m.map (·.2)

/-- Keep the entries that satisfy `p`. -/
def Store.keep {α : Type} (m : Store α) (p : Nat → α → Bool) : Store α := m.filter fun e => p e.1 e.2

/-- Change every listed value. -/
def Store.mapVals {α : Type} (m : Store α) (f : Nat → α → α) : Store α := m.map fun e => (e.1, f e.1 e.2)

/-- The lowest key below `n` at which nothing is listed, searching up from `k` over at most `fuel` keys. -/
def Store.freeFrom {α : Type} (m : Store α) : Nat → Nat → Option Nat
  | 0, _ => none
  | fuel + 1, k => if (m.look k).isNone then some k else Store.freeFrom m fuel (k + 1)

/-- A memory of bytes. -/
abbrev Mem := Store Byte

/-- Read one byte: an unlisted address reads as 0 (R732 zero-fills the memory before the module is ready). [DESIGN CHOICE, unsafe, log entry 2] -/
def Mem.read (m : Mem) (a : Nat) : Byte := Store.valAt 0 m a

/-- Write one byte, in canonical form. -/
def Mem.write (m : Mem) (a : Nat) (b : Byte) : Mem := Store.setAt 0 m a b

/-- The canonical form of a memory: keys rise strictly and no listed byte equals what an unlisted one reads as. [DESIGN CHOICE, unsafe, log entry 2] -/
def Mem.wf (m : Mem) : Bool := Store.wf m && m.all fun e => decide (e.2 ≠ 0)

/-- Read `n` bytes upwards from `a`. -/
def Mem.readN (m : Mem) (a : Nat) : Nat → List Byte
  | 0 => []
  | n + 1 => m.read a :: Mem.readN m (a + 1) n

/-- Write bytes upwards from `a`. -/
def Mem.writeN (m : Mem) (a : Nat) : List Byte → Mem
  | [] => m
  | b :: bs => Mem.writeN (m.write a b) (a + 1) bs

/-- Zero-fill the addresses `lo ≤ a < hi`: they are no longer listed. -/
def Mem.zeroRange (m : Mem) (lo hi : Nat) : Mem := m.filter fun e => decide (e.1 < lo) || decide (hi ≤ e.1)

/-- Little-endian value of bytes (R10). -/
def leNat : List Byte → Nat
  | [] => 0
  | b :: bs => b.toNat + 256 * leNat bs

/-- The `n` little-endian bytes of a value (R10). -/
def leBytes : Nat → Nat → List Byte
  | 0, _ => []
  | n + 1, v => BitVec.ofNat 8 v :: leBytes n (v / 256)

/-- Big-endian value of bytes (R11). -/
def beNat (bs : List Byte) : Nat := leNat bs.reverse

/-- The `n` big-endian bytes of a value (R11). -/
def beBytes (n v : Nat) : List Byte := (leBytes n v).reverse

/-- The field of `n` bytes at byte offset `o` of a little-endian record. -/
def fieldAt (bs : List Byte) (o n : Nat) : Nat := leNat ((bs.drop o).take n)

/-- Bits `hi` down to `lo` of a value. -/
def bitsOf (v hi lo : Nat) : Nat := v / 2 ^ lo % 2 ^ (hi + 1 - lo)

/-- Bit `i` of a value. -/
def bitOf (v i : Nat) : Bool := v / 2 ^ i % 2 == 1

end Sys2Proof.Machine
end

