-- ==== Sys2Proof/Machine/Crypto.lean ====
section
/-! DEFINITION. The digests and signatures that the spec names by their standards: SHA-512 (FIPS 180-4), HMAC-SHA-512 (RFC 2104), RSASSA-PKCS1-v1_5 verification with exponent 65,537 (RFC 8017), as R483, R500, R501, R604, R667 use them. -/

namespace Sys2Proof.Machine

/-- The first 80 primes. -/
def first80Primes : List Nat :=
  [2, 3, 5, 7, 11, 13, 17, 19, 23, 29, 31, 37, 41, 43, 47, 53, 59, 61, 67, 71, 73, 79, 83, 89, 97, 101, 103, 107, 109, 113] ++
  [127, 131, 137, 139, 149, 151, 157, 163, 167, 173, 179, 181, 191, 193, 197, 199, 211, 223, 227, 229, 233, 239, 241, 251] ++
  [257, 263, 269, 271, 277, 281, 283, 293, 307, 311, 313, 317, 331, 337, 347, 349, 353, 359, 367, 373, 379, 383, 389, 397, 401, 409]

/-- The largest `r` with `r ^ e ≤ n`, built from bit `i` downwards. -/
def rootFrom (e n : Nat) : Nat → Nat → Nat
  | 0, r => r
  | i + 1, r => rootFrom e n i (if (r + 2 ^ i) ^ e ≤ n then r + 2 ^ i else r)

/-- The first 64 bits of the fractional part of the e-th root of `p`. -/
def rootBits (e p : Nat) : BitVec 64 := BitVec.ofNat 64 (rootFrom e (p * 2 ^ (64 * e)) 70 0)

/-- The round constants of SHA-512. -/
def shaK : List (BitVec 64) := first80Primes.map (rootBits 3)

/-- The initial hash value of SHA-512. -/
def shaInit : List (BitVec 64) := (first80Primes.take 8).map (rootBits 2)

/-- The next word of the message schedule, of which `w` holds the words so far, newest first. -/
def shaNextWord (w : List (BitVec 64)) : BitVec 64 :=
  let a := (w[1]?).getD 0
  let b := (w[6]?).getD 0
  let c := (w[14]?).getD 0
  let d := (w[15]?).getD 0
  let s0 := c.rotateRight 1 ^^^ c.rotateRight 8 ^^^ (c >>> 7)
  let s1 := a.rotateRight 19 ^^^ a.rotateRight 61 ^^^ (a >>> 6)
  s1 + b + s0 + d

/-- Extend a message schedule (newest first) by `n` words. -/
def shaExtend : Nat → List (BitVec 64) → List (BitVec 64)
  | 0, w => w
  | n + 1, w => shaExtend n (shaNextWord w :: w)

/-- One round on the eight working variables. -/
def shaRound (v : List (BitVec 64)) (kw : BitVec 64 × BitVec 64) : List (BitVec 64) :=
  match v with
  | [a, b, c, d, e, f, g, h] =>
    let s1 := e.rotateRight 14 ^^^ e.rotateRight 18 ^^^ e.rotateRight 41
    let ch := (e &&& f) ^^^ (~~~e &&& g)
    let t1 := h + s1 + ch + kw.1 + kw.2
    let s0 := a.rotateRight 28 ^^^ a.rotateRight 34 ^^^ a.rotateRight 39
    let maj := (a &&& b) ^^^ (a &&& c) ^^^ (b &&& c)
    [t1 + s0 + maj, a, b, c, d + t1, e, f, g]
  | _ => v

/-- The 64-bit big-endian words of a block. -/
def beWords : Nat → List Byte → List (BitVec 64)
  | 0, _ => []
  | n + 1, bs => BitVec.ofNat 64 (beNat (bs.take 8)) :: beWords n (bs.drop 8)

/-- Compress one 128-byte block. -/
def shaBlock (h : List (BitVec 64)) (block : List Byte) : List (BitVec 64) :=
  let w := (shaExtend 64 (beWords 16 block).reverse).reverse
  List.zipWith (· + ·) h ((shaK.zip w).foldl shaRound h)

/-- Compress block after block. -/
def shaBlocks : Nat → List Byte → List (BitVec 64) → List (BitVec 64)
  | 0, _, h => h
  | n + 1, bs, h => shaBlocks n (bs.drop 128) (shaBlock h (bs.take 128))

/-- SHA-512. [PRESUMED, unsafe, log entry 29] -/
def sha512 (m : List Byte) : List Byte :=
  let n := (m.length + 17 + 127) / 128
  let padded := m ++ [0x80] ++ List.replicate (n * 128 - m.length - 17) 0 ++ beBytes 16 (8 * m.length)
  (shaBlocks n padded shaInit).flatMap fun w => beBytes 8 w.toNat

/-- HMAC-SHA-512. [PRESUMED, unsafe, log entry 29] -/
def hmac512 (key m : List Byte) : List Byte :=
  let k0 := if 128 < key.length then sha512 key else key
  let k := k0 ++ List.replicate (128 - k0.length) 0
  sha512 (k.map (· ^^^ 0x5C) ++ sha512 (k.map (· ^^^ 0x36) ++ m))

/-- `b ^ (2 ^ n)` modulo `m`. -/
def squarings (m : Nat) : Nat → Nat → Nat
  | 0, b => b % m
  | n + 1, b => squarings m n (b * b % m)

/-- The encoded message of RSASSA-PKCS1-v1_5 with SHA-512 for a 512-byte modulus. -/
def pkcs1Sha512 (m : List Byte) : List Byte :=
  let info : List Byte := [0x30, 0x51, 0x30, 0x0D, 0x06, 0x09, 0x60, 0x86, 0x48, 0x01, 0x65, 0x03, 0x04, 0x02, 0x03, 0x05, 0x00, 0x04, 0x40]
  [0x00, 0x01] ++ List.replicate (512 - 3 - 19 - 64) 0xFF ++ [0x00] ++ info ++ sha512 m

/-- A signature verifies under a public modulus with exponent 65,537. [PRESUMED, unsafe, log entry 29] -/
def rsaVerify (modulus sig m : List Byte) : Bool :=
  let n := beNat modulus
  let s := beNat sig
  decide (s < n) && squarings n 16 s * s % n == beNat (pkcs1Sha512 m)

/-- Eight steps of a reflected CRC register with a 32-bit polynomial. -/
def crcStep (poly : Nat) : Nat → Nat → Nat
  | 0, c => c
  | n + 1, c => crcStep poly n (if c % 2 = 1 then Nat.xor (c / 2) poly else c / 2)

/-- A reflected 32-bit CRC over bytes, the register beginning at and complemented with all ones. -/
def crcOf (poly : Nat) (bs : List Byte) : Nat :=
  Nat.xor (bs.foldl (fun c b => crcStep poly 8 (Nat.xor c b.toNat)) 0xFFFFFFFF) 0xFFFFFFFF

/-- CRC-32C (Castagnoli) over bytes (R187). [PRESUMED, unsafe, log entry 29] -/
def crc32c (bs : List Byte) : Nat := crcOf 0x82F63B78 bs

/-- CRC-32 with the IEEE 802.3 polynomial and conventions (Table 15-2). [PRESUMED, unsafe, log entry 29] -/
def crc32 (bs : List Byte) : Nat := crcOf 0xEDB88320 bs

/-- Two ASCII characters and more as bytes. -/
def ascii (t : String) : List Byte := t.toList.map fun c => BitVec.ofNat 8 c.toNat

end Sys2Proof.Machine
end

