-- ==== Sys2Proof/Machine/Blocks.lean ====
section
/-! DEFINITION. The blocks and units of the module by identifier (01_package_regions_and_figures.md R31, R32, Tables 1-8 and 1-9). -/

namespace Sys2Proof.Machine

/-- REGION, TYPE and INSTANCE name a block or unit (R32, Table 1-9). -/
def isBlock (id : Nat) : Bool :=
  let r := id / 256
  let ty := id / 32 % 8
  let i := id % 32
  if r < 6 then
    (ty == 0 && decide (i < 24)) || (ty == 1 && decide (i < 4)) || (ty == 2 && decide (i < 2)) ||
      ((ty == 3 || ty == 4 || ty == 7) && i == 0)
  else if r = 6 then (ty == 5 && decide (i < 8)) || (ty == 7 && decide (i < 2))
  else if r = 7 then ty == 7 && decide (i < 5)
  else if r = 8 then ty == 7 && decide (i < 3)
  else if r = 9 then ty == 7 && decide (i < 12)
  else r == 10 && ty == 6 && decide (i < 16)

end Sys2Proof.Machine
end

