-- ==== Sys2Proof/Machine/Fp.lean ====
section
/-! DEFINITION. Number formats and the exact arithmetic behind them (03_number_formats_and_tensor_blocks.md): encodings, rounding, saturation, conversion with its flags, MX scaling, and the FP32 operations of tensor and vector blocks. Values are exact dyadic numbers; every rounding is explicit. -/

namespace Sys2Proof.Machine

/-- A value of any format: a NaN, an infinity, or the number (−1)^neg · m · 2^e (the sign of a zero is kept, R116). -/
inductive Val where
  | nan
  | inf (neg : Bool)
  | fin (neg : Bool) (m : Nat) (e : Int)
  deriving DecidableEq, Repr, Inhabited

/-- The rounding mode RND (R110). -/
inductive Rnd where
  | rne
  | rtz
  deriving DecidableEq, Repr, Inhabited

/-- Numeric exception flags (Table 3-9). -/
abbrev NumFlags := BitVec 8
def flagNanIn : NumFlags := 0x01
def flagNanGen : NumFlags := 0x02
def flagAccInf : NumFlags := 0x04
def flagOvfSat : NumFlags := 0x08
def flagOvfSpecial : NumFlags := 0x10
def flagNanLost : NumFlags := 0x20
def flagIntSat : NumFlags := 0x40
def flagScaleClamp : NumFlags := 0x80

/-- What the exponent field of all ones encodes (R95, Table 3-2). -/
inductive FpSpecial where
  | ieee      -- infinities and NaNs
  | nanOnly   -- E4M3: one NaN per sign, no infinity
  | finite    -- no infinity and no NaN
  deriving DecidableEq, Repr

/-- A floating-point format (Table 3-2). -/
structure FpFmt where
  ebits : Nat
  mbits : Nat
  bias : Nat
  special : FpSpecial
  deriving DecidableEq, Repr

def fp32Fmt : FpFmt := ⟨8, 23, 127, .ieee⟩
def bf16Fmt : FpFmt := ⟨8, 7, 127, .ieee⟩
def fp16Fmt : FpFmt := ⟨5, 10, 15, .ieee⟩
def e5m2Fmt : FpFmt := ⟨5, 2, 15, .ieee⟩
def e4m3Fmt : FpFmt := ⟨4, 3, 7, .nanOnly⟩
def e3m2Fmt : FpFmt := ⟨3, 2, 3, .finite⟩
def e2m3Fmt : FpFmt := ⟨2, 3, 1, .finite⟩
def e2m1Fmt : FpFmt := ⟨2, 1, 1, .finite⟩

/-- The largest exponent field of a finite value. -/
def FpFmt.maxField (f : FpFmt) : Nat :=
  match f.special with
  | .ieee => 2 ^ f.ebits - 2
  | _ => 2 ^ f.ebits - 1

/-- The largest significand (with its leading one) at the largest exponent. -/
def FpFmt.maxSig (f : FpFmt) : Nat :=
  match f.special with
  | .nanOnly => 2 ^ (f.mbits + 1) - 2
  | _ => 2 ^ (f.mbits + 1) - 1

/-- The weight exponent of the last place at the largest exponent. -/
def FpFmt.maxQ (f : FpFmt) : Int := (f.maxField : Int) - f.bias - f.mbits

/-- The largest exponent of a finite value (emax_el of R117). -/
def FpFmt.emax (f : FpFmt) : Int := (f.maxField : Int) - f.bias

/-- The encoding of the largest positive finite value (Table 3-4). -/
def FpFmt.maxCode (f : FpFmt) : Nat := f.maxField * 2 ^ f.mbits + (f.maxSig - 2 ^ f.mbits)

/-- The largest finite value. -/
def FpFmt.maxVal (f : FpFmt) (neg : Bool) : Val := .fin neg f.maxSig f.maxQ

/-- The canonical NaN of a format that has one (R98, Table 3-4). -/
def FpFmt.nanCode (f : FpFmt) : Nat :=
  match f.special with
  | .ieee => (2 ^ f.ebits - 1) * 2 ^ f.mbits + 2 ^ (f.mbits - 1)
  | _ => 2 ^ (f.ebits + f.mbits) - 1

/-- The encoding of +∞. -/
def FpFmt.infCode (f : FpFmt) : Nat := (2 ^ f.ebits - 1) * 2 ^ f.mbits

/-- The sign bit's weight (R97). -/
def FpFmt.signBit (f : FpFmt) : Nat := 2 ^ (f.ebits + f.mbits)

/-- An encoding with its sign. -/
def FpFmt.signed (f : FpFmt) (neg : Bool) (code : Nat) : Nat := if neg then f.signBit + code else code

/-- The value an encoding stands for (R95, R96). -/
def FpFmt.decode (f : FpFmt) (bits : Nat) : Val :=
  let neg := bits / f.signBit % 2 == 1
  let ef := bits / 2 ^ f.mbits % 2 ^ f.ebits
  let frac := bits % 2 ^ f.mbits
  let allOnes := ef == 2 ^ f.ebits - 1
  let number : Val :=
    if ef = 0 then .fin neg frac (1 - (f.bias : Int) - f.mbits)
    else .fin neg (2 ^ f.mbits + frac) ((ef : Int) - f.bias - f.mbits)
  match f.special with
  | .ieee => if allOnes then (if frac = 0 then .inf neg else .nan) else number
  | .nanOnly => if allOnes && frac == 2 ^ f.mbits - 1 then .nan else number
  | .finite => number

/-- `m · 2^sh` rounded to an integer under RND (R110). -/
def shiftRound (rnd : Rnd) (m : Nat) (sh : Int) : Nat :=
  match sh with
  | .ofNat k => m * 2 ^ k
  | .negSucc k =>
    let d := 2 ^ (k + 1)
    let q := m / d
    let r := m % d
    match rnd with
    | .rtz => q
    | .rne => if 2 * r > d || (2 * r == d && q % 2 == 1) then q + 1 else q

/-- A finite magnitude rounded to a format as if its exponents had no upper bound (R111): significand and weight of its last place. -/
def FpFmt.roundMag (f : FpFmt) (rnd : Rnd) (m : Nat) (e : Int) : Nat × Int :=
  if m = 0 then (0, 1 - (f.bias : Int) - f.mbits)
  else
    let lead : Int := (Nat.log2 m : Int) + e
    let q := max lead (1 - (f.bias : Int)) - f.mbits
    let n := shiftRound rnd m (e - q)
    if n = 2 ^ (f.mbits + 1) then (2 ^ f.mbits, q + 1) else (n, q)

/-- The rounded magnitude exceeds the largest finite value (R111, Table 3-5). -/
def FpFmt.overflows (f : FpFmt) (r : Nat × Int) : Bool :=
  decide (f.maxQ < r.2) || (decide (r.2 = f.maxQ) && decide (f.maxSig < r.1))

/-- The encoding of a rounded magnitude that does not overflow. -/
def FpFmt.codeOf (f : FpFmt) (r : Nat × Int) : Nat :=
  if r.1 < 2 ^ f.mbits then r.1
  else (r.2 + f.mbits + f.bias).toNat * 2 ^ f.mbits + (r.1 - 2 ^ f.mbits)

/-- FP32 arithmetic results: RNE, overflow to infinity (R120, R134). [DESIGN CHOICE, unsafe, log entry 19] -/
def round32 (v : Val) : Val :=
  match v with
  | .fin neg m e =>
    let r := fp32Fmt.roundMag .rne m e
    if fp32Fmt.overflows r then .inf neg else .fin neg r.1 r.2
  | v => v

/-- The FP32 encoding of an FP32 value, NaNs canonical (R98). -/
def encode32 (v : Val) : BitVec 32 :=
  match v with
  | .nan => BitVec.ofNat 32 fp32Fmt.nanCode
  | .inf neg => BitVec.ofNat 32 (fp32Fmt.signed neg fp32Fmt.infCode)
  | .fin neg m e =>
    let r := fp32Fmt.roundMag .rne m e
    if fp32Fmt.overflows r then BitVec.ofNat 32 (fp32Fmt.signed neg fp32Fmt.infCode)
    else BitVec.ofNat 32 (fp32Fmt.signed neg (fp32Fmt.codeOf r))

/-- The value of an FP32 encoding. -/
def decode32 (b : BitVec 32) : Val := fp32Fmt.decode b.toNat

/-- An integer as a value. -/
def Val.ofInt (i : Int) : Val := .fin (decide (i < 0)) i.natAbs 0

/-- A natural number times a power of two. -/
def Val.ofNat (n : Nat) : Val := .fin false n 0

def Val.zero : Val := .fin false 0 0
def Val.one : Val := .fin false 1 0

def Val.isNan : Val → Bool
  | .nan => true
  | _ => false

def Val.isInf : Val → Bool
  | .inf _ => true
  | _ => false

def Val.isFinite : Val → Bool
  | .fin _ _ _ => true
  | _ => false

def Val.isZero : Val → Bool
  | .fin _ m _ => m == 0
  | _ => false

def Val.sign : Val → Bool
  | .nan => false
  | .inf n => n
  | .fin n _ _ => n

def Val.neg : Val → Val
  | .nan => .nan
  | .inf n => .inf (!n)
  | .fin n m e => .fin (!n) m e

def Val.abs : Val → Val
  | .nan => .nan
  | .inf _ => .inf false
  | .fin _ m e => .fin false m e

/-- The signed mantissa of a finite value scaled to exponent `e0 ≤ e`. -/
def scaledTo (neg : Bool) (m : Nat) (e e0 : Int) : Int :=
  let k : Int := (m : Int) * ((2 ^ (e - e0).toNat : Nat) : Int)
  if neg then -k else k

/-- Exact sum; an exact zero is +0 unless both operands are negative (R116, RNE). -/
def Val.add : Val → Val → Val
  | .nan, _ => .nan
  | _, .nan => .nan
  | .inf a, .inf b => if a = b then .inf a else .nan
  | .inf a, _ => .inf a
  | _, .inf b => .inf b
  | .fin n1 m1 e1, .fin n2 m2 e2 =>
    let e0 := min e1 e2
    let t := scaledTo n1 m1 e1 e0 + scaledTo n2 m2 e2 e0
    if t = 0 then .fin (n1 && n2) 0 e0 else .fin (decide (t < 0)) t.natAbs e0

def Val.sub (a b : Val) : Val := a.add b.neg

/-- Exact product; a zero times an infinity is a NaN. -/
def Val.mul : Val → Val → Val
  | .nan, _ => .nan
  | _, .nan => .nan
  | .inf a, .inf b => .inf (a != b)
  | .inf a, .fin b m _ => if m = 0 then .nan else .inf (a != b)
  | .fin a m _, .inf b => if m = 0 then .nan else .inf (a != b)
  | .fin a m1 e1, .fin b m2 e2 => .fin (a != b) (m1 * m2) (e1 + e2)

/-- Scale by a power of two. -/
def Val.scale2 (v : Val) (k : Int) : Val :=
  match v with
  | .fin n m e => .fin n m (e + k)
  | v => v

/-- Numeric comparison of two values that are not NaN (−0 equals +0). -/
def Val.cmp : Val → Val → Ordering
  | .inf a, .inf b => if a = b then .eq else if a then .lt else .gt
  | .inf a, _ => if a then .lt else .gt
  | _, .inf b => if b then .gt else .lt
  | .fin n1 m1 e1, .fin n2 m2 e2 =>
    let e0 := min e1 e2
    compare (scaledTo n1 m1 e1 e0) (scaledTo n2 m2 e2 e0)
  | _, _ => .eq

def Val.lt (a b : Val) : Bool := !a.isNan && !b.isNan && a.cmp b == .lt
def Val.le (a b : Val) : Bool := !a.isNan && !b.isNan && a.cmp b != .gt
def Val.eqv (a b : Val) : Bool := !a.isNan && !b.isNan && a.cmp b == .eq

/-- Flags of one arithmetic step: ACC_INF for an infinity from finite operands, NAN_GEN for a NaN from operands that are not NaN (Table 3-9). -/
def stepFlags (ops : List Val) (r : Val) : NumFlags :=
  (if r.isInf && ops.all Val.isFinite then flagAccInf else 0) |||
  (if r.isNan && ops.all (fun v => !v.isNan) then flagNanGen else 0)

/-- FP32 addition with one rounding. -/
def fadd (a b : Val) : Val × NumFlags := let r := round32 (a.add b); (r, stepFlags [a, b] r)
/-- FP32 subtraction with one rounding. -/
def fsub (a b : Val) : Val × NumFlags := let r := round32 (a.sub b); (r, stepFlags [a, b] r)
/-- FP32 multiplication with one rounding. -/
def fmul (a b : Val) : Val × NumFlags := let r := round32 (a.mul b); (r, stepFlags [a, b] r)
/-- FP32 fused multiply–add: one rounding (R134). -/
def ffma (a b c : Val) : Val × NumFlags := let r := round32 ((a.mul b).add c); (r, stepFlags [a, b, c] r)

/-- A quotient with enough places and a sticky bit, so that one later rounding is exact. -/
def Val.divApprox : Val → Val → Val
  | .nan, _ => .nan
  | _, .nan => .nan
  | .inf _, .inf _ => .nan
  | .inf a, .fin b _ _ => .inf (a != b)
  | .fin a _ _, .inf b => .fin (a != b) 0 0
  | .fin a m1 e1, .fin b m2 e2 =>
    if m2 = 0 then (if m1 = 0 then .nan else .inf (a != b))
    else
      let k := 40 + Nat.log2 m2
      let q := m1 * 2 ^ k / m2
      let r := m1 * 2 ^ k % m2
      .fin (a != b) (2 * q + (if r = 0 then 0 else 1)) (e1 - e2 - (k : Int) - 1)

/-- FP32 division with one rounding; a finite non-zero value by zero is an infinity with ACC_INF (Table 3-9). [DESIGN CHOICE, unsafe, log entry 19] -/
def fdiv (a b : Val) : Val × NumFlags := let r := round32 (a.divApprox b); (r, stepFlags [a, b] r)

/-- Integer square root by `k` binary digits, from the highest down. -/
def isqrtAux (n : Nat) : Nat → Nat → Nat
  | 0, r => r
  | k + 1, r => if (r + 2 ^ k) * (r + 2 ^ k) ≤ n then isqrtAux n k (r + 2 ^ k) else isqrtAux n k r

/-- The integer square root. -/
def isqrt (n : Nat) : Nat := isqrtAux n (Nat.log2 n / 2 + 1) 0

/-- A square root with enough places and a sticky bit. The root of a negative value is a NaN; of −0, −0. -/
def Val.sqrtApprox : Val → Val
  | .nan => .nan
  | .inf false => .inf false
  | .inf true => .nan
  | .fin neg m e =>
    if m = 0 then .fin neg 0 0
    else if neg then .nan
    else
      let odd := e % 2 != 0
      let m' := if odd then 2 * m else m
      let e' := if odd then e - 1 else e
      let big := m' * 2 ^ 64
      let q := isqrt big
      .fin false (2 * q + (if q * q = big then 0 else 1)) ((e' - 64) / 2 - 1)

/-- FP32 square root with one rounding. -/
def fsqrt (a : Val) : Val × NumFlags := let r := round32 a.sqrtApprox; (r, stepFlags [a] r)

/-- The integer a value rounds to under RND. -/
def Val.toIntRnd (rnd : Rnd) : Val → Int
  | .fin neg m e => let n : Int := (shiftRound rnd m e : Nat); if neg then -n else n
  | _ => 0

/-- The greatest integer not above a finite value. -/
def Val.floorInt : Val → Int
  | .fin neg m e =>
    match e with
    | .ofNat k => let n : Int := ((m * 2 ^ k : Nat) : Int); if neg then -n else n
    | .negSucc k =>
      let d : Int := ((2 ^ (k + 1) : Nat) : Int)
      let n : Int := if neg then -(m : Int) else (m : Int)
      n.fdiv d
  | _ => 0

/-- Element formats by their format code (Table 3-1). -/
inductive Fmt where
  | fp32 | bf16 | fp16 | fp8e4m3 | fp8e5m2 | fp4e2m1
  | int8 | int4 | int32 | uint8
  | mxfp8e4m3 | mxfp8e5m2 | mxfp6e2m3 | mxfp6e3m2 | mxfp4
  deriving DecidableEq, Repr, Inhabited

/-- The format a code names; the other codes are reserved (R94). -/
def Fmt.ofCode : Nat → Option Fmt
  | 0x01 => some .fp32 | 0x02 => some .bf16 | 0x03 => some .fp16
  | 0x04 => some .fp8e4m3 | 0x05 => some .fp8e5m2 | 0x06 => some .fp4e2m1
  | 0x08 => some .int8 | 0x09 => some .int4 | 0x0A => some .int32 | 0x0B => some .uint8
  | 0x10 => some .mxfp8e4m3 | 0x11 => some .mxfp8e5m2 | 0x12 => some .mxfp6e2m3
  | 0x13 => some .mxfp6e3m2 | 0x14 => some .mxfp4
  | _ => none

/-- The code of a format (Table 3-1). -/
def Fmt.code : Fmt → Nat
  | .fp32 => 0x01 | .bf16 => 0x02 | .fp16 => 0x03
  | .fp8e4m3 => 0x04 | .fp8e5m2 => 0x05 | .fp4e2m1 => 0x06
  | .int8 => 0x08 | .int4 => 0x09 | .int32 => 0x0A | .uint8 => 0x0B
  | .mxfp8e4m3 => 0x10 | .mxfp8e5m2 => 0x11 | .mxfp6e2m3 => 0x12 | .mxfp6e3m2 => 0x13
  | .mxfp4 => 0x14

/-- Bits per element (Table 3-1). -/
def Fmt.bits : Fmt → Nat
  | .fp32 | .int32 => 32
  | .bf16 | .fp16 => 16
  | .fp4e2m1 | .int4 | .mxfp4 => 4
  | .mxfp6e2m3 | .mxfp6e3m2 => 6
  | _ => 8

def Fmt.isMx : Fmt → Bool
  | .mxfp8e4m3 | .mxfp8e5m2 | .mxfp6e2m3 | .mxfp6e3m2 | .mxfp4 => true
  | _ => false

def Fmt.isInt : Fmt → Bool
  | .int8 | .int4 | .int32 | .uint8 => true
  | _ => false

/-- The floating-point format of the elements, for the formats that have one. -/
def Fmt.fp : Fmt → Option FpFmt
  | .fp32 => some fp32Fmt
  | .bf16 => some bf16Fmt
  | .fp16 => some fp16Fmt
  | .fp8e4m3 | .mxfp8e4m3 => some e4m3Fmt
  | .fp8e5m2 | .mxfp8e5m2 => some e5m2Fmt
  | .fp4e2m1 | .mxfp4 => some e2m1Fmt
  | .mxfp6e2m3 => some e2m3Fmt
  | .mxfp6e3m2 => some e3m2Fmt
  | _ => none

/-- The least and greatest integer of an integer format (R99). -/
def Fmt.intRange : Fmt → Int × Int
  | .int8 => (-128, 127)
  | .int4 => (-8, 7)
  | .uint8 => (0, 255)
  | _ => (-(2 ^ 31), 2 ^ 31 - 1)

/-- The two's-complement integer of an element's bits (R99). -/
def Fmt.intOf (f : Fmt) (bits : Nat) : Int :=
  if f = .uint8 then (bits % 256 : Nat)
  else
    let w := 2 ^ f.bits
    let b := bits % w
    if 2 * b < w then (b : Int) else (b : Int) - (w : Int)

/-- The value of an element before any scale (R95, R100). -/
def Fmt.elemVal (f : Fmt) (bits : Nat) : Val :=
  match f.fp with
  | some p => p.decode bits
  | none => Val.ofInt (f.intOf bits)

/-- The value of an MX block scale byte (R102). -/
def e8m0Val (x : Nat) : Val := if x = 255 then .nan else .fin false 1 ((x : Int) - 127)

/-- Table 3-7: operand pairs that a matrix product accepts (R123). -/
inductive PairClass where
  | two | one | half
  deriving DecidableEq, Repr

/-- The 4-bit floating-point formats. -/
def Fmt.is4Fp : Fmt → Bool
  | .fp4e2m1 | .mxfp4 => true
  | _ => false

/-- The 8- and 6-bit floating-point formats. -/
def Fmt.is8Fp : Fmt → Bool
  | .fp8e4m3 | .fp8e5m2 | .mxfp8e4m3 | .mxfp8e5m2 | .mxfp6e2m3 | .mxfp6e3m2 => true
  | _ => false

/-- The rate class of an operand pair, or none for a pair that is refused (R123, Table 3-7). -/
def pairClass (a b : Fmt) : Option PairClass :=
  if a.is4Fp && b.is4Fp then some .two
  else if a = .int4 && b = .int4 then some .two
  else if (a.is8Fp || a.is4Fp) && (b.is8Fp || b.is4Fp) then some .one
  else if (a = .int8 && (b = .int8 || b = .int4)) || (a = .int4 && b = .int8) then some .one
  else if (a = .bf16 && (b = .bf16 || b.is8Fp || b.is4Fp)) || (b = .bf16 && (a.is8Fp || a.is4Fp)) then some .half
  else if (a = .fp16 && (b = .fp16 || b.is8Fp || b.is4Fp)) || (b = .fp16 && (a.is8Fp || a.is4Fp)) then some .half
  else none

/-- Conversion of one value to a non-MX format (R110 to R114, Table 3-6) with its flags (R739). An FP32 target takes the FP32 value as it is (R119 step 6). -/
def convertVal (f : Fmt) (rnd : Rnd) (sat1 : Bool) (v : Val) : Nat × NumFlags :=
  match f.fp with
  | none =>
    let lo := f.intRange.1
    let hi := f.intRange.2
    let enc (i : Int) : Nat := (i % ((2 ^ f.bits : Nat) : Int)).toNat
    match v with
    | .nan => (0, flagNanLost)
    | .inf neg => (enc (if neg then lo else hi), flagOvfSat)
    | v =>
      let i := v.toIntRnd rnd
      if i < lo then (enc lo, flagOvfSat) else if hi < i then (enc hi, flagOvfSat) else (enc i, 0)
  | some p =>
    let narrow := decide (f.bits ≤ 8)
    match v with
    | .nan => if p.special = .finite then (0, flagNanLost) else (p.nanCode, 0)
    | .inf neg =>
      if narrow then
        match p.special with
        | .ieee => if sat1 then (p.signed neg p.infCode, 0) else (p.signed neg p.maxCode, flagOvfSat)
        | .nanOnly => if sat1 then (p.nanCode, flagOvfSpecial) else (p.signed neg p.maxCode, flagOvfSat)
        | .finite => (p.signed neg p.maxCode, flagOvfSat)
      else (p.signed neg p.infCode, 0)
    | .fin neg m e =>
      let r := p.roundMag (if f = .fp32 then .rne else rnd) m e
      if p.overflows r then
        if narrow then
          if sat1 && p.special != .finite then (p.nanCode, flagOvfSpecial)
          else (p.signed neg p.maxCode, flagOvfSat)
        else if f = .fp32 then (p.signed neg p.infCode, 0)
        else
          match rnd with
          | .rne => (p.signed neg p.infCode, flagOvfSpecial)
          | .rtz => (p.signed neg p.maxCode, flagOvfSat)
      else (p.signed neg (p.codeOf r), 0)

/-- The magnitude of a value as significand and exponent. -/
def Val.mag : Val → Nat × Int
  | .fin _ m e => (m, e)
  | _ => (0, 0)

/-- The largest magnitude among values. -/
def amaxOf (vs : List Val) : Val := vs.foldl (fun a v => if a.lt v.abs then v.abs else a) Val.zero

/-- The finite stand-in of an infinity in an MX block under SAT = 0 (R117). -/
def mxFinite (v : Val) : Val :=
  match v with
  | .inf neg => fp32Fmt.maxVal neg
  | v => v

/-- An MX block of 32 values, of which the first `valid` lie at k < K, to a scale byte and 32 element codes (R117), with the flags of R739. [DESIGN CHOICE, unsafe, log entry 82] -/
def mxBlock (p : FpFmt) (rnd : Rnd) (sat1 : Bool) (valid : Nat) (vs : List Val) : Nat × List Nat × NumFlags :=
  let live := vs.take valid
  let zeros := vs.map fun _ => 0
  if live.any Val.isNan then (0xFF, zeros, 0)
  else if sat1 && live.any Val.isInf then (0xFF, zeros, flagOvfSpecial)
  else
    let f0 : NumFlags := if live.any Val.isInf then flagOvfSat else 0
    let live := live.map mxFinite
    let amax := amaxOf live
    let a := amax.mag
    let e0 : Int :=
      if a.1 = 0 then -127
      else
        let e := (Nat.log2 a.1 : Int) + a.2 - p.emax
        if p.overflows (p.roundMag rnd a.1 (a.2 - e)) then e + 1 else e
    let e := max (-127) (min 127 e0)
    let f1 : NumFlags := if e = e0 then 0 else flagScaleClamp
    let rounded := live.map fun v => (v.sign, p.roundMag rnd v.mag.1 (v.mag.2 - e))
    let excess := rounded.any fun r => p.overflows r.2
    if excess && sat1 then (0xFF, zeros, f0 ||| f1 ||| flagOvfSpecial)
    else
      let codes := rounded.map fun r => if p.overflows r.2 then p.signed r.1 p.maxCode else p.signed r.1 (p.codeOf r.2)
      ((e + 127).toNat, codes ++ (vs.drop valid).map (fun _ => 0),
        f0 ||| f1 ||| (if excess then flagOvfSat else 0))

/-- Remove the element at an index, answering it and the rest. -/
def pluck {α : Type} (i : Nat) : List α → Option (α × List α)
  | [] => none
  | x :: xs =>
    match i with
    | 0 => some (x, xs)
    | j + 1 => (pluck j xs).map fun r => (r.1, x :: r.2)

/-- The terms of a sum in the order that the free choices `pick` give (R65, R126). [DEDUCED, safe, log entry 20] -/
def freeOrder {α : Type} (pick : Nat → Nat) : Nat → Nat → List α → List α
  | 0, _, xs => xs
  | fuel + 1, i, xs =>
    match pluck (pick i % xs.length) xs with
    | none => xs
    | some (x, rest) => x :: freeOrder pick fuel (i + 1) rest

/-- Add a term to the partial sum the free choice names, or let it start a new one (R120, R126). [DEDUCED, safe, log entry 20] -/
def freeParts {α β : Type} (pick : Nat → Nat) (start : α → β) (add : β → α → β) : Nat → List β → List α → List β
  | _, parts, [] => parts
  | i, parts, t :: ts =>
    let j := pick i % (parts.length + 1)
    let parts' := if j < parts.length then parts.modify j (fun b => add b t) else parts ++ [start t]
    freeParts pick start add (i + 1) parts' ts

/-- Combine partial sums two at a time, in the order that the free choices give (R126). -/
def freeCombine {β : Type} (pick : Nat → Nat) (join : β → β → β) : Nat → Nat → List β → Option β
  | _, _, [] => none
  | _, _, [b] => some b
  | 0, _, b :: bs => some (bs.foldl join b)
  | fuel + 1, i, bs =>
    match pluck (pick i % bs.length) bs with
    | none => none
    | some (x, rest) =>
      match pluck (pick (i + 1) % rest.length) rest with
      | none => some x
      | some (y, rest') => freeCombine pick join fuel (i + 2) (join x y :: rest')

/-- A sum in a free order: terms are dealt to partial sums, each kept rounded, and the partial sums combined (R65, R120, R126). `none` when there is no term. [DEDUCED, safe, log entry 20] -/
def freeSum {α β : Type} (pick : Nat → Nat) (start : α → β) (add : β → α → β) (join : β → β → β) (ts : List α) : Option β :=
  let n := ts.length
  let parts := freeParts pick start add n [] (freeOrder pick n 0 ts)
  freeCombine pick join (2 * n + 2) (2 * n) parts

/-- An accumulated value with the flags its steps set. -/
abbrev Acc := Val × NumFlags

/-- Sum exact FP32-bound terms with one rounding per addition (R120, R121, R126). [DEDUCED, safe, log entry 20] -/
def freeFpSum (pick : Nat → Nat) (ts : List Val) : Acc :=
  let start (t : Val) : Acc := let r := round32 t; (r, stepFlags [t] r)
  let add (a : Acc) (t : Val) : Acc := let r := round32 (a.1.add t); (r, a.2 ||| stepFlags [a.1, t] r)
  let join (a b : Acc) : Acc := let r := round32 (a.1.add b.1); (r, a.2 ||| b.2 ||| stepFlags [a.1, b.1] r)
  (freeSum pick start add join ts).getD (Val.zero, 0)

/-- One step of INT32 accumulation, saturating with INT_SAT (R122). -/
def satAdd32 (a b : Int) : Int × NumFlags :=
  let t := a + b
  if t < -(2 ^ 31) then (-(2 ^ 31), flagIntSat) else if 2 ^ 31 - 1 < t then (2 ^ 31 - 1, flagIntSat) else (t, 0)

/-- Sum integer products in an INT32 accumulator (R122), in a free order (R65). [DEDUCED, safe, log entry 20; DESIGN CHOICE, unsafe, log entry 82] -/
def freeIntSum (pick : Nat → Nat) (ts : List Int) : Int × NumFlags :=
  let add (a : Int × NumFlags) (t : Int) := let r := satAdd32 a.1 t; (r.1, a.2 ||| r.2)
  let join (a b : Int × NumFlags) := let r := satAdd32 a.1 b.1; (r.1, a.2 ||| b.2 ||| r.2)
  (freeSum pick (fun t => satAdd32 0 t) add join ts).getD (0, 0)

/-- The exact sum of a list of exact values (the block sum P of R121). -/
def exactSum (ts : List Val) : Val :=
  match ts with
  | [] => Val.zero
  | t :: rest => rest.foldl Val.add t

/-- The output stage of a TB, steps 3 to 5 of R119: scaling, bias, output scale, each with its rounding. -/
def tbOutputStage (acc : Val) (sA sB : Val) (bias oscale : Option Val) : Acc :=
  let s := fmul sA sB
  let y1 := fmul acc s.1
  let y2 : Acc := match bias with | some b => fadd y1.1 b | none => (y1.1, 0)
  let y3 : Acc := match oscale with | some q => fmul y2.1 q | none => (y2.1, 0)
  (y3.1, s.2 ||| y1.2 ||| y2.2 ||| y3.2)

/-- The 2:4 metadata nibble: the kept dense positions, or none for an invalid nibble (R128, Table 3-8). -/
def nibblePair (n : Nat) : Option (Nat × Nat) :=
  let i0 := n % 4
  let i1 := n / 4 % 4
  if i0 < i1 then some (i0, i1) else none

end Sys2Proof.Machine
end

