-- ==== Sys2Proof/Config.lean ====
section
/-! DEFINITION. What the spec leaves open: free values. Each is an opaque constant without a body, so that no proof can see what it is and a claim holds whatever it is. A value that can differ from one time to the next takes the state's counter of free values as its first argument. -/

namespace Sys2Proof

/-- A free number: counter of the draw, index within it (orders of summation R65 and R126, and every result the spec does not state). [DESIGN CHOICE, safe, log entry 5] -/
opaque Config.freeNat : Nat → Nat → Nat

/-- Whether a quotient whose rounding the spec does not state is rounded up. -/
opaque Config.roundsUp : Nat → Nat → Bool

/-- Which free frame the page manager takes (R149): counter of the draw and size. [DEDUCED, safe, log entry 23] -/
opaque Config.framePick : Nat → Nat → Nat

/-- The value a VB function gives, within the accuracy of Table 6-2 and the same in every run (R235, R236): function number, operand. [DEDUCED, safe, log entry 21] -/
opaque Config.vbFn : Nat → BitVec 32 → BitVec 32

/-- The value of pow within the accuracy of Table 6-2 (R235, R236). [DEDUCED, safe, log entry 21] -/
opaque Config.vbPow : BitVec 32 → BitVec 32 → BitVec 32

/-- The trust anchors of the mask ROM: SHA-512 digests of the Hokupa root keys (R482). -/
opaque Config.anchor : Nat → List (BitVec 8)

/-- The copies of the two MAC addresses in the calibration region (R719): 0 of port A, 1 of port B. -/
opaque Config.calMac : Nat → List (BitVec 8)

/-- What the 8 KiB of Lighthouse's SRAM hold at a power-on (R484): counter of the draw. [DESIGN CHOICE, safe, log entry 87] -/
opaque Config.pufResponse : Nat → List (BitVec 8)

/-- Helper data of the calibration region (R484). [DESIGN CHOICE, safe, log entry 87] -/
opaque Config.pufHelper : List (BitVec 8)

/-- The seed that helper data and a response give, where it can be reconstructed (R484). [DESIGN CHOICE, safe, log entry 87] -/
opaque Config.pufSeed : List (BitVec 8) → List (BitVec 8) → Option (List (BitVec 8))

/-- The labels of the keys derived from the seed (R484): 0 DeviceID wrapping, 1 replay protection, 2 alias wrapping. [DESIGN CHOICE, safe, log entry 87] -/
opaque Config.keyLabel : Nat → List (BitVec 8)

/-- The RSA-4096 pair that a random draw gives: public and private part (R485). [DESIGN CHOICE, safe, log entry 87] -/
opaque Config.rsaPair : Nat → List (BitVec 8) × List (BitVec 8)

/-- Wrap and unwrap data under a key (R485). [DESIGN CHOICE, safe, log entry 87] -/
opaque Config.wrap : List (BitVec 8) → List (BitVec 8) → List (BitVec 8)
opaque Config.unwrap : List (BitVec 8) → List (BitVec 8) → List (BitVec 8)

/-- The DeviceID public key, its private part as stored, and the certificates of root, product CA and DeviceID, all made at manufacture (R480, R485). [DESIGN CHOICE, safe, log entry 87] -/
opaque Config.deviceId : List (BitVec 8)
opaque Config.deviceKey : List (BitVec 8)
/-- The certificates of root, product CA and DeviceID (R480). [DESIGN CHOICE, safe, log entry 87] -/
opaque Config.factoryChain : List (BitVec 8)

/-- The certificate of an alias public key under a DeviceID private key (R485). [DESIGN CHOICE, safe, log entry 87] -/
opaque Config.aliasCertificate : List (BitVec 8) → List (BitVec 8) → List (BitVec 8)

/-- Measurement 1: the digest of the mask ROM (Table 11-13). [DESIGN CHOICE, safe, log entry 87] -/
opaque Config.romDigest : List (BitVec 8)

/-- Where an item of the replay-protected area lies (R486): 0 keys and chain, 1 boot control word, 2 counters. [DESIGN CHOICE, safe, log entry 87] -/
opaque Config.areaAddress : Nat → List (BitVec 8)

/-- What the bitstream of an encode session depends on besides its descriptor (R434): the pictures in coding order, each with its source samples, regions, END_OF_STREAM, MARK_LONG, FORCE_IDR and whether its source could be read, and the VENC_RATE entries at their places among them. -/
inductive CodedInput where
  | picture (source : List (BitVec 8)) (roi : List (BitVec 128)) (endOfStream markLong forceIdr readable : Bool)
  | rate (bitrate maxBitrate : Nat)
  deriving DecidableEq, Repr

/-- The coded bytes of a slice of the last picture (R434): descriptor, inputs so far, slice. [DESIGN CHOICE, safe, log entry 86] -/
opaque Config.codedSlice : BitVec 2048 → List CodedInput → Nat → List (BitVec 8)

/-- Blocks of a slice that rate control recodes as fallback (R435): descriptor, inputs so far, slice. [DESIGN CHOICE, safe, log entry 86] -/
opaque Config.codedFallback : BitVec 2048 → List CodedInput → Nat → Nat

/-- A luma sample of the reconstruction of the last picture (R434): descriptor, inputs so far, column, row. [DESIGN CHOICE, safe, log entry 86] -/
opaque Config.reconSample : BitVec 2048 → List CodedInput → Nat → Nat → Nat

/-- A byte of a filler NAL unit (R435). [DESIGN CHOICE, safe, log entry 86] -/
opaque Config.fillerByte : Nat → BitVec 8

/-- A sample of a reduced copy of a source picture, from the samples it covers (R431). [DESIGN CHOICE, safe, log entry 86] -/
opaque Config.pyramidSample : List Nat → Nat

/-- A reference sample at a quarter-sample position, as the standard interpolates it: AVC, the 8 × 8 samples around it, horizontal and vertical quarter (R431). [DESIGN CHOICE, safe, log entry 86] -/
opaque Config.quarterSample : Bool → List Nat → Nat → Nat → Nat

/-- A quotient whose rounding the spec does not state: the floor, or one more where it is not exact. [DESIGN CHOICE, unsafe, log entry 19] -/
def Config.openDiv (n d : Nat) : Nat :=
  n / d + (if n % d ≠ 0 && Config.roundsUp n d then 1 else 0)

/-- Coefficients of the energy model in fJ for a unit of an activity (R565, R575), by term and whether the calibration record verified: 0 to 8 the handshakes of a TB by rate class and kind, 9 to 12 the lanes of VB, AE, LE and CE, 13 to 16 bytes of block SRAM and pools, 17 flit-hops, 18 to 20 HBM, 32 onwards luma samples by codec stage. [DEDUCED, safe, log entry 59] -/
opaque Config.energyCoeff : Bool → Nat → Nat

/-- Leakage of a compute region in fJ per ns, by set point and band, and the background of another region, by region and band (Table 14-5). [DEDUCED, safe, log entry 59] -/
opaque Config.leakage : Bool → Nat → Nat → Nat
/-- Background of a region other than a compute region in fJ per ns, by whether the calibration record verified, region and band (Table 14-5). [DEDUCED, safe, log entry 59] -/
opaque Config.background : Bool → Nat → Nat → Nat

end Sys2Proof
end

