-- ==== Sys2Proof/Machine/DictTable.lean ====
section
/-! DEFINITION. The object dictionary's entries: index, sub-index, type, access, role, default and range (the dictionary tables of 02, 04, 08 to 19). Every numeric entry that is stored has its one home in the dictionary of the state; derived entries are computed where they are read. -/

namespace Sys2Proof.Machine

/-- Dictionary types (R16, Table 0-3). -/
inductive DictType where
  | u8 | u16 | u32 | u64 | f32 | tide | string | octets
  deriving DecidableEq, Repr

/-- Dictionary access rights (R17). -/
inductive DictAccess where
  | ro | rw | wo | rwp
  deriving DecidableEq, Repr

/-- Size in bytes of a fixed-size type (Table 0-3); 0 for the two variable ones. -/
def DictType.size : DictType → Nat
  | .u8 => 1 | .u16 => 2 | .u32 | .f32 => 4 | .u64 | .tide => 8 | .string | .octets => 0

/-- One row of a dictionary table: keys `key` to `last` are index · 256 + sub-index. -/
structure DictRow where
  key : Nat
  last : Nat
  ty : DictType
  access : DictAccess
  /-- Role number of R18: 0 Observer, 1 Operator, 2 Maintainer, 3 Service. -/
  role : Nat
  dflt : Nat
  lo : Nat
  hi : Nat
  deriving DecidableEq, Repr

/-- Entries of 02_clockless_timing_and_tide.md. -/
def dictRows02 : List DictRow := [
  ⟨0x140001, 0x140001, .u8, .ro, 0, 0, 0, 3⟩,
  ⟨0x140002, 0x140002, .u8, .ro, 0, 0, 0, 3⟩,
  ⟨0x140003, 0x140003, .u32, .ro, 0, 4294967295, 0, 4294967295⟩,
  ⟨0x140004, 0x140004, .u8, .rwp, 2, 0, 0, 127⟩,
  ⟨0x140005, 0x140005, .u8, .rwp, 2, 15, 0, 15⟩,
  ⟨0x140006, 0x140006, .u8, .rwp, 2, 1, 0, 1⟩,
  ⟨0x140007, 0x140007, .u32, .rwp, 2, 1000, 100, 100000⟩,
  ⟨0x140008, 0x140008, .tide, .ro, 0, 0, 0, 18446744073709551615⟩,
  ⟨0x140009, 0x140009, .u32, .ro, 0, 0, 0, 4294967295⟩]

/-- Entries of 04_device_memory_and_page_manager.md. -/
def dictRows04 : List DictRow := [
  ⟨0x260001, 0x260001, .u8, .rwp, 2, 2, 1, 8⟩,
  ⟨0x620001, 0x620001, .u64, .ro, 2, 0, 0, 18446744073709551615⟩,
  ⟨0x620002, 0x620002, .u32, .ro, 0, 0, 0, 4294967295⟩,
  ⟨0x620003, 0x620003, .u64, .ro, 0, 0, 0, 18446744073709551615⟩,
  ⟨0x620004, 0x620004, .u64, .ro, 0, 0, 0, 18446744073709551615⟩,
  ⟨0x620005, 0x620005, .u64, .ro, 0, 0, 0, 18446744073709551615⟩]

/-- Entries of 08_attention_and_kv_pages.md. -/
def dictRows08 : List DictRow := [
  ⟨0x630001, 0x630001, .u64, .ro, 0, 0, 0, 18446744073709551615⟩,
  ⟨0x630002, 0x630002, .u32, .ro, 0, 0, 0, 4294967295⟩,
  ⟨0x630003, 0x630003, .u64, .ro, 0, 0, 0, 18446744073709551615⟩,
  ⟨0x630004, 0x630004, .u32, .ro, 0, 0, 0, 4194304⟩,
  ⟨0x630005, 0x630005, .u32, .ro, 0, 33030144, 0, 33030144⟩,
  ⟨0x630006, 0x630006, .u64, .ro, 0, 0, 0, 18446744073709551615⟩,
  ⟨0x630007, 0x630007, .u64, .ro, 0, 0, 0, 18446744073709551615⟩,
  ⟨0x630008, 0x630008, .u64, .ro, 0, 0, 0, 18446744073709551615⟩]

/-- Entries of 09_serving_engine.md. -/
def dictRows09 : List DictRow := [
  ⟨0x310001, 0x310001, .u32, .rwp, 1, 512, 0, 1048576⟩,
  ⟨0x310002, 0x310002, .u32, .rwp, 1, 2048, 256, 16384⟩,
  ⟨0x310003, 0x310003, .u8, .rwp, 1, 1, 1, 16⟩,
  ⟨0x310004, 0x310004, .u8, .rwp, 1, 1, 0, 1⟩,
  ⟨0x311001, 0x311010, .u16, .rwp, 2, 512, 0, 8192⟩,
  ⟨0x640001, 0x640001, .u64, .ro, 0, 0, 0, 18446744073709551615⟩,
  ⟨0x640002, 0x640002, .u64, .ro, 0, 0, 0, 18446744073709551615⟩,
  ⟨0x640003, 0x640003, .u64, .ro, 0, 0, 0, 18446744073709551615⟩,
  ⟨0x640004, 0x640004, .u64, .ro, 0, 0, 0, 18446744073709551615⟩,
  ⟨0x640005, 0x640005, .u64, .ro, 0, 0, 0, 18446744073709551615⟩,
  ⟨0x640006, 0x640006, .u32, .ro, 0, 0, 0, 2097151⟩,
  ⟨0x640007, 0x640007, .u64, .ro, 0, 0, 0, 18446744073709551615⟩,
  ⟨0x640008, 0x640008, .u64, .ro, 0, 0, 0, 18446744073709551615⟩,
  ⟨0x640009, 0x640009, .u64, .ro, 0, 0, 0, 18446744073709551615⟩,
  ⟨0x64000A, 0x64000A, .u64, .ro, 0, 0, 0, 18446744073709551615⟩]

/-- Entries of 10_video_engines.md. -/
def dictRows10 : List DictRow := [
  ⟨0x410001, 0x410001, .u8, .rwp, 2, 4, 2, 16⟩,
  ⟨0x410002, 0x410002, .u8, .rwp, 1, 1, 0, 1⟩,
  ⟨0x411001, 0x411010, .u8, .rwp, 2, 8, 0, 128⟩,
  ⟨0x412001, 0x412010, .u8, .rwp, 2, 2, 0, 32⟩,
  ⟨0x650001, 0x650001, .u64, .ro, 0, 0, 0, 18446744073709551615⟩,
  ⟨0x650002, 0x650002, .u64, .ro, 0, 0, 0, 18446744073709551615⟩,
  ⟨0x650003, 0x650003, .u64, .ro, 0, 0, 0, 18446744073709551615⟩,
  ⟨0x650004, 0x650004, .u32, .ro, 0, 0, 0, 4294967295⟩,
  ⟨0x650005, 0x650005, .u64, .ro, 0, 0, 0, 18446744073709551615⟩,
  ⟨0x650006, 0x650006, .u64, .ro, 0, 0, 0, 18446744073709551615⟩,
  ⟨0x650007, 0x650007, .u64, .ro, 0, 0, 0, 18446744073709551615⟩,
  ⟨0x650008, 0x650008, .u64, .ro, 0, 0, 0, 18446744073709551615⟩,
  ⟨0x650009, 0x650009, .u32, .ro, 0, 0, 0, 4294967295⟩,
  ⟨0x65000A, 0x65000A, .u32, .ro, 0, 0, 0, 4294967295⟩]

/-- Entries of 11_host_link_contexts_and_trust.md. -/
def dictRows11 : List DictRow := [
  ⟨0x710001, 0x710001, .u16, .ro, 1, 0, 0, 65535⟩,
  ⟨0x710002, 0x710002, .u16, .ro, 1, 0, 0, 65535⟩,
  ⟨0x710003, 0x710003, .u64, .ro, 0, 0, 0, 18446744073709551615⟩,
  ⟨0x710004, 0x710004, .u64, .ro, 0, 0, 0, 18446744073709551615⟩,
  ⟨0x710005, 0x710005, .u64, .ro, 0, 0, 0, 18446744073709551615⟩,
  ⟨0x710006, 0x710006, .u64, .ro, 0, 0, 0, 18446744073709551615⟩,
  ⟨0x710007, 0x710007, .u64, .ro, 0, 0, 0, 18446744073709551615⟩,
  ⟨0x710008, 0x710008, .u32, .ro, 0, 0, 0, 4294967295⟩,
  ⟨0x710009, 0x710009, .u32, .ro, 0, 0, 0, 4294967295⟩,
  ⟨0x71000A, 0x71000A, .octets, .ro, 0, 0, 64, 64⟩,
  ⟨0x71000B, 0x71000B, .u8, .ro, 0, 0, 0, 1⟩,
  ⟨0x71000C, 0x71000C, .octets, .ro, 0, 0, 64, 64⟩]

/-- Entries of 12_object_dictionary_and_mailboxes.md. -/
def dictRows12 : List DictRow := [
  ⟨0x100001, 0x100001, .string, .ro, 0, 0, 0, 255⟩,
  ⟨0x100002, 0x100002, .string, .ro, 0, 0, 0, 255⟩,
  ⟨0x100003, 0x100003, .string, .ro, 0, 0, 12, 12⟩,
  ⟨0x100004, 0x100004, .u8, .ro, 0, 0, 0, 255⟩,
  ⟨0x100005, 0x100005, .u32, .ro, 0, 0, 0, 4294967295⟩,
  ⟨0x100006, 0x100006, .u16, .ro, 0, 0, 0, 65535⟩,
  ⟨0x100007, 0x100007, .u8, .ro, 0, 0, 0, 63⟩,
  ⟨0x100008, 0x100008, .string, .rwp, 2, 0, 0, 64⟩,
  ⟨0x100009, 0x100009, .tide, .ro, 0, 0, 0, 18446744073709551615⟩,
  ⟨0x10000A, 0x10000A, .u8, .wo, 3, 0, 1, 1⟩,
  ⟨0x110001, 0x110001, .octets, .ro, 0, 0, 6, 6⟩,
  ⟨0x110002, 0x110002, .octets, .ro, 0, 0, 6, 6⟩,
  ⟨0x110003, 0x110003, .u32, .rwp, 2, 3232261121, 0, 4294967295⟩,
  ⟨0x110004, 0x110004, .u32, .rwp, 2, 4294967040, 0, 4294967295⟩,
  ⟨0x110005, 0x110005, .u32, .rwp, 2, 0, 0, 4294967295⟩,
  ⟨0x110006, 0x110006, .u8, .ro, 0, 0, 0, 3⟩,
  ⟨0x110201, 0x110201, .u16, .rwp, 2, 4869, 1024, 65535⟩,
  ⟨0x110202, 0x110202, .u8, .rwp, 2, 1, 0, 1⟩,
  ⟨0x110203, 0x110203, .u16, .rwp, 2, 0, 0, 4094⟩,
  ⟨0x110204, 0x110204, .u8, .rwp, 2, 5, 0, 7⟩,
  ⟨0x110301, 0x110301, .u32, .rwp, 2, 1000000, 250000, 1000000000⟩,
  ⟨0x110302, 0x110302, .tide, .rwp, 2, 0, 0, 18446744073709551615⟩,
  ⟨0x110303, 0x110303, .octets, .rwp, 2, 0, 8, 512⟩,
  ⟨0x110304, 0x110304, .u8, .wo, 2, 0, 1, 1⟩,
  ⟨0x110305, 0x110305, .u8, .rwp, 2, 0, 0, 1⟩,
  ⟨0x110401, 0x110404, .u32, .rwp, 2, 0, 100, 10000000⟩,
  ⟨0x120001, 0x120001, .u8, .ro, 0, 0, 0, 8⟩,
  ⟨0x120002, 0x120002, .u32, .rwp, 2, 10000, 100, 3600000⟩,
  ⟨0x120003, 0x120003, .u8, .ro, 0, 0, 0, 1⟩,
  ⟨0x121001, 0x121008, .u8, .ro, 0, 255, 0, 3⟩]

/-- Entries of 12_object_dictionary_and_mailboxes.md. -/
def dictRows12b : List DictRow := [
  ⟨0x610001, 0x610001, .u64, .ro, 0, 0, 0, 18446744073709551615⟩,
  ⟨0x610002, 0x610002, .u32, .ro, 0, 0, 0, 4294967295⟩,
  ⟨0x610003, 0x610003, .u64, .ro, 0, 0, 0, 18446744073709551615⟩,
  ⟨0x610004, 0x610004, .u64, .ro, 0, 0, 0, 18446744073709551615⟩,
  ⟨0x610005, 0x610005, .u32, .ro, 0, 0, 0, 4294967295⟩,
  ⟨0x610006, 0x610006, .u32, .ro, 0, 0, 0, 4294967295⟩,
  ⟨0x610007, 0x610007, .u64, .ro, 0, 0, 0, 18446744073709551615⟩,
  ⟨0x610008, 0x610008, .u64, .ro, 0, 0, 0, 18446744073709551615⟩]

/-- Entries of 13_power_states_and_wake.md. -/
def dictRows13 : List DictRow := [
  ⟨0x200001, 0x200001, .u8, .ro, 0, 1, 0, 3⟩,
  ⟨0x200002, 0x200002, .u8, .rwp, 2, 2, 2, 4⟩,
  ⟨0x200003, 0x200003, .u32, .rwp, 2, 5000, 10, 3600000⟩,
  ⟨0x200004, 0x200004, .u16, .rw, 1, 0, 0, 511⟩,
  ⟨0x200005, 0x200005, .tide, .rw, 2, 0, 0, 18446744073709551615⟩,
  ⟨0x201001, 0x201001, .u8, .rwp, 2, 3, 0, 255⟩,
  ⟨0x201002, 0x201007, .u32, .rwp, 2, 15, 0, 16777215⟩,
  ⟨0x201008, 0x201008, .u16, .ro, 0, 1244, 0, 65535⟩,
  ⟨0x202001, 0x202001, .octets, .ro, 0, 0, 32, 32⟩,
  ⟨0x202002, 0x202002, .u64, .ro, 0, 0, 0, 18446744073709551615⟩,
  ⟨0x202003, 0x202003, .u32, .ro, 0, 0, 0, 4294967295⟩,
  ⟨0x202004, 0x202004, .u32, .ro, 0, 0, 0, 4294967295⟩,
  ⟨0x203001, 0x203009, .u64, .ro, 1, 0, 0, 18446744073709551615⟩]

/-- Entries of 14_power_limits_energy_and_margins.md. -/
def dictRows14 : List DictRow := [
  ⟨0x210001, 0x210001, .u32, .rw, 1, 0, 0, 1650⟩,
  ⟨0x210002, 0x210002, .u32, .rwp, 2, 1650, 350, 1650⟩,
  ⟨0x210003, 0x210003, .u8, .ro, 0, 0, 0, 2⟩,
  ⟨0x210004, 0x210004, .f32, .ro, 0, 0, 0, 4294967295⟩,
  ⟨0x210005, 0x210005, .f32, .ro, 0, 0, 0, 4294967295⟩,
  ⟨0x210006, 0x210006, .u16, .ro, 0, 0, 0, 65535⟩,
  ⟨0x211001, 0x211001, .u64, .ro, 0, 0, 0, 18446744073709551615⟩,
  ⟨0x211002, 0x211002, .u64, .ro, 0, 0, 0, 18446744073709551615⟩,
  ⟨0x211003, 0x211003, .u32, .ro, 0, 0, 0, 4294967295⟩,
  ⟨0x220001, 0x22000C, .u32, .ro, 0, 0, 0, 4294967295⟩,
  ⟨0x221001, 0x22100C, .u64, .ro, 0, 0, 0, 18446744073709551615⟩,
  ⟨0x222001, 0x22200C, .u32, .ro, 0, 0, 0, 4294967295⟩,
  ⟨0x230001, 0x230001, .u64, .ro, 0, 0, 0, 18446744073709551615⟩,
  ⟨0x230002, 0x230002, .u64, .ro, 0, 0, 0, 18446744073709551615⟩,
  ⟨0x230003, 0x230003, .u64, .ro, 0, 0, 0, 18446744073709551615⟩,
  ⟨0x230004, 0x230004, .f32, .ro, 0, 0, 0, 4294967295⟩,
  ⟨0x230005, 0x230005, .f32, .ro, 0, 0, 0, 4294967295⟩,
  ⟨0x230006, 0x230006, .u8, .ro, 0, 0, 0, 2⟩,
  ⟨0x231001, 0x231010, .u64, .ro, 1, 0, 0, 18446744073709551615⟩,
  ⟨0x241001, 0x241030, .u16, .ro, 0, 0, 0, 65535⟩,
  ⟨0x242001, 0x242030, .u8, .ro, 0, 0, 0, 150⟩,
  ⟨0x242031, 0x242031, .u8, .wo, 3, 0, 1, 7⟩,
  ⟨0x250001, 0x250001, .u8, .rwp, 2, 0, 0, 2⟩,
  ⟨0x250002, 0x250002, .u16, .rwp, 2, 620, 620, 900⟩,
  ⟨0x250003, 0x250003, .u16, .rwp, 2, 900, 620, 900⟩,
  ⟨0x250004, 0x250004, .u16, .rwp, 2, 800, 620, 900⟩,
  ⟨0x250005, 0x250005, .u8, .rwp, 2, 0, 0, 2⟩,
  ⟨0x250006, 0x250006, .u8, .rwp, 2, 95, 70, 100⟩,
  ⟨0x250007, 0x250007, .u8, .rwp, 2, 0, 0, 2⟩,
  ⟨0x250008, 0x250008, .u8, .rwp, 2, 150, 10, 150⟩]

/-- Entries of 14_power_limits_energy_and_margins.md. -/
def dictRows14b : List DictRow := [
  ⟨0x251001, 0x251001, .u64, .ro, 0, 0, 0, 18446744073709551615⟩,
  ⟨0x251002, 0x251002, .u64, .ro, 0, 0, 0, 18446744073709551615⟩,
  ⟨0x251003, 0x251003, .u64, .ro, 0, 0, 0, 18446744073709551615⟩,
  ⟨0x251004, 0x251004, .u64, .ro, 0, 0, 0, 18446744073709551615⟩,
  ⟨0x251005, 0x251005, .u64, .ro, 0, 0, 0, 18446744073709551615⟩]

/-- Entries of 15_fabric_failover_and_spares.md. -/
def dictRows15 : List DictRow := [
  ⟨0x500001, 0x500001, .u8, .rwp, 2, 0, 0, 1⟩,
  ⟨0x500002, 0x500002, .u16, .rwp, 2, 0, 0, 65535⟩,
  ⟨0x500003, 0x500003, .u8, .rwp, 2, 0, 0, 1⟩,
  ⟨0x500004, 0x500004, .u8, .ro, 0, 0, 0, 63⟩,
  ⟨0x500005, 0x500005, .u8, .rwp, 2, 255, 0, 63⟩,
  ⟨0x500006, 0x500006, .octets, .rwp, 2, 0, 6, 6⟩,
  ⟨0x500007, 0x500007, .u8, .rwp, 2, 0, 0, 15⟩,
  ⟨0x500008, 0x500008, .u8, .rwp, 2, 7, 0, 7⟩,
  ⟨0x500009, 0x500009, .u8, .rwp, 2, 0, 0, 1⟩,
  ⟨0x50000A, 0x50000A, .u8, .ro, 0, 0, 0, 7⟩,
  ⟨0x510001, 0x510001, .u8, .rwp, 2, 0, 0, 1⟩,
  ⟨0x510002, 0x510002, .octets, .rwp, 2, 0, 6, 6⟩,
  ⟨0x510003, 0x510003, .u64, .ro, 0, 0, 0, 18446744073709551615⟩,
  ⟨0x510004, 0x510004, .u8, .ro, 0, 255, 0, 63⟩,
  ⟨0x510005, 0x510005, .u32, .ro, 0, 0, 0, 50000⟩,
  ⟨0x510006, 0x510006, .u8, .wo, 2, 0, 1, 1⟩,
  ⟨0x520001, 0x520001, .u16, .rwp, 2, 65535, 0, 65535⟩,
  ⟨0x520002, 0x520002, .u8, .rwp, 2, 0, 0, 1⟩,
  ⟨0x520003, 0x520003, .u8, .rwp, 2, 4, 0, 255⟩,
  ⟨0x520004, 0x520004, .u32, .rwp, 2, 10, 0, 1000000⟩,
  ⟨0x520005, 0x520005, .u16, .rwp, 2, 16, 1, 1024⟩,
  ⟨0x520006, 0x520006, .u8, .rwp, 2, 8, 0, 64⟩,
  ⟨0x530001, 0x530001, .u8, .wo, 2, 0, 0, 63⟩,
  ⟨0x540001, 0x540001, .u32, .rwp, 2, 86400, 0, 4294967295⟩,
  ⟨0x540002, 0x540002, .u8, .wo, 2, 0, 1, 2⟩,
  ⟨0x541001, 0x541010, .u64, .ro, 0, 0, 0, 18446744073709551615⟩,
  ⟨0x550001, 0x550001, .u64, .ro, 0, 0, 0, 18446744073709551615⟩,
  ⟨0x550002, 0x550002, .u32, .ro, 0, 0, 0, 4294967295⟩,
  ⟨0x550003, 0x550003, .u32, .ro, 0, 0, 0, 4294967295⟩,
  ⟨0x550004, 0x550004, .u32, .ro, 0, 0, 0, 4294967295⟩]

/-- Entries of 15_fabric_failover_and_spares.md. -/
def dictRows15b : List DictRow := [
  ⟨0x550005, 0x550005, .u32, .ro, 0, 0, 0, 4294967295⟩,
  ⟨0x550006, 0x550006, .u32, .ro, 0, 0, 0, 4294967295⟩,
  ⟨0x550007, 0x550007, .u64, .ro, 0, 0, 0, 18446744073709551615⟩,
  ⟨0x550008, 0x550008, .u64, .ro, 0, 0, 0, 18446744073709551615⟩,
  ⟨0x550009, 0x550009, .u32, .ro, 0, 0, 0, 4294967295⟩]

/-- Entries of 16_counters_global_stop_and_hangs.md. -/
def dictRows16 : List DictRow := [
  ⟨0x660001, 0x660001, .u8, .wo, 2, 0, 1, 1⟩,
  ⟨0x660002, 0x660002, .u8, .rw, 2, 0, 0, 127⟩,
  ⟨0x660003, 0x660003, .u8, .ro, 0, 0, 0, 4⟩,
  ⟨0x660004, 0x660004, .u8, .wo, 2, 0, 1, 1⟩,
  ⟨0x660005, 0x660005, .u8, .wo, 3, 0, 1, 1⟩,
  ⟨0x660006, 0x660006, .u32, .ro, 0, 0, 0, 4294967295⟩,
  ⟨0x660007, 0x660007, .u32, .ro, 0, 0, 0, 4294967295⟩,
  ⟨0x660008, 0x660008, .u64, .ro, 0, 0, 0, 18446744073709551615⟩,
  ⟨0x661001, 0x661001, .u8, .rwp, 2, 1, 0, 1⟩,
  ⟨0x670001, 0x670001, .u32, .rwp, 2, 1000, 0, 4294967295⟩,
  ⟨0x670002, 0x670002, .u32, .rwp, 2, 5000, 10, 3600000⟩,
  ⟨0x670003, 0x670003, .u8, .wo, 1, 0, 1, 1⟩,
  ⟨0x670004, 0x670004, .u32, .ro, 0, 0, 0, 65535⟩,
  ⟨0x670005, 0x670005, .u32, .ro, 0, 0, 0, 4294967295⟩,
  ⟨0x670006, 0x670006, .u32, .ro, 0, 0, 0, 4294967295⟩,
  ⟨0x670007, 0x670007, .u32, .ro, 0, 0, 0, 4294967295⟩]

/-- Entries of 17_firmware_images_and_journal.md. -/
def dictRows17 : List DictRow := [
  ⟨0x800001, 0x800001, .u8, .ro, 0, 0, 0, 4⟩,
  ⟨0x800002, 0x800002, .u8, .ro, 0, 0, 0, 1⟩,
  ⟨0x800003, 0x800003, .u8, .ro, 0, 255, 0, 1⟩,
  ⟨0x800004, 0x800004, .u8, .ro, 0, 0, 0, 3⟩,
  ⟨0x800005, 0x800005, .u32, .ro, 0, 0, 0, 4294967295⟩,
  ⟨0x800006, 0x800006, .u32, .ro, 0, 0, 0, 4294967295⟩,
  ⟨0x800007, 0x800007, .u8, .wo, 3, 0, 1, 1⟩,
  ⟨0x800008, 0x800008, .u8, .wo, 3, 0, 1, 1⟩,
  ⟨0x800009, 0x800009, .u32, .ro, 0, 0, 0, 4294967295⟩,
  ⟨0x80000A, 0x80000A, .u8, .ro, 0, 0, 0, 9⟩,
  ⟨0x80000B, 0x80000B, .u32, .ro, 0, 0, 0, 4294967295⟩,
  ⟨0x820001, 0x820001, .u32, .ro, 0, 0, 0, 131072⟩,
  ⟨0x820002, 0x820002, .u8, .wo, 2, 0, 1, 1⟩,
  ⟨0x820003, 0x820003, .u32, .ro, 0, 0, 0, 4294967295⟩,
  ⟨0x820004, 0x820004, .u32, .ro, 0, 0, 0, 4294967295⟩,
  ⟨0x820005, 0x820005, .u32, .ro, 0, 0, 0, 4294967295⟩,
  ⟨0x820006, 0x820006, .u32, .ro, 0, 0, 0, 4294967295⟩,
  ⟨0x820007, 0x820007, .u32, .ro, 0, 0, 0, 4294967295⟩,
  ⟨0x820008, 0x820008, .u64, .ro, 0, 0, 0, 18446744073709551615⟩]

/-- Entries of 18_integrity_faults_and_self_test.md. -/
def dictRows18 : List DictRow := [
  ⟨0x600001, 0x600001, .u8, .ro, 0, 0, 0, 2⟩,
  ⟨0x600002, 0x600002, .u8, .ro, 0, 0, 0, 8⟩,
  ⟨0x600003, 0x600003, .u8, .ro, 0, 0, 0, 1⟩,
  ⟨0x601001, 0x601006, .u32, .ro, 0, 0, 0, 4294967295⟩,
  ⟨0x602001, 0x602006, .octets, .ro, 0, 0, 24, 24⟩,
  ⟨0x603001, 0x603001, .u64, .ro, 0, 0, 0, 18446744073709551615⟩,
  ⟨0x603002, 0x603002, .u64, .ro, 0, 0, 0, 18446744073709551615⟩,
  ⟨0x603003, 0x603003, .u64, .ro, 0, 0, 0, 18446744073709551615⟩,
  ⟨0x603004, 0x603004, .u64, .ro, 0, 0, 0, 18446744073709551615⟩,
  ⟨0x603005, 0x603005, .u64, .ro, 0, 0, 0, 18446744073709551615⟩,
  ⟨0x603006, 0x603006, .u64, .ro, 0, 0, 0, 18446744073709551615⟩,
  ⟨0x603007, 0x603007, .u32, .ro, 0, 0, 0, 4294967295⟩,
  ⟨0x603008, 0x603008, .u32, .ro, 0, 0, 0, 4294967295⟩,
  ⟨0x603009, 0x603009, .u64, .ro, 0, 0, 0, 18446744073709551615⟩,
  ⟨0x60300A, 0x60300A, .u32, .ro, 0, 0, 0, 4294967295⟩,
  ⟨0x60300B, 0x60300B, .u64, .ro, 0, 0, 0, 18446744073709551615⟩,
  ⟨0x604001, 0x604001, .u32, .rw, 1, 0, 0, 32767⟩,
  ⟨0x604002, 0x604002, .octets, .ro, 1, 0, 64, 64⟩,
  ⟨0x680001, 0x680001, .u32, .rwp, 2, 10, 1, 3600⟩,
  ⟨0x680002, 0x680002, .u8, .wo, 2, 0, 1, 1⟩]

/-- Every entry of the dictionary. -/
def dictRows : List DictRow :=
  dictRows02 ++ dictRows04 ++ dictRows08 ++ dictRows09 ++ dictRows10 ++ dictRows11 ++ dictRows12 ++ dictRows12b ++ dictRows13 ++ dictRows14 ++ dictRows14b ++ dictRows15 ++ dictRows15b ++ dictRows16 ++ dictRows17 ++ dictRows18

/-- The row an entry key falls under (R505: none is NO_ENTRY). -/
def dictRow? (k : Nat) : Option DictRow := dictRows.find? fun r => decide (r.key ≤ k) && decide (k ≤ r.last)

end Sys2Proof.Machine
end

