-- ==== Sys2Proof/Machine/Status.lean ====
section
/-! DEFINITION. The 16-bit status codes of every class (00_scope.md R19 to R23, and the code tables of the files of Table 0-4). -/

namespace Sys2Proof.Machine

/-- A status field (R19): 0x0000 is OK. -/
abbrev Status := BitVec 16

/-- The only success value (R19). -/
def stOk : Status := 0x0000
def stBadEntry : Status := 0x0101
def stBadHeader : Status := 0x0102
def stLengthBounds : Status := 0x0103
def stBadVersion : Status := 0x0104
def stBadCheck : Status := 0x0105
def stBadSection : Status := 0x0106
def stBadTensor : Status := 0x0107
def stBadFormat : Status := 0x0108
def stBadOperator : Status := 0x0109
def stBadOpcode : Status := 0x010A
def stBadBinding : Status := 0x010B
def stBadHandle : Status := 0x010C
def stHandleLimit : Status := 0x010D
def stQueueStopped : Status := 0x010E
def stWaitTimeout : Status := 0x010F
def stBadAttr : Status := 0x0120
def stBadShape : Status := 0x0121
def stBadOperand : Status := 0x0122
def stBadLayout : Status := 0x0123
def stOpLimit : Status := 0x0124
def stBadExpr : Status := 0x0125
def stIndexRange : Status := 0x0126
def stInPlace : Status := 0x0127
def stBlockMismatch : Status := 0x0140
def stConvGeometry : Status := 0x0141
def stPadValueRange : Status := 0x0142
def stNoMemory : Status := 0x0201
def stQuotaExceeded : Status := 0x0202
def stRefLimit : Status := 0x0203
def stPageBusy : Status := 0x0204
def stNotMapped : Status := 0x0205
def stMapConflict : Status := 0x0206
def stKvFormat : Status := 0x0207
def stKvtPoolFull : Status := 0x0208
def stKvtAlign : Status := 0x0209
def stKvtGeometry : Status := 0x020A
def stKvtNoTable : Status := 0x020B
def stKvtHostEdit : Status := 0x020C
def stKvPageLimit : Status := 0x020D
def stSpecState : Status := 0x020E
def stBadPageCommand : Status := 0x0220
def stSpecPage : Status := 0x0221
def stTableFull : Status := 0x0301
def stBudgetWait : Status := 0x0302
def stBadRequest : Status := 0x0303
def stNoModel : Status := 0x0304
def stNoCustomer : Status := 0x0305
def stNoAdapter : Status := 0x0306
def stAdapterForced : Status := 0x0307
def stBadToken : Status := 0x0308
def stNoStream : Status := 0x0309
def stBadModel : Status := 0x030A
def stModelBusy : Status := 0x030B
def stReqStale : Status := 0x030C
def stTagInUse : Status := 0x030D
def stAdapterLimit : Status := 0x030E
def stSpecUnavailable : Status := 0x030F
def stBadAdapter : Status := 0x0310
def stStreamBusy : Status := 0x0311
def stStreamFull : Status := 0x0312
def stNoToken : Status := 0x0313
def stBadSession : Status := 0x0401
def stSessionLimit : Status := 0x0402
def stSessionBusy : Status := 0x0403
def stNoSession : Status := 0x0404
def stUnsupportedStream : Status := 0x0405
def stStreamLimit : Status := 0x0406
def stSyntaxError : Status := 0x0407
def stMissingRef : Status := 0x0408
def stPictureTimeout : Status := 0x0409
def stHrdInfeasible : Status := 0x040A
def stSourceFault : Status := 0x040B
def stTruncated : Status := 0x040C
def stBadRoi : Status := 0x040D
def stCtxState : Status := 0x0501
def stCtxExists : Status := 0x0502
def stQuotaOvercommit : Status := 0x0503
def stCtxGone : Status := 0x0504
def stFuncAbsent : Status := 0x0505
def stSliceOverrun : Status := 0x0506
def stDmaHostError : Status := 0x0507
def stDmaTimeout : Status := 0x0508
def stIdeInsecure : Status := 0x0509
def stTdiLocked : Status := 0x050A
def stIdentityFault : Status := 0x050B
def stBadSecCommand : Status := 0x050C
def stQuotaBelowUse : Status := 0x050D
def stQopSessionLimit : Status := 0x0520
def stAuthFailed : Status := 0x0521
def stSlotLocked : Status := 0x0522
def stSessionClosed : Status := 0x0523
def stNoEntry : Status := 0x0524
def stRoleDenied : Status := 0x0525
def stAccessDenied : Status := 0x0526
def stTypeMismatch : Status := 0x0527
def stValueRange : Status := 0x0528
def stPersistFailed : Status := 0x0529
def stMbxBadCommand : Status := 0x052A
def stMbxBadLength : Status := 0x052B
def stMbxDomainDown : Status := 0x052C
def stMbxChannel : Status := 0x052D
def stBadPassword : Status := 0x052E
def stScrubDone : Status := 0x052F
def stRailLimiting : Status := 0x0601
def stCapBinding : Status := 0x0602
def stCapUnachievable : Status := 0x0603
def stThermalLimiting : Status := 0x0604
def stModelDivergence : Status := 0x0605
def stSensorOrFault : Status := 0x0606
def stThermalTrip : Status := 0x0607
def stRailFault : Status := 0x0608
def stCalInvalid : Status := 0x0609
def stMarginRaised : Status := 0x060A
def stMarginExhausted : Status := 0x060B
def stLoopBoundInvalid : Status := 0x060C
def stStateChanged : Status := 0x0610
def stRetentionLost : Status := 0x0611
def stFloorNotReached : Status := 0x0612
def stModuleReady : Status := 0x0620
def stFeedRange : Status := 0x0621
def stFeedLost : Status := 0x0622
def stEoffRecorded : Status := 0x0623
def stCoolantRange : Status := 0x0624
def stHoldupDegraded : Status := 0x0625
def stSlotIdChanged : Status := 0x0626
def stFruFault : Status := 0x0627
def stLinkDown : Status := 0x0701
def stLeaseLost : Status := 0x0702
def stNoRoute : Status := 0x0703
def stPlaceInUse : Status := 0x0704
def stMirrorLost : Status := 0x0705
def stConfigMismatch : Status := 0x0706
def stCompareMismatch : Status := 0x0707
def stSplitDetected : Status := 0x0708
def stPairState : Status := 0x0709
def stBerFail : Status := 0x070A
def stRxRefused : Status := 0x070B
def stFabricPoison : Status := 0x070C
def stPathLost : Status := 0x070D
def stPeerSilent : Status := 0x070E
def stTakeover : Status := 0x070F
def stJobFault : Status := 0x0801
def stRegionFault : Status := 0x0802
def stChipFault : Status := 0x0803
def stSelftestMismatch : Status := 0x0804
def stBlockDisabled : Status := 0x0805
def stRegionDisabled : Status := 0x0806
def stFrameRetired : Status := 0x0807
def stSweepClean : Status := 0x0808
def stReplayDisagree : Status := 0x0809
def stRecovered : Status := 0x080A
def stHealthChanged : Status := 0x080B
def stSlackStopped : Status := 0x0820
def stSlackState : Status := 0x0821
def stScanDone : Status := 0x0822
def stHangCycle : Status := 0x0823
def stHangSuspect : Status := 0x0824
def stHdrRefused : Status := 0x0901
def stBodyDigest : Status := 0x0902
def stUpdState : Status := 0x0903
def stImageIncomplete : Status := 0x0904
def stRolledBack : Status := 0x0905
def stBootAttemptFailed : Status := 0x0906
def stActivated : Status := 0x0907
def stJournalCorrupt : Status := 0x0908
def stSettingsMigrated : Status := 0x0909
def stRecoveryMode : Status := 0x090A
def stFlashFault : Status := 0x090B

/-- The class of a status (R19). -/
def statusClass (s : Status) : BitVec 8 := s.extractLsb' 8 8

end Sys2Proof.Machine
end

