-- ==== Sys2Proof/Machine/State.lean ====
section
/-! DEFINITION. The state of the QX8-H as plain data: every register, table, buffer, counter, mode and pin that the spec gives the module, the queue of commands that wait, and what has left the module across J1. -/

namespace Sys2Proof.Machine

/-- What has left the module across J1, or been answered at a port: the model's record of what the outside sees, newest first. -/
inductive Emission where
  /-- Read data returned to a function: window-free address, size in bytes, value. -/
  | readData (fn addr size value : Nat)
  /-- A read through W4 returned these bytes. -/
  | readBytes (fn addr : Nat) (bytes : List Byte)
  /-- A read through W4 of poisoned memory: its completion is marked poisoned and carries no valid data (R36). -/
  | poisoned (fn addr : Nat)
  /-- A request ended with Completer Abort. -/
  | completerAbort (fn : Nat)
  /-- A request ended with Unsupported Request. -/
  | unsupportedRequest (fn : Nat)
  /-- An MSI-X message of a function's vector. -/
  | msix (fn vector : Nat)
  /-- A posted write to host memory. -/
  | hostWrite (fn addr : Nat) (bytes : List Byte)
  /-- A read request to host memory. -/
  | hostRead (fn addr len : Nat)
  /-- A flit leaves a fabric port: its 256 bytes (Table 15-2). -/
  | flit (port : Nat) (bytes : List Byte)
  /-- An Ethernet frame other than QOP (kind code, fields), by port. -/
  | ether (port kind : Nat) (fields : List Nat)
  /-- A QOP frame: port, VLAN tag (0 untagged), R-TAG if it has one, destination address and UDP port, UDP payload. -/
  | qop (port tag : Nat) (rtag : Option Nat) (ip udp : Nat) (body : List Byte)
  /-- An SPDM, TDISP or IDE-KM reply on a DOE mailbox: responder code, fields. -/
  | doe (kind : Nat) (fields : List Nat)
  deriving DecidableEq, Repr

/-- Consecutive CRC failures of one flit on a die-to-die link (R26, R27). -/
structure D2dLink where
  flit : Nat
  fails : Nat
  failed : Bool
  deriving DecidableEq, Repr

def D2dLink.reset : D2dLink := ⟨0, 0, false⟩

/-- Where a compute region stands (R37, R40). -/
inductive RegionPhase where
  | inService | draining | selfTest | disabled
  deriving DecidableEq, Repr

/-- Who holds a compute region (R218, R353). -/
inductive RegionHolder where
  | free
  | job (id : Nat)
  | serving (ctx : Nat)
  deriving DecidableEq, Repr

/-- What the region arbiter assigns a pool bank to at placement (R172). -/
inductive BankUse where
  | free | tiles | kv | work
  deriving DecidableEq, Repr

/-- The division of each TB's block SRAM for a convolution (R125, Table 7-4): bytes of a slice row, rows of a row tile, and KiB of accumulators, lowering buffer and B tiles with metadata. -/
structure SramDivision where
  sliceRow : Nat
  rowTile : Nat
  accumulators : Nat
  lowering : Nat
  tiles : Nat
  deriving DecidableEq, Repr

/-- A compute region. -/
structure RegionState where
  phase : RegionPhase
  holder : RegionHolder
  /-- Context whose data its block SRAM and pool hold; none when they are zero-filled (R173, R37 step 4). -/
  sram : Option Nat
  /-- Jobs that had work in it when it faulted (R37 step 3, R39). -/
  faulted : List Nat
  /-- Use of the pool banks 0 to 23 (R172); empty when nothing is placed. -/
  banks : List BankUse
  /-- Division of block SRAM for the convolution placed on it (R172, R287). -/
  division : Option SramDivision
  deriving DecidableEq, Repr

def RegionState.reset : RegionState := ⟨.inService, .free, none, [], [], none⟩

/-- Block SRAM and pool zero-filled: they hold nobody's data (R37 step 4, R173). -/
def RegionState.zeroed (x : RegionState) : RegionState := { x with sram := none, banks := [], division := none }

/-- The states of the Tide unit (R87, Table 2-7 STATE). -/
inductive TideMode where
  | free | acquiring | locked | holdover
  deriving DecidableEq, Repr

/-- The time-of-day source in use (Table 2-7 SOURCE). -/
inductive TideSource where
  | none | tsnA | tsnB | fabric (port : Nat)
  deriving DecidableEq, Repr

/-- What the Tide unit holds of one time-of-day source (R76, R79, R84). -/
structure TideInput where
  /-- Its sync messages arrive (R84). -/
  valid : Bool
  /-- `now` at its last sync message. -/
  last : Nat
  /-- The interval in ns between sync messages. -/
  interval : Nat
  /-- The clock's priority for the best master clock algorithm (lower is better) (R76). -/
  priority : Nat
  /-- Source time minus Tide at the last message, in ns. -/
  offset : Int
  /-- Measured delay of the link in ns (R76, R79). -/
  delay : Int
  deriving DecidableEq, Repr

/-- A source from which nothing has come. -/
def TideInput.none : TideInput := ⟨false, 0, 0, 0, 0, 0⟩

/-- The rate register of a compute region (Table 2-8). -/
structure RateReg where
  window : BitVec 16
  rate : BitVec 16
  deriving DecidableEq, Repr

def RateReg.reset : RateReg := ⟨0, 0⟩

/-- The Tide unit (02_clockless_timing_and_tide.md). -/
structure TideUnit where
  /-- The 64-bit counter (R70). -/
  count : BitVec 64
  mode : TideMode
  /-- The error estimate in units of 1/3,600,000,000,000 ns, so that the growth of R88 is exact. -/
  errFine : Nat
  source : TideSource
  /-- The step of R71 has been made (R72). -/
  stepped : Bool
  /-- TIDE_REF is valid under R83, and the last edge of TIDE_PPS lay within 500 ns of a Tide second boundary (R81), whatever SOURCE_ENABLE says. -/
  refValid : Bool
  ppsValid : Bool
  /-- The correction that the discipline works toward by the rate of its base (R71): from the time of day of the source in use, or from TIDE_PPS (R75). -/
  phase : Int
  tsnA : TideInput
  tsnB : TideInput
  /-- Fabric servers by port. -/
  fabric : Store TideInput
  /-- In ACQUIRING: since when the estimate has stayed at or below 10 ns. -/
  goodSince : Option Nat
  /-- In LOCKED: sync intervals in a row with an estimate above 50 ns. -/
  badIntervals : Nat
  /-- `now` when settings last took effect, and the values of 0x1400.04 to .07 in effect (R93: a write takes effect at the next sync interval). -/
  latchedAt : Nat
  domain : Nat
  enable : Nat
  serve : Nat
  limit : Nat
  /-- `now` at the last TIME_REQ sent (R79). -/
  lastReq : Option Nat
  /-- Bits [63:32] latched per function (R91). -/
  latch : Store (BitVec 32)
  /-- EVC_RATE per compute region (Table 2-8). -/
  rates : Store RateReg
  deriving DecidableEq, Repr

/-- The Tide unit at power-on (R71, Tables 2-7 to 2-9). -/
def TideUnit.reset : TideUnit :=
  { count := 0, mode := .free, errFine := 0xFFFFFFFF * 3600000000000, source := .none, stepped := false,
    refValid := false, ppsValid := false, tsnA := .none, tsnB := .none, fabric := [], goodSince := none,
    badIntervals := 0, phase := 0, latchedAt := 0, domain := 0, enable := 0x0F, serve := 1, limit := 1000, lastReq := none,
    latch := [], rates := [] }

/-- Who owns a frame (R146). -/
inductive FrameOwner where
  | device
  | ctx (c : Nat) (gen : BitVec 16)
  deriving DecidableEq, Repr

/-- What becomes of a listed frame: held, or being zero-filled before it returns to the free pool (R149), or retired (R151). -/
inductive FramePhase where
  | held | filling | retired
  deriving DecidableEq, Repr

/-- A frame that is not in the free pool (R145 to R151), keyed by its first 4 KiB granule of DPA. -/
structure PageFrame where
  /-- Size: 4 KiB · 2^k. -/
  k : Nat
  owner : FrameOwner
  /-- CVA mappings plus KV page-table entries that name it (R147). -/
  refs : Nat
  pins : Nat
  /-- The SPEC attribute of a tentative page (08). -/
  spec : Bool
  /-- Marked for retirement (R151). -/
  retire : Bool
  phase : FramePhase
  deriving DecidableEq, Repr

/-- One page of a context's map, keyed by context · 2^26 + CVA / 4096. -/
structure Mapping where
  frame : Nat
  k : Nat
  deriving DecidableEq, Repr

/-- A released mapping that jobs admitted before the RELEASE still use (R163). -/
structure GhostMap where
  ctx : Nat
  gran : Nat
  k : Nat
  frame : Nat
  /-- Its place in the page manager's order. -/
  released : Nat
  deriving DecidableEq, Repr

/-- Work admitted to a context's pages (R163). -/
structure Admission where
  ctx : Nat
  seq : Nat
  deriving DecidableEq, Repr

/-- A page command that has reached the page manager: source, generation at its acceptance, record of Table 4-3. -/
structure PmCmd where
  src : PageSrc
  gen : BitVec 16
  record : BitVec 256
  deriving DecidableEq, Repr

/-- Why the fill engine zero-fills a frame. -/
inductive FillWhy where
  /-- The frame returns to the free pool (R149). -/
  | free
  /-- A ZERO command of this source (Table 4-4). -/
  | zero (src : PageSrc)
  /-- The frames of a context in SCRUB (R465), held as one item. -/
  | scrub (c : Nat)
  deriving DecidableEq, Repr

/-- One entry of the fill queue, in due order (R169). -/
structure FillItem where
  frame : Nat
  why : FillWhy
  deriving DecidableEq, Repr

/-- Why the fill engine copies a frame. -/
inductive CopyWhy where
  /-- A COPY command: context and CVA granule to remap. -/
  | copy (src : PageSrc) (ctx gran : Nat)
  /-- Copy-on-write of this stall (R161). -/
  | cow (stall : Nat)

  deriving DecidableEq, Repr

/-- One entry of the copy queue (R170). -/
structure CopyItem where
  source : Nat
  dest : Nat
  k : Nat
  why : CopyWhy
  deriving DecidableEq, Repr

/-- A block write stalled in copy-on-write (R161). -/
structure CowStall where
  job : Nat
  ctx : Nat
  /-- First granule of the mapping that the write went through, and the place of its release where it is a released one (R161, R163). -/
  gran : Nat
  ghost : Option Nat
  old : Nat
  new : Nat
  cva : Nat
  bytes : List Byte
  /-- The copy is complete. -/
  copied : Bool
  deriving DecidableEq, Repr

/-- A COPY or ZERO that completes when its fill-engine work is done (R159). -/
structure PmWork where
  cmd : PmCmd
  left : Nat
  deriving DecidableEq, Repr

/-- The page manager and the fill engine (04). -/
structure PageManager where
  /-- L of R137, in effect since reset. -/
  localGib : Nat
  frames : Store PageFrame
  maps : Store Mapping
  ghosts : List GhostMap
  live : List Admission
  /-- The page manager's single order (R158, R163). -/
  order : Nat
  queue : List PmCmd
  /-- RELEASE commands with WAIT = 1 that wait for pins to end (R157). -/
  waits : List PmCmd
  work : List PmWork
  fills : List FillItem
  copies : List CopyItem
  stalls : Store CowStall
  deriving DecidableEq, Repr

/-- At reset. [DESIGN CHOICE, safe, log entry 78] -/
def PageManager.reset : PageManager :=
  { localGib := 2, frames := [], maps := [], ghosts := [], live := [], order := 0, queue := [], waits := [], work := [],
    fills := [], copies := [], stalls := [] }

/-- A command register path: PGM_CMD, PGM_KVT, SEC_CTX or UPD (Tables 4-11 and 4-12). -/
structure CmdPath where
  overrun : Bool
  busy : Bool
  seq : BitVec 16
  status : Status
  result : BitVec 64
  deriving DecidableEq, Repr

def CmdPath.reset : CmdPath := ⟨false, false, 0, 0, 0⟩

/-- Where a fetched ring entry stands (R202, R203). -/
inductive EntryPhase where
  /-- Fetched, not started. -/
  | fetched
  /-- Refused at step 1; completes after every earlier entry (R202). -/
  | bad
  /-- Started: a RUN's job, a page command, a serving or video entry in progress. -/
  | running
  /-- A WAIT that tests ADDR against VALUE. -/
  | waiting
  deriving DecidableEq, Repr

/-- A fetched ring entry that has not completed. -/
structure QEntry where
  id : Nat
  /-- Its index in the submission ring. -/
  idx : Nat
  raw : BitVec 512
  phase : EntryPhase
  /-- `now` when it started. -/
  start : Nat
  /-- Place among doorbells (R218). -/
  bell : Nat
  /-- A rerun under AUTO_RESTART (R213). -/
  rerun : Bool
  /-- The queue's run of records it belongs to (R210). -/
  epoch : Nat
  deriving DecidableEq, Repr

/-- A finished completion record that waits to be written, without PHASE. -/
structure HeldRecord where
  bits : BitVec 256
  /-- The rerun that is placed when this JOB_FAULT record is written while the queue runs (R213). -/
  again : Option QEntry
  deriving DecidableEq, Repr

/-- A queue pair (05). -/
structure QueueState where
  sqBase : BitVec 64
  cqBase : BitVec 64
  sqOrder : Nat
  cqOrder : Nat
  enable : Bool
  irqEn : Bool
  lastError : Status
  dbDrop : Bool
  error : Bool
  running : Bool
  /-- Index one past the last submitted entry. -/
  tail : Nat
  /-- Index of the next entry to fetch. -/
  fetch : Nat
  /-- Doorbells not yet used up by fetches: entries left, place. -/
  bells : List (Nat × Nat)
  /-- Fetched entries that have not completed, in ring order. -/
  entries : List QEntry
  /-- Finished records not yet written, in completion order (R208). -/
  held : List HeldRecord
  cqTail : Nat
  cqHead : Nat
  /-- PHASE of the next record. -/
  phase : Bool
  /-- MSI-X may be raised at the next record (R209). -/
  armed : Bool
  epoch : Nat
  deriving DecidableEq, Repr

def QueueState.reset : QueueState :=
  { sqBase := 0, cqBase := 0, sqOrder := 4, cqOrder := 4, enable := false, irqEn := false, lastError := 0,
    dbDrop := false, error := false, running := false, tail := 0, fetch := 0, bells := [], entries := [], held := [],
    cqTail := 0, cqHead := 0, phase := true, armed := true, epoch := 0 }

/-- A plane of a tensor bound for one run (R199). -/
structure Binding where
  tensor : Nat
  plane : Nat
  addr : Nat
  len : Nat
  deriving DecidableEq, Repr

/-- A loaded program: the validated copy (R200). -/
structure Program where
  tensors : List (BitVec 2048)
  operators : List (BitVec 512)
  attrs : List Byte
  exprs : List Byte
  scratch : Nat
  maxRegions : Nat
  version : Nat
  /-- Frames that hold the copy. -/
  frames : List Nat
  /-- Runs that use it (R221). -/
  users : Nat
  /-- UNLOAD has executed; it goes when its last run ends. -/
  unloaded : Bool
  gen : BitVec 16
  deriving DecidableEq, Repr

/-- Where an operator of a job stands (R219). -/
inductive OpPhase where
  | waiting | issued
  /-- The rows of a SAMPLE wait in the sampler's queue (R229). -/
  | sampling
  | computed | complete
  deriving DecidableEq, Repr

/-- A RUN that has passed validation (R214, R218). -/
structure Job where
  ctx : Nat
  gen : BitVec 16
  q : Nat
  entry : Nat
  prog : Nat
  bindings : List Binding
  scratch : Nat
  priority : Nat
  deadline : Nat
  bell : Nat
  /-- Its admission to the context's pages (R163). -/
  seq : Nat
  placed : Bool
  regions : List Nat
  ops : List OpPhase
  /-- Numeric exception field (R131). -/
  numFlags : NumFlags
  /-- Status of a run that has faulted, and the operator. -/
  fault : Option (Status × Nat)
  /-- INDEX_RANGE of the first operator that met one (R252): the run goes on to its end. -/
  index : Option Nat
  /-- It is not requeued (R621). -/
  once : Bool
  /-- Planes of its INPUT and INOUT tensors as read at its start, kept for a REPLAY (R599); none where they are not kept or a read of them delivered poison. -/
  inputs : Option (List Byte)
  /-- `now` at its placement. -/
  started : Nat
  /-- Energy attributed so far in nJ (14). -/
  energy : Nat
  /-- The tables T of its constant-mode convolutions, formed at the start of the run, by operator (R283): 32 bits and flags of each entry, none where poison reached it. -/
  padT : Store (List (Option (BitVec 32 × NumFlags)))
  deriving DecidableEq, Repr

/-- A KV page and its header (Table 8-2); its reference count is that of its frame. -/
structure KvPage where
  frame : Nat
  k : Nat
  fmt : Nat
  tcode : Nat
  spec : Bool
  ctx : Nat
  gen : BitVec 16
  layer : Nat
  hkv : Nat
  d : Nat
  dv : Nat
  kScale : BitVec 32
  vScale : BitVec 32
  deriving DecidableEq, Repr

/-- A page-table entry (Table 8-4): page header slot and FILL. -/
structure KvEntry where
  slot : Nat
  fill : Nat
  deriving DecidableEq, Repr

/-- A span: its TCODE and one entry per layer (R308). -/
structure KvSpan where
  tcode : Nat
  entries : List KvEntry
  deriving DecidableEq, Repr

/-- An open overlay (R339, R340). -/
structure KvOverlay where
  start : Nat
  count : Nat
  base : Nat
  entries : List KvEntry
  deriving DecidableEq, Repr

/-- A page table (Table 8-3). -/
structure KvTable where
  ctx : Nat
  gen : BitVec 16
  kind : Nat
  layers : Nat
  hkv : Nat
  d : Nat
  dv : Nat
  length : Nat
  version : BitVec 32
  epoch : BitVec 32
  spans : List KvSpan
  /-- PTE_BASE: where its entry block begins. -/
  base : Nat
  overlay : Option KvOverlay
  deriving DecidableEq, Repr

/-- A walk that holds an epoch of a table (R332): what it recorded of the table's header, the step's own token count and the frames it captured. -/
structure KvWalk where
  table : Nat
  epoch : BitVec 32
  length : Nat
  version : BitVec 32
  /-- PTE_BASE and SPANS. -/
  base : Nat
  spans : Nat
  /-- SPEC_FROM, SPEC_COUNT and SPEC_BASE while SPEC_VALID = 1. -/
  overlay : Option (Nat × Nat × Nat)
  count : Nat
  frames : List Nat
  deriving DecidableEq, Repr

/-- An edit that removes something from a table (R334). -/
inductive KvRemoval where
  | truncate (p : Nat)
  | replace (span : Nat) (spans : List KvSpan)
  | destroy
  deriving DecidableEq, Repr

/-- A removing edit that waits for walks: it executes when no walk of the table holds this epoch or an earlier one (R334). -/
structure KvPending where
  table : Nat
  edit : KvRemoval
  epoch : BitVec 32
  deriving DecidableEq, Repr

/-- An entry block that a table has left, kept until the walks of this epoch and earlier have ended (R334). -/
structure KvOldBlock where
  base : Nat
  table : Nat
  epoch : BitVec 32
  deriving DecidableEq, Repr

/-- The KV page-table pool (08). -/
structure KvPool where
  tables : Store KvTable
  /-- Page headers by slot. -/
  pages : Store KvPage
  /-- Entry blocks in use: first entry index to number of entries. -/
  blocks : Store Nat
  oldBlocks : List KvOldBlock
  walks : Store KvWalk
  pending : List KvPending
  /-- Record and generation of the command GO has given to PGM_KVT, by function. -/
  reads : Store (BitVec 128 × BitVec 16)
  /-- Status of the last edit, as its issuer sees it. -/
  answer : Status
  deriving DecidableEq, Repr

/-- At reset. [DESIGN CHOICE, safe, log entry 78] -/
def KvPool.reset : KvPool :=
  { tables := [], pages := [], blocks := [], oldBlocks := [], walks := [], pending := [], reads := [], answer := 0 }

/-- A ring entry that waits for its completion: queue, entry. -/
structure EntryRef where
  fn : Nat
  q : Nat
  id : Nat
  deriving DecidableEq, Repr

/-- A bound model (Table 9-1). -/
structure Model where
  /-- Key of its program. -/
  prog : Nat
  maxContext : Nat
  vocab : Nat
  tokensIn : Nat
  posIn : Nat
  logitsOut : Nat
  steps : List Nat
  layers : Nat
  kvFmt : Nat
  kvTcode : Nat
  draft : Option Nat
  regions : Nat
  hkv : Nat
  d : Nat
  dv : Nat
  qFmt : Nat
  sMax : Nat
  /-- The MODEL_UNBIND that waits for its requests (R354). -/
  leaving : Option EntryRef
  /-- The model descriptor (Table 9-1), for the digest of R618. -/
  desc : BitVec 1024
  deriving DecidableEq, Repr

/-- A customer's token bucket (R362). -/
structure Customer where
  refill : Nat
  burst : Nat
  level : Int
  carry : Nat
  last : Nat
  deriving DecidableEq, Repr

/-- STATE of a request (Table 9-5); a free entry is not listed. -/
inductive ReqState where
  | waiting | prefill | decode | draining | ending
  deriving DecidableEq, Repr

/-- A request table entry (Table 9-4) with what the engine keeps beside it. -/
structure Request where
  ctx : Nat
  gen : BitVec 16
  desc : BitVec 1024
  state : ReqState
  admitTide : Nat
  delivered : Nat
  prefixHit : Nat
  specProposed : Nat
  specAccepted : Nat
  energy : Nat
  /-- Its KV table; 65,536 once that is destroyed. -/
  table : Nat
  draftTable : Option Nat
  adapterGen : Nat
  status : Status
  waitReason : Status
  restarts : Nat
  mixedKv : Bool
  deadlineMissed : Bool
  cancelPending : Bool
  /-- The pending end is a forced replacement (R392). -/
  forced : Bool
  resumed : Bool
  inFlight : Bool
  endReason : Nat
  /-- The prompt copy (R358) and its frames. -/
  prompt : List (BitVec 32)
  frames : List Nat
  /-- Delivered tokens, oldest first. -/
  out : List (BitVec 32)
  /-- The 4,096 count slots (R374). -/
  counts : Store Nat
  /-- Tokens drawn and not yet in the stream, oldest first. -/
  drawn : List (BitVec 32)
  /-- The end record is still to be written. -/
  endDue : Bool
  /-- Since when an allocation of it fails (R383). -/
  noMemSince : Option Nat
  /-- Tide at the last time its budget wait was counted (0x6400.09). -/
  budgetSince : Option Nat
  /-- CANCEL entries that complete with the end record (R388). -/
  cancels : List EntryRef
  deriving DecidableEq, Repr

/-- A stream (R369 to R372). -/
structure Stream where
  ring : Nat
  order : Nat
  vector : Nat
  head : Nat
  tail : Nat
  phase : Bool
  armed : Bool
  /-- The STREAM_CLOSE that waits for its requests. -/
  closing : Option EntryRef
  deriving DecidableEq, Repr

/-- A target of an adapter (R390): LA and LB as BF16 codes. -/
structure AdapterTarget where
  op : Nat
  rank : Nat
  alpha : BitVec 32
  la : List (BitVec 16)
  lb : List (BitVec 16)
  deriving DecidableEq, Repr

/-- A resident adapter generation (R391). -/
structure AdapterGen where
  ctx : Nat
  handle : Nat
  gen : Nat
  model : Nat
  current : Bool
  targets : List AdapterTarget
  frames : List Nat
  /-- Forced replacements that wait for it to be freed (R392). -/
  waiters : List EntryRef
  deriving DecidableEq, Repr

/-- A prefix node (Table 9-8). -/
structure PrefixNode where
  tokens : List (BitVec 32)
  lastUse : Nat
  table : Option Nat
  parent : Option Nat
  depth : Nat
  children : Nat
  pins : Nat
  adapter : Nat
  adapterGen : Nat
  gen : BitVec 16
  ctx : Nat
  model : Nat
  /-- KEY_HASH. -/
  hash : Nat
  /-- NEXT: the next node in its bucket. -/
  next : Option Nat
  deriving DecidableEq, Repr

/-- What a serving step is. -/
inductive StepKind where
  | prefill | decode | spec
  deriving DecidableEq, Repr

/-- A member of a step: request, first position, tokens computed, drafts to verify with their draft distributions (empty for q = 1), walk, admission, decode batch group. -/
structure StepMember where
  req : Nat
  start : Nat
  tokens : List (BitVec 32)
  drafts : List (BitVec 32)
  dists : List (List (Nat × BitVec 32))
  walk : Nat
  group : Nat
  /-- Positions among them that are charged (R361). -/
  charged : Nat
  deriving DecidableEq, Repr

/-- The step a context has in flight (R354). -/
structure ServingStep where
  kind : StepKind
  model : Nat
  members : List StepMember
  /-- Admission of the step to the context's pages (R163). -/
  seq : Nat
  regions : List Nat
  deriving DecidableEq, Repr

/-- Logits of a request that wait for the sampler: request, rows as FP32 codes, drafts and their distributions. -/
structure LogitRows where
  req : Nat
  rows : List (List (BitVec 32))
  drafts : List (BitVec 32)
  dists : List (List (Nat × BitVec 32))
  deriving DecidableEq, Repr

/-- An entry of the sampler's queue (R229, R378): the logits of a request, or one row of a SAMPLE operator of a job. -/
inductive SamplerItem where
  | request (l : LogitRows)
  | sample (job op row : Nat)
  deriving DecidableEq, Repr

/-- The entry belongs to a request. -/
def SamplerItem.isOf (x : SamplerItem) (req : Nat) : Bool :=
  match x with
  | .request l => l.req == req
  | .sample _ _ _ => false

/-- The serving engine (09). -/
structure Serving where
  /-- By context · 4 + slot. -/
  models : Store Model
  /-- By context · 1024 + customer. -/
  customers : Store Customer
  /-- last_customer by context · 8 + priority (R365). -/
  lastCustomer : Store Nat
  /-- The request table, 8,192 entries. -/
  requests : Store Request
  /-- By context · 256 + stream. -/
  streams : Store Stream
  /-- Resident adapter generations, 256. -/
  adapters : Store AdapterGen
  /-- The last generation number of a handle, by context · 256 + handle. -/
  adapterLast : Store Nat
  nodes : Store PrefixNode
  /-- The 2²¹ bucket heads of the prefix index (R380). -/
  buckets : Store Nat
  /-- By context. -/
  steps : Store ServingStep
  /-- Decode steps since the last prefill row, by context (R367). -/
  sincePrefill : Store Nat
  /-- The sampler's queue, in arrival order (R229, R378). -/
  rows : List SamplerItem
  /-- Since when no request of a context holding regions has been startable (R353). -/
  idleSince : Store Nat
  deriving DecidableEq, Repr

def Serving.reset : Serving :=
  { models := [], customers := [], lastCustomer := [], requests := [], streams := [], adapters := [], adapterLast := [], nodes := [], buckets := [],
    steps := [], sincePrefill := [], rows := [], idleSince := [] }

/-- One stretch of a decode session's input queue (R410, R412); `discontinuity`: its first byte is still to come and follows a discontinuity. -/
structure FeedPiece where
  bytes : List Byte
  pts : Nat
  endOfStream : Bool
  discontinuity : Bool
  deriving DecidableEq, Repr

/-- A video event record that is due: kind, PTS, SEQ, status, flags, info, LAST, and the slot that passes to the host with it. -/
structure VideoEvent where
  kind : Nat
  pts : Nat
  seq : Nat
  status : Status
  flags : Nat
  info : Nat
  last : Bool
  slot : Option Nat
  deriving DecidableEq, Repr

/-- An event ring (R416). -/
structure EventRing where
  cva : Nat
  order : Nat
  vector : Nat
  head : Nat
  tail : Nat
  phase : Bool
  armed : Bool
  due : List VideoEvent
  deriving DecidableEq, Repr

/-- A decoded picture that waits for its output: picture, its sequence, PTS, flags, the blocks to conceal. -/
structure ReadyPicture where
  pic : DecodedPicture
  seq : SequenceInfo
  pts : Nat
  concealed : Bool
  derived : Bool
  blocks : List Nat
  deriving DecidableEq, Repr

/-- Who holds an output slot (R414). -/
inductive SlotOwner where
  | free | module | host
  deriving DecidableEq, Repr

/-- A decode session (R408 to R421). -/
structure DecSession where
  ctx : Nat
  desc : BitVec 1024
  /-- The tensor output descriptor (R422), 320 bytes; 0 in OUT_MODE 0. -/
  tensor : BitVec 2560
  queue : List FeedPiece
  /-- A FEED that waits for space, and its entry. -/
  feed : Option (BitVec 512 × EntryRef)
  ring : EventRing
  slots : List SlotOwner
  lastSlot : Nat
  ready : List ReadyPicture
  /-- The core that works on it, the start, the PTS of the picture. -/
  core : Option Nat
  started : Nat
  pts : Nat
  /-- Counts since open: pictures in output order, PICTURE records. -/
  outputs : Nat
  pictures : Nat
  size : Nat × Nat
  taint : Bool
  skipping : Bool
  lastStatus : Status
  closing : Option EntryRef
  /-- The VDEC_CLOSE carries DISCARD: input that still arrives is dropped (R442). -/
  discard : Bool
  /-- Frames of the input queue and reference buffers, and pinned frames. -/
  frames : List Nat
  pins : List Nat
  deriving DecidableEq, Repr

/-- A motion vector in quarter luma samples (R431). -/
structure MotionVector where
  x : Int
  y : Int
  deriving DecidableEq, Repr

/-- The half- and quarter-resolution copies of a source's luma (R431), in row order. -/
structure Pyramid where
  half : List Nat
  quarter : List Nat
  deriving DecidableEq, Repr

/-- A source picture that a VENC_FRAME has supplied: its rows without the bytes beyond its width, luma then chroma, and its pyramid. -/
structure EncFrame where
  pts : Nat
  source : List Byte
  pyramid : Pyramid
  roi : List (BitVec 128)
  endOfStream : Bool
  markLong : Bool
  forceIdr : Bool
  status : Status
  deriving DecidableEq, Repr

/-- Marks of a reference buffer (Table 10-10); UNUSED buffers are not listed. -/
inductive RefMark where
  | short | long | current
  deriving DecidableEq, Repr

/-- The picture that an encode core codes. -/
structure EncPicture where
  frame : EncFrame
  idr : Bool
  postponed : Bool
  /-- cap and floor of R435, in units of 1 / (90,000 · FPS_NUM) bit. -/
  cap : Nat
  floor : Nat
  used : Nat
  slices : Nat
  fallback : Nat
  /-- The vectors found for each block in raster order, one for each reference in use (R431). -/
  vectors : List (List MotionVector)
  deriving DecidableEq, Repr

/-- A picture that a reference buffer holds: the inputs up to it, which determine its reconstruction (R434), and its pyramid. -/
structure RefPicture where
  coded : List CodedInput
  pyramid : Pyramid
  deriving DecidableEq, Repr

/-- An encode session (R426 to R441). -/
structure EncSession where
  ctx : Nat
  desc : BitVec 2048
  bitrate : Nat
  maxBitrate : Nat
  /-- HRD rate in effect in bit/s, and the one that takes effect at the next IDR. -/
  rate : Nat
  nextRate : Option Nat
  /-- Fullness b of R435, in units of 1 / (90,000 · FPS_NUM) bit. -/
  fullness : Nat
  frames : List EncFrame
  /-- What has entered the coding so far, oldest first (R434). -/
  coded : List CodedInput
  /-- Marks of the reference buffers in use, newest first, and the pictures they hold. -/
  refs : List RefMark
  pool : List RefPicture
  /-- Vectors of the previous picture (R431). -/
  vectors : List (List MotionVector)
  /-- Pictures since the last IDR; none before the first picture or after END_OF_STREAM. -/
  sinceIdr : Option Nat
  idrOwed : Bool
  number : Nat
  current : Option EncPicture
  core : Option Nat
  ring : EventRing
  outHead : Nat
  outTail : Nat
  lastStatus : Status
  closing : Option EntryRef
  memory : List Nat
  pins : List Nat
  deriving DecidableEq, Repr

/-- The codec cores and their sessions (10). -/
structure Video where
  /-- By context · 128 + session. -/
  dec : Store DecSession
  /-- By context · 32 + session. -/
  enc : Store EncSession
  /-- Context of the last picture of a core: decode cores 0 to 5, encode cores at 8 and 9 (R398). -/
  coreCtx : Store Nat
  /-- The session last served at each priority (R404): decode 0 to 7, encode 8 to 15. -/
  turn : Store Nat
  deriving DecidableEq, Repr

def Video.reset : Video := ⟨[], [], [], []⟩

/-- STATE of a context (Table 11-8). -/
inductive CtxMode where
  | free | active | locked | teardown | scrub
  deriving DecidableEq, Repr

/-- TDISP state of a function (Table 11-8). -/
inductive TdiMode where
  | unlocked | locked | run | error
  deriving DecidableEq, Repr

/-- A selective IDE stream (R472 to R475). -/
structure IdeStream where
  /-- Keys by set · 8 + direction · 4 + sub-stream (0 PR, 1 NPR, 2 CPL). -/
  keys : Store (BitVec 256)
  /-- The key set in use, once one is. -/
  active : Option Nat
  secure : Bool
  retired : Bool
  deriving DecidableEq, Repr

/-- Where a teardown stands (R467): due, with whether a DESTROY waits for it; fenced while Slack holds the units (Table 16-18); waiting for completions and drains; queued for the fill engine; scrubbing. -/
inductive TearStage where
  | none | due (destroy : Bool) | fenced | waiting | queued | scrubbing
  deriving DecidableEq, Repr

/-- A context (11). -/
structure Context where
  mode : CtxMode
  gen : BitVec 16
  quota : BitVec 32
  weight : BitVec 4
  tdi : TdiMode
  ide : IdeStream
  tear : TearStage
  /-- `now` when the present stage of the teardown began. -/
  tearAt : Nat
  /-- S of R465: bytes of frames it owned when its scrub was queued. -/
  scrubBytes : Nat
  /-- It was the running context when its teardown began (R465). -/
  wasRunning : Bool
  /-- Its teardown began with a conventional reset of the endpoint (R448). -/
  byReset : Bool
  /-- Host reads of its function's windows return 0 and writes are discarded: from step 1 of a teardown until CREATE (R469). -/
  shut : Bool
  /-- Energy attributed since CREATE, in nJ (R579). -/
  energy : Nat
  deriving DecidableEq, Repr

/-- At reset. [DEDUCED, unsafe, log entry 38] -/
def Context.reset : Context :=
  { mode := .free, gen := 0, quota := 0, weight := 0, tdi := .unlocked, ide := ⟨[], none, false, false⟩, tear := .none, tearAt := 0
    scrubBytes := 0, wasRunning := false, byReset := false, shut := false, energy := 0 }

/-- A descriptor in progress: index, content, admission (R163). -/
structure DmaXfer where
  idx : Nat
  desc : BitVec 256
  seq : Nat
  /-- `now` of each 4 KiB unit of a host DMA descriptor that has been issued (R454). -/
  issued : List Nat
  /-- A read of its data met poison (R36): nothing more is issued. -/
  lost : Bool
  deriving DecidableEq, Repr

/-- A host DMA ring or a fabric transfer ring (Tables 11-3 to 11-5, 15-13). -/
structure DmaRing where
  base : BitVec 64
  order : Nat
  vector : Nat
  enable : Bool
  running : Bool
  error : Bool
  lastError : Status
  dbDrop : Bool
  head : Nat
  tail : Nat
  current : Option DmaXfer
  deriving DecidableEq, Repr

def DmaRing.reset : DmaRing := ⟨0, 4, 0, false, false, false, 0, false, 0, 0, none⟩

/-- Time-sharing of the compute regions (R461 to R464). -/
structure Sched where
  running : Option Nat
  /-- The last running context; 15 before any has run. -/
  last : Nat
  sliceStart : Nat
  sliceLen : Nat
  /-- `now` when the switch in progress began, and its OVERRUN_MS. -/
  switching : Option Nat
  switchMs : Nat
  /-- `now` when the clear of R464 began. -/
  clearing : Option Nat
  /-- The context whose data the on-chip stores of R464 hold. -/
  holds : Option Nat
  /-- SEC_SCHED (Table 11-10). -/
  quantum : Nat
  overrun : Nat
  /-- The context command that GO has given to SEC_CTX (R458). -/
  command : Option (BitVec 64)
  deriving DecidableEq, Repr

def Sched.reset : Sched := ⟨none, 15, 0, 0, none, 0, none, none, 2000, 50, none⟩

/-- Lighthouse, the replay-protected area and the SPDM responder (R479 to R487, R513). -/
structure Trust where
  /-- IDENTITY_FAULT (R487). -/
  fault : Bool
  /-- Anti-rollback counters 0 to 15 (R486). -/
  counters : Store Nat
  /-- Measurement digests 1 to 9 (Table 11-13). -/
  digests : Store (List Byte)
  /-- NEGOTIATE_ALGORITHMS has been answered. -/
  negotiated : Bool
  /-- Open secured SPDM sessions (R479). -/
  sessions : List Nat
  /-- Certificate chain of slot 0: root, product CA and DeviceID as manufactured, then the alias certificate (R480). -/
  chain : List Byte
  /-- The DeviceID public key, and its private part wrapped (R485). -/
  deviceId : List Byte
  deviceKey : List Byte
  /-- The response that Lighthouse's SRAM gave at power-on and the 256-bit seed that was reconstructed from it (R484). -/
  response : List Byte
  seed : Option (List Byte)
  /-- The alias public key, its private part wrapped, and measurement 2 of the Lighthouse firmware that made it (R485). -/
  aliasId : List Byte
  aliasKey : List Byte
  measured : List Byte
  /-- The monotonic write counter of the replay-protected area and the HMAC of its last write (R486). -/
  areaWrites : Nat
  areaMac : List Byte
  /-- Key slots: role · 2^512 + key (R513). -/
  slots : Store (Nat × List Byte)
  /-- SHA-512 of the password. -/
  password : Option (List Byte)
  /-- PART 0 of a key that awaits its PART 1, by channel: slot, role, bytes. -/
  parts : Store (Nat × Nat × List Byte)
  deriving DecidableEq, Repr

def Trust.reset : Trust :=
  { fault := false, counters := [], digests := [], negotiated := false, sessions := [], chain := Config.factoryChain, deviceId := Config.deviceId
    deviceKey := Config.deviceKey, response := [], seed := none, aliasId := [], aliasKey := [], measured := [], areaWrites := 0, areaMac := []
    slots := [], password := none, parts := [] }

/-- An event that waits in a session: code, Tide, data (R506). -/
structure QopEventItem where
  code : Status
  tide : Nat
  data : List Byte
  deriving DecidableEq, Repr

/-- A QOP session (R499 to R506). -/
structure QopSession where
  number : Nat
  opening : Bool
  /-- 0 to 7, or 0xFF for the password. -/
  keySlot : Nat
  events : Bool
  clientNonce : List Byte
  moduleNonce : List Byte
  ip : BitVec 32
  udp : BitVec 16
  /-- The session key of R501. -/
  key : List Byte
  role : Nat
  lastSeq : Option Nat
  eventSeq : Nat
  queue : List QopEventItem
  lost : Bool
  /-- `now` at the last accepted frame, or at OPEN_REQ. -/
  heard : Nat
  /-- IDLE_TIMEOUT_MS as it stood when the session opened. -/
  idleMs : Nat
  /-- The R-TAG counter of the session (R496). -/
  rtag : Nat
  /-- R-TAGs received within the history, the latest first (R494). -/
  seen : List Nat
  /-- It closes with this status once its pending writes have been replied to (Table 12-12). -/
  closing : Option Status
  deriving DecidableEq, Repr

/-- Whom an answer of the dictionary goes to. -/
inductive ReplyTo where
  | qop (session seq : Nat)
  | mbx (fn channel token : Nat)
  deriving DecidableEq, Repr

/-- An RW-P write that waits for its journal records (R508); `record` is the SEQ of the last of them. -/
structure PendingWrite where
  key : Nat
  value : List Byte
  record : Nat
  reply : ReplyTo
  deriving DecidableEq, Repr

/-- The TSN ports, the gate control lists and QOP (12). -/
structure Network where
  linkA : Bool
  linkB : Bool
  /-- By session slot 0 to 7. -/
  sessions : Store QopSession
  /-- Times of wrong proofs by key slot; the password counts as slot 8. -/
  failures : Store (List Nat)
  /-- `now` at which a lock of a key slot ends. -/
  locked : Store Nat
  writes : List PendingWrite
  /-- CONFIG_CHANGE has been written; the instant at which the administrative list becomes operational. -/
  gclDue : Bool
  gclAt : Option Nat
  gclOper : List Byte
  gclBase : Nat
  gclCycle : Nat
  /-- Level in millionths of a bit and `now` of the flow meters, by port · 4 + class (R497). -/
  meters : Store (Nat × Nat)
  /-- Values of 0x1100 and 0x1102 in effect since the last reset, by key. -/
  active : Store Nat
  /-- RESTORE_DEFAULTS has been written (R509). -/
  restore : Bool
  deriving DecidableEq, Repr

def Network.reset : Network :=
  { linkA := false, linkB := false, sessions := [], failures := [], locked := [], writes := [], gclDue := false, gclAt := none
    gclOper := [], gclBase := 0, gclCycle := 0, meters := [], active := [], restore := false }

/-- A mailbox channel (Tables 12-7 to 12-9). -/
structure MbxChannel where
  stage : Store Nat
  len : Nat
  outSeq : BitVec 16
  outFull : Bool
  outCollision : Bool
  outMsg : List Nat
  inSeq : BitVec 16
  inFull : Bool
  inCollision : Bool
  inVector : Nat
  inMsg : List Nat
  deriving DecidableEq, Repr

def MbxChannel.reset : MbxChannel := ⟨[], 8, 0, false, false, [], 0, false, false, 0, []⟩

/-- A wake that waits to be recorded (Table 13-9). -/
structure WakeInfo where
  source : Nat
  holder : Nat
  domain : Nat
  detail : Nat
  tide : Nat
  preStep : Bool
  deriving DecidableEq, Repr

/-- Power states and votes (13). -/
structure PowerUnit where
  /-- Code of Table 13-1. -/
  mode : Nat
  /-- The state an entry in progress leads to, and its start. -/
  entering : Option (Nat × Nat)
  /-- An exit is in progress since. -/
  exiting : Option Nat
  wake : Option WakeInfo
  /-- Votes cast, 9 bits, by holder 0 to 15, 32 to 40, 42 and 43 (contexts' votes follow from the state). -/
  votes : Store (BitVec 9)
  /-- Since when the permitted state has been deeper. -/
  deeperSince : Option Nat
  /-- Until when a wake holds the module in Idle (R541). -/
  holdUntil : Nat
  /-- Tide at which the present or left state was reached, and its mark of R72. -/
  reachedTide : Nat
  reachedPre : Bool
  lastWake : BitVec 256
  /-- A stack was not retained, or a brown-out occurred, in the present sleep. -/
  lost : Bool
  brownOut : Bool
  /-- The retention selection that the present Deep Sleep was entered with (R537, Table 13-10): RETAIN_HBM, RETAIN_POOL0 to RETAIN_POOL5. -/
  kept : List Nat
  /-- The floor has been missed since the last change of junction band (R537). -/
  missed : Bool
  /-- EXTRACT_N has woken MGMT in Deep Sleep (R714). -/
  mgmtAwake : Bool
  /-- Host accesses, frames and messages held for the exit, in arrival order (R542, R544). -/
  held : List Instr
  deriving DecidableEq, Repr

/-- At reset. [DEDUCED, unsafe, log entry 8] -/
def PowerUnit.reset : PowerUnit :=
  { mode := 1, entering := none, exiting := none, wake := none, votes := [], deeperSince := none, holdUntil := 0, reachedTide := 0
    reachedPre := false, lastWake := 0xFFF000000000000000000000, lost := false, brownOut := false, kept := [], missed := false, mgmtAwake := false, held := [] }

/-- What a compute region has done for a holder at one set point and in one band since the open interval began (R575, R576): nanoseconds, and handshakes of its TBs by rate class (2 MACs, 1 MAC, ½ MAC) times three plus general, narrow or zero. -/
structure RegionUse where
  holder : Option EnergyHolder
  region : Nat
  mv : Nat
  band : Nat
  ns : Nat
  tb : List Nat
  deriving DecidableEq, Repr

/-- Power limits, bands, margins and energy (14). -/
structure Limits where
  /-- C, where it came from, and the status of the last cap write. -/
  cap : Nat
  capSource : Nat
  capStatus : Status
  capBinding : Bool
  /-- `now` and Tide of the last window in which the cap was binding (R561). -/
  bindAt : Option (Nat × Nat)
  fCap : Nat
  /-- F set by the rail enforcer and by the thermal loop, by compute region; 64 where not listed. -/
  fRail : Store Nat
  fThermal : Store Nat
  /-- Issue fraction of the agents of VSOC, VIO and VHBM, by rail 7 to 9. -/
  fAgent : Store Nat
  /-- Issue fraction of codec picture starts and HBM requests under the cap loop (R559). -/
  fThrottle : Nat
  /-- V_t, ceiling of the thermal loop and set point VCOMP in mV, by compute region; 900 where not listed. -/
  vt : Store Nat
  ceiling : Store Nat
  vcomp : Store Nat
  /-- A region whose F is 0 until VCOMP reaches a risen V_lo (R567). -/
  rising : Store Bool
  /-- Junction in °C and band, by region 0 to 10. -/
  junction : Store Int
  band : Store Nat
  /-- The calibration record: VT by 8r + b, P_base, whether it verified. -/
  vtable : Store Nat
  pBase : Nat
  calValid : Bool
  /-- The margin map by 8r + b. -/
  margin : Store Nat
  /-- Regions whose margins the next reset clears. -/
  marginClear : List Nat
  /-- Consecutive windows above 125 % of the limit, by rail 0 to 11; at 12 and 13 above the limit of VAON and VWAKE. -/
  excess : Store Nat
  /-- Rails removed. -/
  removed : List Nat
  /-- Mean current of the last window in mA, by rail. -/
  current : Store Nat
  /-- Input and package energy of the open 1 ms interval in nJ. -/
  inputNj : Nat
  packageNj : Nat
  /-- Mean input and package power of the last interval, as FP32 codes (0x2100.04, .05). -/
  inputW : BitVec 32
  packageW : BitVec 32
  /-- A thermal trip holds; since when every sensor has read 95 °C or less. -/
  tripped : Bool
  coolSince : Option Nat
  /-- R577. -/
  over15 : Nat
  under15 : Nat
  over40 : Nat
  diverged : Bool
  sensorFault : Bool
  /-- Totals in nJ: package, input, overhead; the scale s of the last closed interval as Em over Ep. -/
  packageTotal : Nat
  inputTotal : Nat
  overheadTotal : Nat
  scale : Nat × Nat
  /-- Sum of Em − Ep over intervals that were not diverged, in nJ. -/
  residual : Int
  divergence : BitVec 32
  /-- `now` at which an event that marks the start of limiting was last sent, by code · 16 + rail or region (R582). -/
  sent : Store Nat
  /-- Onsets of R573 that stand, by counter · 8 + region. -/
  onsets : List Nat
  /-- What the compute regions have done in the open interval (R575). -/
  use : List RegionUse
  deriving DecidableEq, Repr

/-- At reset. [DESIGN CHOICE, unsafe, log entry 7] -/
def Limits.reset : Limits :=
  { cap := 1650, capSource := 0, capStatus := 0, capBinding := false, bindAt := none, fCap := 64, fRail := [], fThermal := [], fAgent := [], fThrottle := 64, vt := []
    ceiling := [], vcomp := [], rising := [], junction := [], band := [], vtable := [], pBase := 210, calValid := true, margin := []
    marginClear := [], excess := [], removed := [], current := [], inputNj := 0, packageNj := 0, inputW := 0, packageW := 0
    tripped := false, coolSince := none, over15 := 0, under15 := 0, over40 := 0, diverged := false, sensorFault := false
    packageTotal := 0, inputTotal := 0, overheadTotal := 0, scale := (1, 1), residual := 0, divergence := 0, sent := [], onsets := [], use := [] }

/-- STATE of a fabric port (Table 15-13). -/
inductive PortMode where
  | down | training | up | testing | isolated
  deriving DecidableEq, Repr

/-- A message (Table 15-4): its header fields and body. -/
structure FabMsg where
  type : Nat
  ctx : Nat
  final : Bool
  gen : Nat
  src : Nat
  dst : Nat
  id : Nat
  xfer : Nat
  offset : Nat
  body : List Byte
  deriving DecidableEq, Repr

/-- A bit-error test of a port (R600): duration in ms, lanes, start, scheduled. -/
structure BerTest where
  ms : Nat
  lanes : Nat
  start : Nat
  scheduled : Bool
  deriving DecidableEq, Repr

/-- A fabric port (R584 to R601). -/
structure PortState where
  mode : PortMode
  retries : Nat
  peer : Nat
  /-- SEQ of the next MSG flit to send, and the one expected. -/
  txSeq : Nat
  rxSeq : Nat
  /-- A NAK has been sent and the expected SEQ has not come. -/
  nakSent : Bool
  /-- The first SEQ not acknowledged. -/
  base : Nat
  /-- Messages not wholly acknowledged, the last one perhaps not wholly sent: first SEQ, flits sent, message. -/
  unacked : List (Nat × Nat × FabMsg)
  /-- Messages of which no flit has been sent, oldest first. -/
  waiting : List FabMsg
  /-- Free flits in the partner's receive buffers of VC0 and VC1 (R584). -/
  credit0 : Nat
  credit1 : Nat
  /-- Own buffer flits freed since the last flit sent, of VC0 and VC1 (Table 15-2). -/
  freed0 : Nat
  freed1 : Nat
  /-- The SEQ last resent and how often in a row. -/
  resend : Nat × Nat
  progress : Nat
  lastMsg : Nat
  /-- Bytes of the message being assembled. -/
  partials : List Byte
  test : Option BerTest
  /-- The test asked for with TEST_REQ. -/
  asked : Option BerTest
  deriving DecidableEq, Repr

/-- At reset. -/
def PortState.reset : PortState := ⟨.down, 0, 0xFF, 0, 0, false, 0, [], [], 64, 64, 0, 0, (0, 0), 0, 0, [], none, none⟩

/-- A payload being reassembled (R592): type, source, XFER_ID, bytes so far, `now` at the last segment, context. -/
structure FabPayload where
  type : Nat
  src : Nat
  xfer : Nat
  bytes : List Byte
  last : Nat
  ctx : Nat
  deriving DecidableEq, Repr

/-- A DMA_DATA payload being received (R599): source, XFER_ID, context, preamble, refusal. -/
structure FabRx where
  src : Nat
  xfer : Nat
  ctx : Nat
  cva : Nat
  total : Nat
  tag : Nat
  signal : Bool
  refused : Bool
  /-- The last 8 bytes, kept until all others are written. -/
  tail : List Byte
  /-- Its admission (R163) and `now` at its last segment. -/
  seq : Nat
  last : Nat
  deriving DecidableEq, Repr

/-- The fabric (15). -/
structure Fabric where
  ports : Store PortState
  /-- Places that a port reaches, by place · 16 + port. -/
  routes : Store Nat
  /-- `now` at the last PEER_VOTE of a place and its vote. -/
  peerVotes : Store (Nat × BitVec 9)
  /-- The vote last sent and when. -/
  voteSent : BitVec 9 × Nat
  msgId : Nat
  xferId : Nat
  /-- Messages that have arrived whole and the ports they came on, oldest first. -/
  inbox : List (Nat × FabMsg)
  /-- SRC_PLACE and MSG_ID of messages received, to discard second copies (R593). -/
  seen : List (Nat × Nat)
  payloads : List FabPayload
  rx : List FabRx
  /-- Places to which a CTX_GONE notice has gone, by place, context and generation (R470). -/
  notices : List (Nat × Nat × Nat)
  /-- `now` of the last scheduled bit-error test. -/
  berAt : Nat
  /-- Lanes that have failed a test: port (16 for PCIe), lane. -/
  failedLanes : List (Nat × Nat)
  /-- Ports of which a test is still to be asked; 16 more for a scheduled one. -/
  berQueue : List Nat
  deriving DecidableEq, Repr

def Fabric.reset : Fabric := ⟨[], [], [], (0, 0), 0, 0, [], [], [], [], [], 0, [], []⟩

/-- ROLE of Table 15-8. -/
inductive PairRole where
  | init | alone | shadow | syncing | standby | active | fenced | leaving
  deriving DecidableEq, Repr

/-- A mirrored request in mirror staging (R615). -/
structure MirrorReq where
  ctx : Nat
  tag : Nat
  desc : BitVec 1024
  admitTide : Nat
  adapterGen : Nat
  prompt : List (BitVec 32)
  tokens : List (BitVec 32)
  /-- Pages of its context that hold them. -/
  frames : List Nat
  deriving DecidableEq, Repr

/-- A mirror record of the active (R615): sequence, context, kind and body. -/
structure MirrorRec where
  seq : Nat
  ctx : Nat
  body : List Byte
  deriving DecidableEq, Repr

/-- A RUN that waits to be compared: what the active sent and what was computed (R622, R623). -/
structure ReplayRun where
  src : Nat
  payload : List Byte
  /-- A standby's replay (R702) rather than a comparison of R623. -/
  standby : Bool
  deriving DecidableEq, Repr

/-- The pair, the lease and the mirror (15). -/
structure Pair where
  role : PairRole
  /-- Settings of 0x5000 and 0x5100 in effect since reset, by key. -/
  settings : Store Nat
  partnerMac : List Byte
  witnessMac : List Byte
  place : Nat
  /-- Places this tray answers for beside its own (R595, R619). -/
  answers : List Nat
  epoch : Nat
  seen : Nat
  holder : Nat
  /-- `now` at which the lease of this tray ends (R610). -/
  leaseEnd : Nat
  /-- RENEWs sent that are not counted yet: SEQ, time (R610). -/
  renews : List (Nat × Nat)
  renewAt : Nat
  heartbeatAt : Nat
  /-- r of R611. -/
  heard : Nat
  /-- `now` at which the role was entered. -/
  since : Nat
  seqs : Store Nat
  /-- `now` at the last valid heartbeat and whether the path is lost: TSN, fabric. -/
  tsnHeard : Nat
  fabHeard : Nat
  tsnLost : Bool
  fabLost : Bool
  silent : Bool
  /-- The epoch claimed and when CLAIM was last sent. -/
  claim : Option (Nat × Nat)
  /-- RELEASE of the current epoch has been received. -/
  released : Bool
  partnerRole : Option PairRole
  partnerHealth : Nat
  partnerMirror : Nat
  mismatch : Option Nat
  /-- The start-up comparison of R620 has passed. -/
  startupOk : Bool
  joinBlocked : Bool
  passes : Nat
  fails : Nat
  /-- Mirror: highest sequence sent, acknowledged and applied; MIRROR_LOST stands; since when an answer is due. -/
  mirrorSent : Nat
  mirrorAcked : Nat
  mirrorApplied : Nat
  mirrorLost : Bool
  mirrorSince : Option Nat
  /-- Mirror sequence that must be covered before a request's tokens are delivered (R616), by request. -/
  need : Store Nat
  /-- Mirror staging. -/
  staging : List MirrorReq
  roots : Store (List Byte)
  snapshot : Bool
  replays : List ReplayRun
  /-- Digest of the last completed RUN of a mirrored context per context: its OUTPUT for R624, its REPLAY for R702. -/
  outputs : Store (List Byte)
  /-- PLACE_ADOPT in progress: place, deadline. -/
  adopt : Option (Nat × Nat)
  split : Bool
  deriving DecidableEq, Repr

def Pair.reset : Pair :=
  { role := .init, settings := [], partnerMac := [], witnessMac := [], place := 0xFF, answers := [], epoch := 0, seen := 0
    holder := 0xFF, leaseEnd := 0, renews := [], renewAt := 0, heartbeatAt := 0, heard := 0, since := 0, seqs := [], tsnHeard := 0
    fabHeard := 0, tsnLost := false, fabLost := false, silent := false, claim := none, released := false, partnerRole := none
    partnerHealth := 0, partnerMirror := 0, mismatch := none, startupOk := false, joinBlocked := false, passes := 0, fails := 0
    mirrorSent := 0, mirrorAcked := 0, mirrorApplied := 0, mirrorLost := false, mirrorSince := none, need := [], staging := []
    roots := [], snapshot := false, replays := [], outputs := [], adopt := none, split := false }

/-- An event counter (Tables 16-2 and 16-3). -/
structure Counter where
  sel : BitVec 32
  value : BitVec 48
  wrapped : Bool
  seq : BitVec 14
  /-- The last-command word. -/
  last : BitVec 64
  /-- Remainder of a unit of 1,024 handshakes or 64 B (R633). -/
  rest : Nat
  deriving DecidableEq, Repr

/-- A counter after reset: CTX_ANY = 1, everything else 0. -/
def Counter.reset : Counter := ⟨0x01000000, 0, false, 0, 0, 0⟩

/-- A function's snapshot bank (Table 16-5). -/
structure SnapBank where
  seq : BitVec 16
  cfgErr : Bool
  scope : Nat
  target : Nat
  /-- SCOPE and TARGET of the snapshot in progress. -/
  going : Option (Nat × Nat)
  tide : BitVec 64
  data : List (BitVec 64)
  deriving DecidableEq, Repr

def SnapBank.reset : SnapBank := ⟨0, false, 0, 0, none, 0, []⟩

/-- STATE of Slack (Table 16-10). -/
inductive SlackMode where
  | running | capturing | captured | scanning | scanned
  deriving DecidableEq, Repr

/-- Slack (R641 to R651). -/
structure Slack where
  mode : SlackMode
  triggerId : BitVec 32
  status : Status
  hops : Nat
  source : Nat
  faultPending : Option Nat
  tide : BitVec 64
  originTide : BitVec 64
  port : Nat
  atTide : BitVec 64
  matchReg : BitVec 64
  smatch : BitVec 32
  capBase : BitVec 32
  /-- This tray's stop count. -/
  stops : Nat
  /-- STEPPED was 0 when the stop's Tide was taken (R72). -/
  preStep : Bool
  /-- `now` of the stop. -/
  stopAt : Nat
  /-- Ports on which STOP is still repeated, with `now` of the last STOP. -/
  repeats : Store Nat
  /-- MSG flits received since the stop, oldest first: port, context, flit (R643). -/
  flits : List (Nat × Option Nat × List Byte)
  deriving DecidableEq, Repr

def Slack.reset : Slack := ⟨.running, 0, 0, 0, 0, none, 0, 0, 0xFF, 0, 0, 0, 0, 0, true, 0, [], []⟩

/-- Observation (16). -/
structure Observe where
  /-- Counters: block at identifier · 4 + i, region at 0x10000 + r · 16 + j, chip at 0x20000 + k. -/
  counters : Store Counter
  /-- Bits [63:32] latched per function (R637). -/
  latch : Store (BitVec 32)
  snaps : Store SnapBank
  slack : Slack
  /-- The capture buffers: capture from 0, wait-for graph from 252 MiB. -/
  capture : Mem
  /-- Strandline rings by block identifier: newest first, 64 records of 128 bits. -/
  rings : Store (List (BitVec 128))
  /-- The edges of the last wait-for round, and the sets of nodes and edges already reported. -/
  round : List WfgEdge
  cycles : List (List (Nat × Nat))
  suspects : List WfgEdge
  wfgAt : Nat
  /-- WFG_BUILD has been written (0x6700.03). -/
  wfgAsked : Bool
  deriving DecidableEq, Repr

def Observe.reset : Observe := ⟨[], [], [], .reset, [], [], [], [], [], 0, false⟩

/-- A firmware slot (R666, R667). -/
structure FlashSlot where
  valid : Bool
  header : List Byte
  body : List Byte
  deriving DecidableEq, Repr

def FlashSlot.reset : FlashSlot := ⟨false, [], []⟩

/-- STATE of the update path (Table 17-6). -/
inductive UpdMode where
  | idle | receiving | verified | pending | recovery
  deriving DecidableEq, Repr

/-- Firmware slots and the update path (17). -/
structure Firmware where
  mode : UpdMode
  received : Nat
  reason : Nat
  active : Nat
  pending : Option Nat
  attempts : Nat
  slotA : FlashSlot
  slotB : FlashSlot
  /-- The slot that the present boot runs. -/
  booting : Nat
  /-- DATA bytes that Lighthouse still writes. -/
  taking : Option (List Byte)
  /-- The update command that GO has given to UPD. -/
  command : Option (BitVec 128)
  /-- Reported at the next ready: attempts that failed, slot version rolled back. -/
  failed : List Nat
  rolledBack : Option Nat
  /-- The slot that the last BEGIN writes (R671, R677). -/
  writes : Nat
  deriving DecidableEq, Repr

/-- At reset. [DESIGN CHOICE, unsafe, log entry 6] -/
def Firmware.reset : Firmware :=
  { mode := .idle, received := 0, reason := 0, active := 0, pending := none, attempts := 0, slotA := ⟨true, [], []⟩, slotB := .reset
    booting := 0, taking := none, command := none, failed := [], rolledBack := none, writes := 1 }

/-- A journal record (Table 17-9). -/
structure JournalRec where
  seq : Nat
  kind : Nat
  key : Nat
  schema : Nat
  tide : Nat
  preStep : Bool
  payload : List Byte
  deriving DecidableEq, Repr

/-- The journal (R678 to R682). -/
structure Journal where
  /-- Records are accepted (R680). -/
  accepting : Bool
  queued : List JournalRec
  /-- Durable records, oldest first. -/
  records : List JournalRec
  nextSeq : Nat
  /-- SEQ below which every record is durable. -/
  durable : Nat
  generation : Nat
  /-- A compaction runs; the SEQ of the last record when it began. -/
  compacting : Option Nat
  /-- Segments retired after a flash error. -/
  retired : Nat
  deriving DecidableEq, Repr

def Journal.reset : Journal := ⟨false, [], [], 1, 1, 0, none, 0⟩

/-- An open self-test window of a region (R693 to R695). -/
structure TestWindow where
  /-- Index of the block in the turn: 0 to 31. -/
  block : Nat
  band : Nat
  opened : Nat
  /-- Since when F has been 0. -/
  stalled : Option Nat
  repeating : Bool
  /-- The next window has fallen due while this one is open (R695). -/
  owed : Bool
  deriving DecidableEq, Repr

/-- A block whose repeat test is pending: region, block, band (R698). -/
structure RepeatTest where
  region : Nat
  block : Nat
  band : Nat
  deriving DecidableEq, Repr

/-- Integrity and self-test (18). -/
structure Integrity where
  /-- Disabled blocks, bit per block of the turn, by region (0x6010). -/
  disabled : Store Nat
  /-- Bands in which a block is quarantined, by region · 32 + block. -/
  quarantine : Store Nat
  repeats : List RepeatTest
  /-- Blocks that have had a mismatch since reset: region · 32 + block. -/
  mismatched : List Nat
  windows : Store TestWindow
  /-- The next block of the turn, by region. -/
  turn : Store Nat
  /-- Tide of a block's last passing window, by region · 32 + block. -/
  passed : Store Nat
  /-- Tide in units of 2 s at which windows last opened (R693). -/
  windowsAt : Nat
  /-- A sweep runs: why (0 request, 1 sensor, 2 recovery, 3 boot, 4 a replay that disagreed, 5 the partner's replay, 6 in place of a replay) and start. -/
  sweep : Option (Nat × Nat)
  persistent : Option Nat
  /-- In-place recovery: cause and start. -/
  recovering : Option (Nat × Nat)
  /-- `now` of the last watchdog miss. -/
  watchdog : Option Nat
  /-- NoC hop failures in a row: hop, count. -/
  noc : Nat × Nat
  /-- Disagreements in a row with clean sweeps (R703), and the mismatches per million of the last one. -/
  disagreements : Nat
  disagreed : Nat
  degraded : Bool
  /-- HEALTH_STATE as last reported. -/
  health : Nat
  replayAt : Nat
  /-- `now` of the corrected errors of the last 24 h by HBM unit (2 · number) or SRAM word (2 · (block · 2^20 + word) + 1), newest first (Table 18-3). -/
  corrected : Store (List Nat)
  /-- HBM units of 64 B whose content is lost: a read of one delivers poison (Table 18-1). -/
  lost : List Nat
  /-- `now` of the poisoned results of the last second by block, newest first (Table 18-3). -/
  poisoned : Store (List Nat)
  deriving DecidableEq, Repr

def Integrity.reset : Integrity :=
  { disabled := [], quarantine := [], repeats := [], mismatched := [], windows := [], turn := [], passed := [], windowsAt := 0
    sweep := none, persistent := none, recovering := none, watchdog := none, noc := (0, 0), disagreements := 0, disagreed := 0
    degraded := false, health := 0, replayAt := 0, corrected := [], lost := [], poisoned := [] }

/-- The connector, the feed and the boot (19). -/
structure Board where
  /-- The package rails are on. -/
  powered : Bool
  /-- BOOT_STAGE; 8 in recovery. -/
  stage : Nat
  ready : Bool
  /-- `now` at boot start. -/
  bootAt : Nat
  /-- The boot waits for PERST_N = 1. -/
  bootWaits : Bool
  /-- Pins as they read: 1 is true. -/
  extractN : Bool
  eoffN : Bool
  wakeN : Bool
  perstN : Bool
  /-- `now` since PERST_N reads 0, EOFF_N reads 1. -/
  perstAt : Nat
  eoffAt : Nat
  slotPins : Nat
  /-- SLOT_NUMBER, sampled at reset. -/
  slot : Nat
  /-- EOFF is latched. -/
  eoff : Bool
  eoffSeen : Bool
  /-- The feed fell below the loss threshold while EOFF is latched. -/
  feedCycled : Bool
  feedMv : Nat
  /-- The feed is lost and the module holds on its bank (R722). -/
  lost : Bool
  /-- The next boot records last-wake SOURCE 0x09 (R722). -/
  lossWake : Bool
  feedReported : Bool
  inletC : Int
  outletC : Int
  flow : Nat
  coolantSince : Option Nat
  coolantReported : Bool
  holdupOk : Bool
  fruOk : Bool
  /-- The recovery image has failed too: the module does not leave reset (R677). -/
  stuck : Bool
  deriving DecidableEq, Repr

/-- At reset. [DESIGN CHOICE, unsafe, log entry 6] -/
def Board.reset : Board :=
  { powered := true, stage := 0, ready := false, bootAt := 0, bootWaits := false, extractN := true, eoffN := true, wakeN := true
    perstN := true, perstAt := 0, eoffAt := 0, slotPins := 0, slot := 0, eoff := false, eoffSeen := false, feedCycled := false
    feedMv := 54000, lost := false, lossWake := false, feedReported := false, inletC := 25, outletC := 25, flow := 30
    coolantSince := none, coolantReported := false, holdupOk := false, fruOk := false, stuck := false }

/-- What a command may stop on. No command of this model does: the spec gives every one of them an effect. -/
inductive Fault where
  /-- Raised by no command: kept so that the type is inhabited. Safe. -/
  | none
  deriving DecidableEq, Repr

/-- Why a command has no meaning. -/
inductive Refusal where
  /-- Raised by an arm of `exec` whose command has no meaning yet. Safe: nothing is claimed of it. -/
  | notModelled (mnemonic : String)
  deriving DecidableEq, Repr

/-- The state of the module. -/
structure State where
  /-- Nanoseconds elapsed on the disciplined time base since power-on, without the step of R71 (R63, R608). -/
  now : Nat
  /-- Nanoseconds of `now` at the last module reset (R63). -/
  resetAt : Nat
  /-- The commands that wait, first in, first out. -/
  pending : List Instr
  /-- Counter of free values drawn so far: the model's own field. -/
  free : Nat
  /-- What has left the module, newest first: the model's own record. -/
  trace : List Emission
  /-- Stored object-dictionary values by index · 256 + sub-index; an unlisted key reads as its default. -/
  dict : Store Nat
  /-- Stored STRING and OCTETS values of the dictionary. -/
  dictOct : Store (List Byte)
  /-- Plain registers by function · 2^28 + window offset (W2 offsets above 2^27); an unlisted one reads as its reset value. -/
  regs : Store Nat
  /-- Die-to-die link A (01). -/
  d2dA : D2dLink
  /-- Die-to-die link B (01). -/
  d2dB : D2dLink
  /-- Compute regions 0 to 5 (01). -/
  regions : Store RegionState
  /-- The Tide unit (02). -/
  tide : TideUnit
  /-- HBM content by device physical address (R137). -/
  hbm : Mem
  /-- The page manager (04). -/
  pm : PageManager
  /-- Command paths: kind · 16 + function, kind 0 PGM_CMD, 1 PGM_KVT, 2 SEC_CTX, 3 UPD. -/
  paths : Store CmdPath
  /-- Queue pairs: function · 8 + q (05). -/
  queues : Store QueueState
  /-- Loaded programs: context · 1024 + handle (05). -/
  progs : Store Program
  /-- Jobs by number (05). -/
  jobs : Store Job
  /-- The number of the next job and of the next ring entry. -/
  nextId : Nat
  /-- The place of the next doorbell (R218). -/
  nextBell : Nat
  /-- The KV page-table pool (08). -/
  kv : KvPool
  /-- The serving engine (09). -/
  serving : Serving
  /-- The video engines (10). -/
  video : Video
  /-- Contexts 0 to 15 (11). -/
  ctxs : Store Context
  /-- Fields of configuration space that the spec acts on, by function · 4 + 0 VF Enable, 1 Bus Master Enable, 2 ASPM L1 enable, 3 ASPM L1.2 enable. -/
  config : Store Nat
  /-- Host DMA rings by function · 4 + d, fabric transfer rings by function · 4 + 2 + d. -/
  dma : Store DmaRing
  /-- The host DMA ring served last (R454). -/
  dmaTurn : Nat
  /-- Time-sharing (11). -/
  sched : Sched
  /-- Lighthouse (11). -/
  trust : Trust
  /-- TSN and QOP (12). -/
  net : Network
  /-- Mailbox channels by function · 8 + channel; peer channels 0 and 1 at 128 and 129 (12). -/
  mbx : Store MbxChannel
  /-- Power states, votes and wake (13). -/
  power : PowerUnit
  /-- Power limits, bands, margins and energy (14). -/
  limits : Limits
  /-- The fabric (15). -/
  fab : Fabric
  /-- The pair (15). -/
  pair : Pair
  /-- Counters, Slack, Strandline and the wait-for graph (16). -/
  obs : Observe
  /-- Firmware slots (17). -/
  fw : Firmware
  /-- The journal (17). -/
  journal : Journal
  /-- Integrity and self-test (18). -/
  integ : Integrity
  /-- The connector, the feed and the boot (19). -/
  board : Board
  deriving DecidableEq, Repr

/-- The module right after reset. [DESIGN CHOICE, unsafe, log entry 2; DESIGN CHOICE, safe, log entry 5; DESIGN CHOICE, unsafe, log entry 6] -/
def State.reset : State where
  now := 0
  resetAt := 0
  pending := []
  free := 0
  trace := []
  dict := []
  dictOct := []
  regs := []
  d2dA := .reset
  d2dB := .reset
  regions := []
  tide := .reset
  hbm := []
  pm := .reset
  paths := []
  queues := []
  progs := []
  jobs := []
  nextId := 0
  nextBell := 0
  kv := .reset
  serving := .reset
  video := .reset
  ctxs := []
  config := []
  dma := []
  dmaTurn := 63
  sched := .reset
  trust := .reset
  net := .reset
  mbx := []
  power := .reset
  limits := .reset
  fab := .reset
  pair := .reset
  obs := .reset
  fw := .reset
  journal := .reset
  integ := .reset
  board := .reset

end Sys2Proof.Machine
end

