-- ==== Sys2Proof/Machine/Ops.lean ====
section
/-! DEFINITION. Shared operations on the state: time, emissions, free values, the dictionary, registers and the gate on host accesses. -/

namespace Sys2Proof.Machine

/-- Record that something leaves the module across J1. -/
def State.emit (s : State) (e : Emission) : State := { s with trace := e :: s.trace }

/-- Draw a free value: the state's counter is advanced, the number at index `i` of this draw is `Config.freeNat s.free i`. [DESIGN CHOICE, safe, log entry 5] -/
def State.draw (s : State) : State := { s with free := s.free + 1 }

/-- The free numbers of the present draw. [DESIGN CHOICE, safe, log entry 5] -/
def State.pick (s : State) (i : Nat) : Nat := Config.freeNat s.free i

/-- The default of a numeric dictionary entry (the Default column). [DESIGN CHOICE, unsafe, log entry 61] -/
def dictDefault (k : Nat) : Nat :=
  if k = 0x110402 + 1 then 20000
  else if 0x110401 ≤ k ∧ k ≤ 0x110404 then 1000
  else match dictRow? k with
  | some r => r.dflt
  | none => 0

/-- The stored value of a numeric dictionary entry. -/
def State.dictVal (s : State) (k : Nat) : Nat := s.dict.valAt (dictDefault k) k

/-- Store a numeric dictionary entry. -/
def State.setDict (s : State) (k v : Nat) : State := { s with dict := s.dict.setAt (dictDefault k) k v }

/-- The largest value an entry's type holds. [DESIGN CHOICE, unsafe, log entry 18] -/
def dictMax (k : Nat) : Nat :=
  match dictRow? k with
  | some r => 2 ^ (8 * r.ty.size) - 1
  | none => 0

/-- Add to a counter entry; it saturates at the largest value of its type (R348, R395; for the other counters a DESIGN CHOICE: the spec states no wrap). [DESIGN CHOICE, unsafe, log entry 18] -/
def State.bumpBy (s : State) (k n : Nat) : State := s.setDict k (min (dictMax k) (s.dictVal k + n))

/-- Count one event in a counter entry. -/
def State.bump (s : State) (k : Nat) : State := s.bumpBy k 1

/-- The key of a register of a function. -/
def regKey (fn off : Nat) : Nat := fn * 2 ^ 28 + off

/-- The stored value of a plain register that resets to 0. -/
def State.reg (s : State) (fn off : Nat) : Nat := s.regs.valAt 0 (regKey fn off)

/-- Store a plain register that resets to 0. -/
def State.setReg (s : State) (fn off v : Nat) : State := { s with regs := s.regs.setAt 0 (regKey fn off) v }

/-- Tide as a number. -/
def State.tideNat (s : State) : Nat := s.tide.count.toNat

/-- Change a region. -/
def State.modRegion (s : State) (r : Nat) (f : RegionState → RegionState) : State := { s with regions := s.regions.updAt .reset r f }

end Sys2Proof.Machine
end

