-- ==== Sys2Proof/Machine/Volts.lean ====
section
/-! DEFINITION. What a region's voltage and temperature stand at (14_power_limits_energy_and_margins.md R562, R565, R566, R569, R570). -/

namespace Sys2Proof.Machine

/-- A temperature in one byte, two's complement. -/
def tempByte (t : Int) : Nat := (BitVec.ofInt 8 t).toNat

/-- Junction temperature of a region in °C. [DESIGN CHOICE, unsafe, log entry 7] -/
def State.junctionOf (s : State) (r : Nat) : Int := s.limits.junction.valAt 25 r

/-- Junction band of a region (Table 14-3). [DESIGN CHOICE, unsafe, log entry 7] -/
def State.bandOf (s : State) (r : Nat) : Nat := s.limits.band.valAt 1 r

/-- VT(r, b) in mV: 840 in every entry where the calibration record has not verified (R569). [DESIGN CHOICE, unsafe, log entry 7] -/
def State.vTable (s : State) (r b : Nat) : Nat := s.limits.vtable.valAt 840 (8 * r + b)

/-- M(r, b) in mV (R570). -/
def State.marginOf (s : State) (r b : Nat) : Nat := s.limits.margin.valAt 0 (8 * r + b)

/-- V_lo(r, b) in mV (R566). -/
def State.vLo (s : State) (r b : Nat) : Nat := max 620 (s.vTable r b + 60 + s.marginOf r b)

/-- V_lo of the present band. -/
def State.vLoNow (s : State) (r : Nat) : Nat := s.vLo r (s.bandOf r)

/-- The set point VCOMP of a compute region in mV. [DESIGN CHOICE, unsafe, log entry 7] -/
def State.vcompOf (s : State) (r : Nat) : Nat := s.limits.vcomp.valAt 900 r

/-- The region's V_lo exceeds 900 mV in its present band: it is out of service there (R566). -/
def State.voltageOut (s : State) (r : Nat) : Bool := decide (900 < s.vLoNow r)

/-- The issue fraction F of a compute region (R553): the least of what the rail enforcer, the cap loop and the thermal loop have set; 0 while its VCOMP rises to a higher V_lo (R567), a thermal trip holds (R564) or the feed is lost (R722). -/
def State.fOf (s : State) (r : Nat) : Nat :=
  if s.limits.rising.valAt false r || s.limits.tripped || s.board.lost then 0
  else min (s.limits.fRail.valAt 64 r) (min s.limits.fCap (s.limits.fThermal.valAt 64 r))

/-- The arbiter of the region grants work to its blocks: it is in service (R37 step 1). -/
def State.granting (s : State) (r : Nat) : Bool := (s.regions.valAt .reset r).phase = .inService

/-- The agents whose issue VSOC, VIO or VHBM (rails 7 to 9) reduces may issue something (R555): steps and network injection; picture starts and host DMA; HBM requests. [DEDUCED, unsafe, log entry 57] -/
def State.agentIssues (s : State) (rail : Nat) : Bool := decide (0 < s.limits.fAgent.valAt 64 rail)

/-- Work on these regions may go on: each of them grants, some may issue handshakes, and HBM serves requests. [DEDUCED, unsafe, log entry 57] -/
def State.issues (s : State) (l : List Nat) : Bool := l.all s.granting && (l.any fun r => decide (0 < s.fOf r)) && s.agentIssues 9

end Sys2Proof.Machine
end

