-- ==== Sys2Proof/Machine/Votes.lean ====
section
/-! DEFINITION. Who holds which power domain up (13_power_states_and_wake.md R526 to R531), and the passing of time. -/

namespace Sys2Proof.Machine

/-- Slack's STATE is RUNNING. -/
def State.slackRuns (s : State) : Bool := s.obs.slack.mode = .running

/-- The value of an entry of 0x5000 or 0x5100 in effect since reset (R630). -/
def State.pairSetting (s : State) (k : Nat) : Nat := s.pair.settings.valAt (dictDefault k) k

/-- The context's requests are mirrored (R614): a paired tray, its bit of MIRROR_CONTEXTS, not LOCKED. -/
def State.mirrored (s : State) (c : Nat) : Bool :=
  s.pair.role != .alone && bitOf (s.dictVal 0x520001) c && (s.ctxs.valAt .reset c).mode != .locked

/-- The tray acts for mirrored contexts (R610). A tray without a pair acts; a stopped one does not (R645). -/
def State.acts (s : State) : Bool :=
  match s.pair.role with
  | .alone => true
  | .active => s.slackRuns && decide (s.now < s.pair.leaseEnd)
  | _ => false

/-- The tray may issue work of a context and write its records (R610). -/
def State.mayServe (s : State) (c : Nat) : Bool := !s.mirrored c || s.acts

/-- The tray may run RUN jobs of a context and write its completion records: as `mayServe`, and under COMPARE_MODE = 1 a STANDBY runs what its host submits (R624). [DEDUCED, unsafe, log entry 46] -/
def State.mayRun (s : State) (c : Nat) : Bool := s.mayServe c || (s.dictVal 0x520002 == 1 && s.pair.role == .standby)

/-- Some queue of a function that is enabled holds a submitted and uncompleted entry, some host ring a pending descriptor, or a page command of it is pending (R527). -/
def State.pendingWork (s : State) (c : Nat) : Bool :=
  let ofCtx (src : PageSrc) : Bool := match src with | .regs f => f == c | .ring f _ => f == c
  (s.queues.any fun e => e.1 / 8 == c && e.2.enable && (e.2.tail != e.2.fetch || !e.2.entries.isEmpty)) ||
    (s.dma.any fun e => e.1 / 4 == c && decide (e.1 % 4 < 2) && (e.2.current.isSome || (e.2.running && e.2.head != e.2.tail))) ||
    (s.paths.valAt .reset c).busy || (s.pm.queue.any fun x => ofCtx x.src) || (s.pm.waits.any fun x => ofCtx x.src) ||
    (s.pm.work.any fun x => ofCtx x.cmd.src)

/-- The votes of context `c` (R527): COMPUTE for a RUN job that is startable or running or a request, HBM for pending work, CODEC for an open session. -/
def State.contextVote (s : State) (c : Nat) : Nat :=
  let compute := (s.jobs.any fun e => e.2.ctx == c && (e.2.placed || (e.2.fault.isNone && s.mayRun c))) || s.serving.requests.any fun e => e.2.ctx == c
  let codec := (s.video.dec.any fun e => e.2.ctx == c) || s.video.enc.any fun e => e.2.ctx == c
  (if compute then 1 else 0) + (if s.pendingWork c then 2 else 0) + (if codec then 8 else 0)

/-- A teardown has frames for the fill engine to scrub (R465, R467). -/
def State.scrubbing (s : State) : Bool := s.ctxs.any fun e => e.2.tear = .queued || e.2.tear = .scrubbing

/-- The votes of the firmware of MP0 and MP1 (R528): HBM while frames are due for filling or the journal compacts, COMPUTE during self-test windows and while Slack holds the tray (R645), FIELD and FABRIC in a pair. [DEDUCED, unsafe, log entry 56] -/
def State.firmwareVote (s : State) : Nat :=
  (if s.integ.windows.isEmpty && s.slackRuns then 0 else 1) + (if !s.pm.fills.isEmpty || s.scrubbing || s.journal.compacting.isSome then 2 else 0) +
    (if s.pairSetting 0x500001 = 1 then 0x180 else 0)

/-- Lighthouse's votes (R528): LIGHTHOUSE and HOSTIO while an SPDM session is open, SOC while it receives and verifies an image. [DEDUCED, unsafe, log entry 56] -/
def State.lighthouseVote (s : State) : Nat :=
  (if s.trust.sessions.isEmpty then 0 else 0x60) + (if s.fw.mode = .receiving || s.fw.command.isSome then 4 else 0)

/-- The votes that a holder of Table 13-3 has cast, one bit per domain. -/
def State.voteOf (s : State) (h : Nat) : Nat :=
  if 16 ≤ h ∧ h < 32 then s.contextVote (h - 16)
  else if h = 40 then s.fab.peerVotes.foldl (fun a e => Nat.lor a e.2.2.toNat) 0
  else if h = 42 then s.firmwareVote
  else if h = 43 then s.lighthouseVote
  else (s.power.votes.valAt 0 h).toNat

/-- Votes with those they imply (R526): COMPUTE brings HBM and SOC, CODEC brings HBM, SOC and HOSTIO, HBM and SOC each other. -/
def withParents (v : Nat) : Nat :=
  let memory := bitOf v 0 || bitOf v 1 || bitOf v 2 || bitOf v 3
  Nat.lor v ((if memory then 6 else 0) + (if bitOf v 3 then 0x40 else 0))

/-- Every domain in which some holder votes, directly or implied. -/
def State.votedDomains (s : State) : Nat := withParents ((List.range 44).foldl (fun a h => Nat.lor a (s.voteOf h)) 0)

/-- The permitted state (R530), as a code of Table 13-1. -/
def State.permitted (s : State) : Nat :=
  let v := s.votedDomains
  if v % 16 ≠ 0 then 1 else if v ≠ 0 then 2 else s.dictVal 0x200002

/-- Since when the permitted state has been deeper than the present one (R531), Run counting as Idle; nothing is kept before ready, where the boot that leads to Idle (Table 13-4) is under way, or through an exit. [DEDUCED, unsafe, log entry 55] -/
def State.trackVotes (s : State) : PowerUnit :=
  let deeper := s.board.ready && decide (max 1 s.power.mode < s.permitted) && s.power.exiting.isNone
  { s.power with deeperSince := if deeper then some (s.power.deeperSince.getD s.now) else none }

/-- Units of `errFine` in one ns. -/
abbrev errUnit : Nat := 3600000000000

/-- Bit `b` of SOURCE_ENABLE in effect is set (Table 2-9). -/
def TideUnit.enabled (t : TideUnit) (b : Nat) : Bool := bitOf t.enable b

/-- The frequency is taken from TIDE_REF: valid and enabled (R75, Table 2-9 bit 3). -/
def TideUnit.refInUse (t : TideUnit) : Bool := t.refValid && t.enabled 3

/-- TIDE_PPS is in use (R81, Table 2-7). -/
def TideUnit.ppsInUse (t : TideUnit) : Bool := t.ppsValid && t.enabled 3

/-- Growth of the error estimate per ns in HOLDOVER: 10 ns per hour with TIDE_REF, 25 ns per second without (R88). In FREE, ACQUIRING and LOCKED time alone does not change it. [DESIGN CHOICE, unsafe, log entry 79] -/
def TideUnit.growth (t : TideUnit) : Nat :=
  match t.mode with
  | .holdover => if t.refInUse then 10 else 90000
  | _ => 0

/-- Fabric ports that are up without credit for VC1. -/
def State.creditless (s : State) : List Nat := (s.fab.ports.keep fun _ p => p.mode = .up && p.credit1 == 0).keys

/-- Compute regions whose issue fraction is below 64 (R553). -/
def State.gatedRegions (s : State) : List Nat := (List.range 6).filter fun r => decide (s.fOf r < 64)

/-- In how many of its places the condition of a counter's nanosecond source holds (R633, R634, Table 16-4): 0xC0 Tide, which ignores the context filter; 0x64 time without VC1 credit; 0x85 time with F below 64. The last two are of no context. -/
def State.timeRate (s : State) (key : Nat) (c : Counter) : Nat :=
  let source := (c.sel.extractLsb' 0 9).toNat
  if !c.sel.getLsbD 31 then 0
  else if source = 0xC0 then 1
  else if !c.sel.getLsbD 24 then 0
  else if source = 0x64 then (s.creditless.filter fun p => key / 4 == 10 * 256 + 192 + p).length
  else if source = 0x85 then (s.gatedRegions.filter fun r => (key - 0x10000) / 16 == r).length
  else if source = 0x164 then s.creditless.length
  else if source = 0x185 then s.gatedRegions.length
  else 0

/-- A counter counts so many nanoseconds. -/
def Counter.passTime (c : Counter) (n : Nat) : Counter :=
  { c with value := c.value + BitVec.ofNat 48 n, wrapped := c.wrapped || decide (2 ^ 48 ≤ c.value.toNat + n) }

/-- `dt` nanoseconds pass: the Tide counter advances by exactly 1 for each (R70), the error estimate of HOLDOVER grows (R88), counters of time count them, and it is kept since when the votes have permitted a deeper state (R531). [DESIGN CHOICE, unsafe, log entry 1; DESIGN CHOICE, safe, log entry 4; DEDUCED, safe, log entry 75] -/
def State.elapse (s : State) (dt : Nat) : State :=
  { s with
    now := s.now + dt
    tide := { s.tide with
      count := s.tide.count + BitVec.ofNat 64 dt
      errFine := s.tide.errFine + dt * s.tide.growth }
    power := s.trackVotes
    obs := { s.obs with counters := s.obs.counters.mapVals fun k c => c.passTime (dt * s.timeRate k c) } }

end Sys2Proof.Machine
end

