-- ==== Sys2Proof/Machine/Link.lean ====
section
/-! DEFINITION. Flits of the fabric ports as they leave (15_fabric_failover_and_spares.md R586), big-endian under R11. -/

namespace Sys2Proof.Machine

/-- A fabric port. -/
def State.port (s : State) (p : Nat) : PortState := s.fab.ports.valAt .reset p

/-- Change a fabric port. -/
def State.setPort (s : State) (p : Nat) (x : PortState) : State := { s with fab := { s.fab with ports := s.fab.ports.setAt .reset p x } }

/-- Bytes 0 to 251 of a flit (Table 15-2). -/
def flitHead (kind ctrl seq ack credit0 credit1 : Nat) (payload : List Byte) : List Byte :=
  beBytes 1 kind ++ beBytes 1 ctrl ++ beBytes 2 seq ++ beBytes 2 ack ++ beBytes 1 credit0 ++ beBytes 1 credit1 ++ payload ++
    List.replicate (244 - payload.length) 0

/-- A flit with its CRC. -/
def flitBytes (kind ctrl seq ack credit0 credit1 : Nat) (payload : List Byte) : List Byte :=
  flitHead kind ctrl seq ack credit0 credit1 payload ++ beBytes 4 (crc32 (flitHead kind ctrl seq ack credit0 credit1 payload))

/-- A flit leaves a port: it names the SEQ that is expected and the buffer flits freed since the last one. -/
def State.emitFlit (s : State) (p kind ctrl seq : Nat) (payload : List Byte) : State :=
  let x := s.port p
  (s.setPort p { x with freed0 := 0, freed1 := 0 }).emit (.flit p (flitBytes kind ctrl seq x.rxSeq x.freed0 x.freed1 payload))

/-- A flit without a sequence number leaves a port that is up (Table 15-3); while the feed is lost only IDLE flits do (R722). [DEDUCED, unsafe, log entry 88] -/
def State.sendFlit (s : State) (p kind : Nat) (payload : List Byte) : State :=
  if (s.port p).mode = .up && !s.board.lost then s.emitFlit p kind 0 0 payload else s

end Sys2Proof.Machine
end

