-- ==== Sys2Proof/Machine/Report.lean ====
section
/-! DEFINITION. What every part of the module reports: TSN events (R506), journal records (R678), event counters (R633 to R635), the Slack stop (R641 to R646) and Strandline records (R655, R656). -/

namespace Sys2Proof.Machine

/-- A context in its confidential period (R489): from LOCKED until its scrub ends, when its TDI returns to CONFIG_UNLOCKED (R467 step 6). -/
def Context.confidential (x : Context) : Bool := x.tdi != .unlocked

/-- Context `c` is in its confidential period. -/
def State.confidential (s : State) (c : Nat) : Bool := (s.ctxs.valAt .reset c).confidential

/-- Some context is in its confidential period. -/
def State.anyConfidential (s : State) : Bool := s.ctxs.any fun e => e.2.confidential

/-- The blocks and units of a region in ascending identifier. -/
def regionBlocks (r : Nat) : List Nat := ((List.range 256).map fun i => r * 256 + i).filter isBlock

/-- Blocks and units of the module in ascending identifier. -/
def allBlocks : List Nat := (List.range 11).flatMap regionBlocks

/-- A unit of TYPE 7. -/
def unitId (r i : Nat) : Nat := r * 256 + 224 + i

/-- The page manager, the serving scheduler, a fabric port, a codec core (decode 0 to 5, encode at 8 and 9). -/
def pageManagerId : Nat := unitId 6 0
def servingSchedulerId : Nat := unitId 7 1
def fabricPortId (p : Nat) : Nat := 10 * 256 + 192 + p
def codecId (core : Nat) : Nat := if core < 8 then unitId 9 (3 + core) else unitId 9 (9 + (core - 8))

/-- The unit keeps a Strandline ring (R655). -/
def hasRing (id : Nat) : Bool := isBlock id && id != unitId 8 2 && id != unitId 9 11

/-- The dictionary schema of the firmware that runs (Table 17-2). -/
def State.schema (s : State) : Nat :=
  fieldAt (if s.fw.booting = 1 then s.fw.slotB.header else s.fw.slotA.header) 24 2

/-- An event joins a session's queue of at most 256; on overflow the oldest is dropped (R506). -/
def QopSession.push (x : QopSession) (e : QopEventItem) : QopSession :=
  if !x.events || x.opening then x
  else if 256 ≤ x.queue.length then { x with queue := x.queue.drop 1 ++ [e], lost := true }
  else { x with queue := x.queue ++ [e] }

/-- Raise an event to every open session that set EVENTS (R506). -/
def State.raise (s : State) (code : Status) (data : List Byte) : State :=
  { s with net := { s.net with sessions := s.net.sessions.mapVals fun _ x => x.push ⟨code, s.tideNat, data⟩ } }

/-- The journal can take a record (R508): it accepts records and has a usable segment. -/
def Journal.canTake (j : Journal) : Bool := j.accepting && decide (j.retired < 1024)

/-- Queue a journal record (R678, R679); a journal that takes none drops it. -/
def State.journalPut (s : State) (kind key : Nat) (payload : List Byte) : State :=
  if s.journal.canTake then
    { s with journal := { s.journal with
        queued := s.journal.queued ++ [⟨s.journal.nextSeq, kind, key, s.schema, s.tideNat, !s.tide.stepped, payload⟩]
        nextSeq := s.journal.nextSeq + 1 } }
  else s

/-- Store a dictionary counter and its COUNTER record (Table 17-10). -/
def State.keepCounter (s : State) (k n : Nat) : State :=
  let s1 := s.bumpBy k n
  s1.journalPut 0x04 (k * 256) (leBytes 8 (s1.dictVal k))

/-- Arm bit of a source (Table 16-6). -/
def State.slackArmed (s : State) (bit : Nat) : Bool := bitOf (s.dictVal 0x660002) bit

/-- Fabric ports that are up. -/
def State.portsUp (s : State) : List Nat := (s.fab.ports.keep fun _ p => p.mode = .up).keys

/-- The body of a STOP (Table 16-8). -/
def Slack.stopBody (k : Slack) : List Byte :=
  beBytes 4 0x20000000 ++ beBytes 1 (k.triggerId.toNat / 2 ^ 24) ++ beBytes 1 k.hops ++ beBytes 2 0 ++ beBytes 8 k.originTide.toNat ++
    beBytes 4 k.triggerId.toNat ++ List.replicate 36 0

/-- Send STOP on a port: a PAIR flit (R646). -/
def State.sendStop (s : State) (p : Nat) : State := s.sendFlit p 0x05 s.obs.slack.stopBody

/-- Fields of a SEL word (Table 16-2). -/
def Counter.source (c : Counter) : Nat := (c.sel.extractLsb' 0 9).toNat
def Counter.enabled (c : Counter) : Bool := c.sel.getLsbD 31
def Counter.perCommand (c : Counter) : Bool := c.sel.getLsbD 28
def Counter.anyCtx (c : Counter) : Bool := c.sel.getLsbD 24
def Counter.ctx (c : Counter) : Nat := (c.sel.extractLsb' 20 4).toNat

/-- The counter word (Table 16-3). -/
def Counter.word (c : Counter) (last : Bool) : BitVec 64 :=
  BitVec.ofNat 64 (c.seq.toNat * 2 ^ 50 + (if last then 2 ^ 49 else 0) + (if c.wrapped then 2 ^ 48 else 0) + c.value.toNat)

/-- Elementary events per unit of a source (Table 16-4). -/
def sourceUnit (code : Nat) : Nat :=
  if [0x10, 0x11, 0x12, 0x20, 0x30, 0x31].contains code then 1024
  else if [0x32, 0x40, 0x50, 0x51, 0x83, 0x84, 0xC8].contains code then 64
  else 1

/-- Count `n` elementary events; the remainder of a unit is carried (R633). -/
def Counter.add (c : Counter) (n : Nat) : Counter :=
  let u := sourceUnit (c.source % 256)
  let v := c.value.toNat + (c.rest + n) / u
  { c with value := BitVec.ofNat 48 v, wrapped := c.wrapped || decide (2 ^ 48 ≤ v), rest := (c.rest + n) % u }

/-- The counter's filter admits an event of this context, or of the device itself (R633). -/
def State.admits (s : State) (c : Counter) (ctx : Option Nat) : Bool :=
  c.enabled && (if c.anyCtx then (match ctx with | none => true | some x => !s.confidential x) else ctx == some c.ctx)

/-- The counter at a key selects a source, which occurs at a block, or at a region given by its first identifier (R634). -/
def selects (key : Nat) (c : Counter) (source : Nat) (loc : Option Nat) : Bool :=
  if key < 0x10000 then c.source == source && loc == some (key / 4)
  else if key < 0x20000 then
    (loc.map (· / 256)) == some ((key - 0x10000) / 16) &&
      (if 0x80 ≤ source then c.source == source else c.source == source + 0x100)
  else if 0xC0 ≤ source then c.source == source else c.source == source + 0x100

/-- The chip counter and THRESHOLD of EVC_SLACK_MATCH. -/
def State.matchCounter (s : State) : Nat × Nat :=
  (0x20000 + (s.obs.slack.matchReg.extractLsb' 58 6).toNat, (s.obs.slack.matchReg.extractLsb' 0 48).toNat)

/-- A Strandline event record (Table 16-13); one of a context in its confidential period is written suppressed (R656). -/
def State.strandRecord (s : State) (tide event : Nat) (ctx : Option Nat) (arg : Nat) : BitVec 128 :=
  let hidden := match ctx with | some c => s.confidential c | none => false
  BitVec.ofNat 128 (tide % 2 ^ 64 * 2 ^ 64 + (if hidden then 0xFF else event) * 2 ^ 56 + (ctx.getD 0) % 16 * 2 ^ 52 +
    (if ctx.isSome then 2 ^ 51 else 0) + (if s.tide.stepped then 0 else 2 ^ 50) + (if hidden then 0 else arg % 2 ^ 32))

/-- The ring of a block. -/
def State.ring? (s : State) (id : Nat) : List (BitVec 128) := s.obs.rings.valAt [] id

/-- One event that a block has met inside, of work begun or ended or of a stall (Table 16-14, 0x01 to 0x04), behind the records `l`: its instant, context and argument are free. [DEDUCED, unsafe, log entry 53] -/
def State.innerRecord (s : State) (id : Nat) (l : List (BitVec 128)) : BitVec 128 :=
  let k := 2 ^ 53 + (id * 65 + l.length) * 4
  let last := match l with | r :: _ => (r.extractLsb' 64 64).toNat | [] => 0
  let event := 1 + s.pick k % 4
  let ctx := s.pick (k + 1) % 17
  s.strandRecord (last + s.pick (k + 2) % (s.tideNat - last + 1)) event (if ctx < 16 then some ctx else none)
    (if event < 3 then s.pick (k + 3) else 1 + s.pick (k + 3) % 5)

/-- The records of what a block has met inside since its last record: a free number of them. [DEDUCED, unsafe, log entry 53] -/
def State.innerRecords (s : State) (id : Nat) : List (BitVec 128) :=
  if s.dictVal 0x661001 = 0 then [] else
  (List.range (s.pick (2 ^ 54 + id) % 65)).foldl (fun l _ => s.innerRecord id (l ++ s.ring? id) :: l) []

/-- Every ring brought up to date with what its block has met inside. [DEDUCED, unsafe, log entry 53] -/
def State.innerRings (s : State) : Store (List (BitVec 128)) :=
  (allBlocks.filter hasRing).foldl (fun m id => m.put id ((s.innerRecords id ++ s.ring? id).take 64)) s.obs.rings

/-- A record is of the block and the event that EVC_SLACK_SMATCH names (Table 16-6 source 7). -/
def State.smatches (s : State) (id : Nat) (r : BitVec 128) : Bool :=
  let m := s.obs.slack.smatch
  (m.extractLsb' 20 12).toNat == id && m.extractLsb' 0 8 == r.extractLsb' 56 8

/-- Sources whose events the commands carry; the others count what happens inside units and between commands. [DEDUCED, unsafe, log entry 53] -/
def carriedSources : List Nat :=
  [0x10, 0x11, 0x12, 0x33, 0x40, 0x41, 0x60, 0x61, 0x62, 0x63, 0x64, 0x85, 0xC0, 0xC1, 0xC2, 0xC3, 0xC4, 0xC5, 0xC6, 0xC7, 0xC8]

/-- Counters of the other sources advance by free amounts up to now. [DEDUCED, unsafe, log entry 53] -/
def State.innerCounts (s : State) : Store Counter :=
  s.obs.counters.mapVals fun k c => if c.enabled && c.source != 0 && !carriedSources.contains (c.source % 256) then c.add (s.pick k) else c

/-- The stop (R641, R642, R646): every arm bit clears, the last unit is held at most 150 ns after the trigger at a free instant, with what the units have counted and met until then, and STOP goes out on every port that is up. [DEDUCED, safe, log entry 52] -/
def State.slackHold (s0 : State) (source hops port : Nat) (trigger : Option (BitVec 32 × BitVec 64)) : State :=
  let s := s0.draw
  let k := s.obs.slack
  let held := s.tide.count + BitVec.ofNat 64 (s0.pick 0 % 151)
  let id := match trigger with
    | some t => t.1
    | none => BitVec.ofNat 32 (s.pair.place % 256 * 2 ^ 24 + (k.stops + 1) % 2 ^ 24)
  let origin := match trigger with | some t => t.2 | none => held
  let k1 := { k with
    mode := .capturing, triggerId := id, hops := hops, source := source, tide := held, originTide := origin, port := port
    stops := k.stops + 1, preStep := !s.tide.stepped, stopAt := s.now, repeats := s.portsUp.map fun p => (p, s.now), flits := [] }
  let s1 := ({ s with obs := { s.obs with slack := k1, counters := s0.innerCounts, rings := s0.innerRings } }.setDict 0x660002 0).bump 0x660006
  s1.portsUp.foldl State.sendStop s1

/-- A source of this tray triggers (R641): the first trigger stops it. -/
def State.slackStop (s : State) (source : Nat) : State :=
  if s.slackRuns && (source == 0 || s.slackArmed (source - 1)) then s.slackHold source 0 0xFF none else s

/-- The change of the counters has brought the matched one to THRESHOLD (Table 16-6 source 1). -/
def State.matchReached (s : State) (before : Store Counter) : Bool :=
  let m := s.matchCounter
  let a := (before.valAt .reset m.1).value.toNat
  let b := (s.obs.counters.valAt .reset m.1).value.toNat
  decide (a < m.2) && decide (m.2 ≤ b)

/-- Count events of a source (R633, R634). -/
def State.count (s : State) (source : Nat) (loc ctx : Option Nat) (n : Nat) : State :=
  let upd (k : Nat) (c : Counter) : Counter := if selects k c source loc && s.admits c ctx then c.add n else c
  let s1 := { s with obs := { s.obs with counters := s.obs.counters.mapVals upd } }
  if s1.matchReached s.obs.counters then s1.slackStop 1 else s1

/-- Bring the counters and the rings up to now. [DEDUCED, unsafe, log entry 53] -/
def State.observe (s : State) : State :=
  let s1 := { s.draw with obs := { s.obs with counters := s.innerCounts, rings := s.innerRings } }
  let s2 := if s1.matchReached s.obs.counters then s1.slackStop 1 else s1
  let id := (s.obs.slack.smatch.extractLsb' 20 12).toNat
  if s.slackArmed 6 && (s.innerRecords id).any (s.smatches id) then s2.slackStop 7 else s2

/-- A block records an event in its ring of 64 (R655, R656); the record can trigger STRANDLINE_MATCH. -/
def State.strand (s : State) (id event : Nat) (ctx : Option Nat) (arg : Nat) : State :=
  if s.dictVal 0x661001 = 0 || !hasRing id then s
  else
    let r := s.strandRecord s.tideNat event ctx arg
    let s1 := { s with obs := { s.obs with rings := s.obs.rings.put id ((r :: s.ring? id).take 64) } }
    if s.smatches id r then s1.slackStop 7 else s1

/-- Several blocks record an event. -/
def State.strandAll (s : State) (ids : List Nat) (event : Nat) (ctx : Option Nat) (arg : Nat) : State :=
  ids.foldl (fun s id => s.strand id event ctx arg) s

/-- Blocks leave service, for a cause whose code is free, or come back (Table 16-14, 0x08 and 0x09). [DEDUCED, unsafe, log entry 53] -/
def State.outOfService (s : State) (ids : List Nat) : State := (s.strandAll ids 0x08 none (s.pick (2 ^ 55))).draw
def State.backInService (s : State) (ids : List Nat) : State := s.strandAll ids 0x09 none 0

/-- The step of R635 on one counter: its word is kept with LAST = 1, VALUE restarts, SEQ counts up. -/
def Counter.step (c : Counter) : Counter := { c with last := c.word true, value := 0, wrapped := false, seq := c.seq + 1 }

/-- COMMAND_STEP (R635): a command of the context starts. Blocks whose counters step record it in Strandline. -/
def State.commandStep (s0 : State) (c : Nat) : State :=
  let s := s0.observe
  let mine (x : Counter) : Bool := x.perCommand && x.ctx == c
  let s1 := { s with obs := { s.obs with counters := s.obs.counters.mapVals fun _ x => if mine x then x.step else x } }
  let stepped := s1.obs.counters.filter fun e => decide (e.1 < 0x10000) && mine e.2
  stepped.foldl (fun s e => s.strand (e.1 / 4) 0x0B (some c) e.2.seq.toNat) s1

/-- The module raises an event and the numbers of it in big-endian bytes (R11): size and value. -/
def beData (l : List (Nat × Nat)) : List Byte := l.flatMap fun x => beBytes x.1 x.2

end Sys2Proof.Machine
end

