-- ==== Sys2Proof/Machine/FabSend.lean ====
section
/-! DEFINITION. Sending on the fabric (15_fabric_failover_and_spares.md R586 to R595): messages, segments, routes, and the mirror records of R615. -/

namespace Sys2Proof.Machine

/-- The port by which a place is reached: the lowest-numbered up port whose partner announces it (R595). -/
def State.routeTo (s : State) (place : Nat) : Option Nat := s.portsUp.find? fun p => s.fab.routes.valAt 0 (place * 16 + p) == 1

/-- Messages on the bulk channel VC1 (Table 15-5). -/
def isBulk (type : Nat) : Bool := [0x0001, 0x0012, 0x0020, 0x0022].contains type

/-- The body limit of a message's virtual channel (R591). -/
def bodyLimit (type : Nat) : Nat := if isBulk type then 16384 else 65536

/-- A message as its flits carry it: the header of Table 15-4, then the body. -/
def FabMsg.bytes (m : FabMsg) : List Byte :=
  beData [(2, m.type), (1, m.ctx * 16), (1, if m.final then 1 else 0), (2, m.gen), (1, m.src), (1, m.dst), (4, m.body.length), (4, m.id), (4, m.xfer),
    (4, m.offset)] ++ m.body

/-- MSG flits of a message: 244 bytes of payload each, the 24-byte header first (R591). -/
def FabMsg.flits (m : FabMsg) : Nat := ceilDiv (24 + m.body.length) 244

/-- CTRL and payload of flit `i` of a message (Table 15-2). -/
def FabMsg.ctrl (m : FabMsg) (i : Nat) : Nat :=
  (if isBulk m.type then 128 else 0) + (if i = 0 then 64 else 0) + (if i + 1 = m.flits then 32 else 0)
def FabMsg.piece (m : FabMsg) (i : Nat) : List Byte := (m.bytes.drop (244 * i)).take 244

/-- MSG flits sent and not acknowledged. -/
def PortState.outstanding (x : PortState) : Nat := (x.txSeq + 65536 - x.base) % 65536

/-- At a message boundary the next message begins: the oldest one of VC0, else of VC1 (R591). -/
def PortState.begun (x : PortState) : PortState :=
  let busy := match x.unacked.getLast? with | some e => decide (e.2.1 < e.2.2.flits) | none => false
  match if busy then none else (x.waiting.find? fun m => !isBulk m.type).orElse fun _ => x.waiting.head? with
  | some m => { x with unacked := x.unacked ++ [(x.txSeq, 0, m)], waiting := x.waiting.erase m }
  | none => x

/-- The next MSG flit leaves a port, where one may: no more than 256 are unacknowledged (R588), the partner's buffer takes it (R584), no clear of R464 runs (Table 15-12), Slack does not hold the tray (R646) and the feed is not lost (R722). [DEDUCED, unsafe, log entry 88] -/
def State.pumpOne (s : State) (p : Nat) : Option State :=
  let x := (s.port p).begun
  match x.unacked.getLast? with
  | none => none
  | some (first, n, m) =>
    let bulk := isBulk m.type
    let room := if bulk then x.credit1 else x.credit0
    if x.mode = .up && decide (n < m.flits) && decide (x.outstanding < 256) && decide (0 < room) && s.slackRuns && s.sched.clearing.isNone && !s.board.lost then
      let x1 := { x with
        unacked := x.unacked.dropLast ++ [(first, n + 1, m)], txSeq := (x.txSeq + 1) % 65536, lastMsg := s.now
        credit0 := if bulk then x.credit0 else x.credit0 - 1, credit1 := if bulk then x.credit1 - 1 else x.credit1
        progress := if x.outstanding = 0 then s.now else x.progress }
      some (((s.setPort p x1).emitFlit p 0x01 (m.ctrl n) x.txSeq (m.piece n)).count 0x60 (some (fabricPortId p)) none 1)
    else none

/-- MSG flits leave a port while they may. -/
def State.pump (p : Nat) : Nat → State → State
  | 0, s => s
  | n + 1, s => match s.pumpOne p with | some s1 => State.pump p n s1 | none => s

/-- MSG flits leave a port while they may: at most the 256 of the window. -/
def State.pumpPort (s : State) (p : Nat) : State := State.pump p 256 s

/-- What waits on any port goes out. -/
def State.pumpAll (s : State) : State := (List.range 16).foldl State.pumpPort s

/-- Put a message on a port: its flits take the next SEQ numbers (R587) as the link takes them. -/
def State.sendOn (s : State) (p : Nat) (m : FabMsg) : State :=
  let x := s.port p
  (s.setPort p { x with waiting := x.waiting ++ [m] }).pumpPort p

/-- Put the segments of a payload on a port (R592). -/
def State.sendSegments (s : State) (p type ctx gen dst xfer : Nat) : Nat → Nat → List Byte → State
  | 0, _, _ => s
  | fuel + 1, off, bs =>
    let lim := bodyLimit type
    let last := decide (bs.length ≤ lim)
    let id := (s.fab.msgId + 1) % 2 ^ 32
    let m : FabMsg := ⟨type, ctx, last, gen, s.pair.place, dst, id, xfer, off, bs.take lim⟩
    let s1 := ({ s with fab := { s.fab with msgId := id } }).sendOn p m
    if last then s1 else State.sendSegments s1 p type ctx gen dst xfer fuel (off + lim) (bs.drop lim)

/-- Put a payload on a port: one message, or numbered segments (R592). -/
def State.sendPayload (s : State) (p type ctx gen dst : Nat) (body : List Byte) : State :=
  if body.length ≤ bodyLimit type then s.sendSegments p type ctx gen dst ((s.fab.msgId + 1) % 2 ^ 32) 1 0 body
  else
    let x := (s.fab.xferId + 1) % 2 ^ 32
    ({ s with fab := { s.fab with xferId := x } }).sendSegments p type ctx gen dst x (body.length / bodyLimit type + 1) 0 body

/-- Send a payload to a place; false where no up port reaches it (NO_ROUTE, R593). -/
def State.sendTo (s : State) (place type ctx gen : Nat) (body : List Byte) : State × Bool :=
  match s.routeTo place with
  | some p => (s.sendPayload p type ctx gen place body, true)
  | none => (s, false)

/-- Send a message of no context on every up port with a peer. -/
def State.sendAll (s : State) (type ctx gen : Nat) (body : List Byte) : State :=
  s.portsUp.foldl (fun s p => s.sendPayload p type ctx gen (s.port p).peer body) s

/-- Why a RUN or SUBMIT entry is refused as a whole: a persistent chip-level fault (R704), or a tray that does not act for the mirrored context (R610). -/
def State.workRefusal (s : State) (c : Nat) : Option Status :=
  if s.integ.persistent.isSome then some stJobFault
  else if !s.mayServe c then some stLeaseLost
  else none

/-- Mirror records go out while this tray is ACTIVE and its partner takes them. -/
def State.mirrors (s : State) (c : Nat) : Bool :=
  s.pair.role == .active && s.mirrored c && (s.pair.partnerRole == some .standby || s.pair.partnerRole == some .syncing)

/-- Send one mirror record (R615): sequence number (4 B), kind (1 B), context (1 B), 2 reserved bytes, content. The spec does not give the layout: this one is the model's. -/
def State.mirror (s : State) (c kind : Nat) (content : List Byte) : State :=
  if s.mirrors c then
    let n := (s.pair.mirrorSent + 1) % 2 ^ 32
    let s1 := { s with pair := { s.pair with mirrorSent := n, mirrorSince := some (s.pair.mirrorSince.getD s.now) } }
    (s1.sendTo (s.pairSetting 0x500005) 0x0010 0 0 (beBytes 4 n ++ beBytes 1 kind ++ beBytes 1 c ++ [0, 0] ++ content)).1
  else s

/-- A stream record of a request may be written (R616): MIRROR_ACK covers its TOKENS record, or MIRROR_LOST stands. -/
def State.mirrorCovers (s : State) (req : Nat) : Bool :=
  s.pair.mirrorLost || decide (s.pair.need.valAt 0 req ≤ s.pair.mirrorAcked)

/-- A pair body as it goes out (Table 15-10), MAC aside. -/
def State.pairBody (s : State) (kind seq mirrorSeq config : Nat) : List Byte :=
  let role := match s.pair.role with
    | .init => 0 | .alone => 1 | .shadow => 2 | .syncing => 3 | .standby => 4 | .active => 5 | .fenced => 6 | .leaving => 7
  let out (r : Nat) : Nat := if (s.regions.valAt .reset r).phase = .inService ∧ s.voltageOut r = false then 0 else 2 ^ (9 + r)
  let health := (if s.integ.persistent.isSome || s.integ.recovering.isSome then 2 ^ 15 else 0) + (List.range 6).foldl (fun a r => a + out r) 0 +
    (if s.integ.repeats.isEmpty then 0 else 2 ^ 8)
  let left := (s.pair.leaseEnd - s.now) / 1000
  beData [(1, kind), (1, role), (2, s.pairSetting 0x500002), (1, s.pair.place), (1, s.pairSetting 0x500005), (2, health), (8, s.pair.epoch),
    (8, s.tideNat), (4, seq), (4, left), (4, mirrorSeq), (4, config)]

/-- The key of a key slot (R513). -/
def State.slotKey (s : State) (slot : Nat) : List Byte := ((s.trust.slots.look slot).map fun x => x.2).getD []

/-- Send a pair body on a path: a TSN port with its MAC under the key of PAIR_KEY_SLOT, or HEARTBEAT_PORT with MAC 0 (R604). -/
def State.sendPair (s : State) (path : PairPath) (toWitness : Bool) (body : List Byte) : State :=
  let mac := (hmac512 (s.slotKey (s.pairSetting 0x500008)) body).take 16
  let dest := if toWitness then s.pair.witnessMac else s.pair.partnerMac
  let kind := 0x100 + fieldAt body 0 1
  match path with
  | .tsnA => if s.net.linkA then s.emit (.ether 0 kind ((dest ++ body ++ mac).map (·.toNat))) else s
  | .tsnB => if s.net.linkB then s.emit (.ether 1 kind ((dest ++ body ++ mac).map (·.toNat))) else s
  | .fabric =>
    let p := s.pairSetting 0x500007
    s.sendFlit p 0x05 (body ++ List.replicate 16 (0 : Byte))

/-- The next per-kind sequence number of pair bodies. -/
def State.nextPairSeq (s : State) (kind : Nat) : State × Nat :=
  let n := (s.pair.seqs.valAt 0 kind + 1) % 2 ^ 32
  ({ s with pair := { s.pair with seqs := s.pair.seqs.setAt 0 kind n } }, n)

end Sys2Proof.Machine
end

