-- ==== Sys2Proof/Machine/Pages.lean ====
section
/-! DEFINITION. The page manager's operations (04_device_memory_and_page_manager.md): address translation, frames, mappings, reference counts, the fill and copy queues, and feature-map compression blocks (R176 to R181). -/

namespace Sys2Proof.Machine

/-- Granules of one GiB. -/
abbrev gibGran : Nat := 262144

/-- A context's table entry. -/
def State.ctx (s : State) (c : Nat) : Context := s.ctxs.valAt .reset c

/-- Change a context's table entry. -/
def State.setCtx (s : State) (c : Nat) (x : Context) : State := { s with ctxs := s.ctxs.setAt .reset c x }

/-- A command may run for this context and generation (R160). -/
def State.ctxLive (s : State) (c : Nat) (gen : BitVec 16) : Bool :=
  ((s.ctx c).mode = .active || (s.ctx c).mode = .locked) && (s.ctx c).gen = gen

/-- The first granule and the end of the interleaved zone, or of the part of a stack open to contexts (R137, R139). -/
def zoneRange (l : Nat) : Option Nat → Nat × Nat
  | none => (0, 8 * (24 - l) * gibGran)
  | some st =>
    let b := (8 * (24 - l) + st * l) * gibGran
    (b, b + l * gibGran - gibGran / 2)

/-- The stack a granule lies on (R138), or the stack of its local part. -/
def stackOf (l g : Nat) : Nat :=
  if g < 8 * (24 - l) * gibGran then (g % 8) ^^^ (g / 8 % 8) ^^^ (g / 64 % 8)
  else (g - 8 * (24 - l) * gibGran) / (l * gibGran)

/-- The granule lies in a stack's local part. -/
def isLocal (l g : Nat) : Bool := decide (8 * (24 - l) * gibGran ≤ g)

/-- The address of a DPA within its stack (R137, R138): interleaved granules fill stack addresses 0 to (24 − L) GiB − 1, the local part those above. -/
def stackAddress (l dpa : Nat) : Nat :=
  let g := dpa / granule
  if isLocal l g then ((24 - l) * gibGran + (g - 8 * (24 - l) * gibGran) % (l * gibGran)) * granule + dpa % granule
  else g / 8 * granule + dpa % granule

/-- The pseudo-channel of 32 and the channel of 16 to which a stack address belongs, by pieces of 256 B (R138). [DEDUCED, unsafe, log entry 80] -/
def pseudoChannel (sa : Nat) : Nat := sa / 256 % 32
def channelOf (sa : Nat) : Nat := pseudoChannel sa / 2

/-- The items of the carve-out of Table 4-1 and their sizes in MiB, in its order; each is divided equally over the eight local parts (R139). -/
def carveOut : List (String × Nat) :=
  [("frame descriptors", 768), ("context maps", 1024), ("KV page-table pool", 512), ("serving state", 256), ("prefix index", 256),
    ("adapter directory", 16), ("management working memory", 512), ("capture buffers", 256), ("self-test sets", 256), ("reserved", 240)]

/-- Where the part of the i-th item of the carve-out begins in the local part of stack st, by granule, and how many granules it has: the items in the order of Table 4-1 from the start of the last 512 MiB. [DEDUCED, unsafe, log entry 80] -/
def carvePart (l st i : Nat) : Nat × Nat :=
  let mib (n : Nat) : Nat := n * (gibGran / 1024) / 8
  let before := ((carveOut.take i).map fun e => mib e.2).sum
  ((zoneRange l (some st)).2 + before, mib ((carveOut[i]?).getD ("", 0)).2)

/-- The item of the carve-out in which a granule lies, if it lies in the carve-out. -/
def carveItem (l g : Nat) : Option Nat :=
  let st := stackOf l g
  if isLocal l g then (List.range carveOut.length).find? fun i =>
    let p := carvePart l st i
    decide (p.1 ≤ g) && decide (g < p.1 + p.2)
  else none

/-- Do the granules [a, a + n) and [b, b + m) share one? -/
def overlaps (a n b m : Nat) : Bool := decide (a < b + m) && decide (b < a + n)

/-- No frame outside the free pool touches the granules (R150). -/
def State.granFree (s : State) (g n : Nat) : Bool :=
  s.pm.frames.all fun e => !overlaps g n e.1 (2 ^ e.2.k)

/-- A block of size k that may be given out: aligned, in the zone, free. -/
def State.blockOk (s : State) (zone : Option Nat) (k g : Nat) : Bool :=
  let z := zoneRange s.pm.localGib zone
  g % 2 ^ k == 0 && decide (z.1 ≤ g) && decide (g + 2 ^ k ≤ z.2) && s.granFree g (2 ^ k)

/-- Where a free aligned block can begin: the zone's start, and behind each frame. -/
def State.blockCandidates (s : State) (zone : Option Nat) (k : Nat) : List Nat :=
  roundUp (zoneRange s.pm.localGib zone).1 (2 ^ k) ::
    s.pm.frames.map fun e => roundUp (e.1 + 2 ^ e.2.k) (2 ^ k)

/-- A free block of size k in a zone: the free choice where it names one, else the first candidate that is free; none is NO_MEMORY (R150). [DEDUCED, safe, log entry 23] -/
def State.findBlock (s : State) (zone : Option Nat) (k : Nat) : Option Nat :=
  let f := Config.framePick s.free k
  if s.blockOk zone k f then some f else (s.blockCandidates zone k).find? (s.blockOk zone k)

/-- Take a free block for an owner. [DEDUCED, safe, log entry 23] -/
def State.takeFrame (s : State) (owner : FrameOwner) (zone : Option Nat) (k refs : Nat) (spec : Bool) : Option (State × Nat) :=
  match s.findBlock zone k with
  | none => none
  | some g => some ({ s.draw with pm := { s.pm with frames := s.pm.frames.put g ⟨k, owner, refs, 0, spec, false, .held⟩ } }, g)

/-- Frames of 4 KiB that count against a context's quota (R148). -/
def State.framesUsed (s : State) (c : Nat) (gen : BitVec 16) : Nat :=
  (s.pm.frames.map fun e => if e.2.owner = .ctx c gen then 2 ^ e.2.k else 0).sum

/-- Frames of 4 KiB in the free pool: all that contexts can be given, less what is listed (PGM_FREE_FRAMES). [DESIGN CHOICE, safe, log entry 78] -/
def State.freeFrames (s : State) : Nat :=
  8 * 24 * gibGran - 8 * (gibGran / 2) - (s.pm.frames.map fun e => 2 ^ e.2.k).sum

/-- An allocation of `n` pages of size k keeps the owner within its quota (R148). -/
def State.quotaOk (s : State) (c : Nat) (n k : Nat) : Bool :=
  decide (s.framesUsed c (s.ctx c).gen + n * 2 ^ k ≤ (s.ctx c).quota.toNat)

/-- The key of a CVA granule in the maps. -/
def mapKey (c g : Nat) : Nat := c * 2 ^ 26 + g

/-- The mapping that covers a CVA granule: its first granule and the mapping. -/
def State.mapAt (s : State) (c g : Nat) : Option (Nat × Mapping) :=
  (List.range 13).findSome? fun k =>
    let b := g / 2 ^ k * 2 ^ k
    match s.pm.maps.look (mapKey c b) with
    | some m => if m.k = k then some (b, m) else none
    | none => none

/-- The page that starts at a CVA granule with this size, if one is mapped. -/
def State.pageAt (s : State) (c g k : Nat) : Option Mapping :=
  match s.pm.maps.look (mapKey c g) with
  | some m => if m.k = k then some m else none
  | none => none

/-- A range of granules of a context touches a mapping. -/
def State.rangeMapped (s : State) (c g n : Nat) : Bool :=
  s.pm.maps.any fun e => e.1 / 2 ^ 26 == c && overlaps g n (e.1 % 2 ^ 26) (2 ^ e.2.k)

/-- The released mapping that work admitted at `seq` still uses at a granule (R163): the earliest release after its admission. -/
def State.ghostAt (s : State) (c g seq : Nat) : Option GhostMap :=
  (s.pm.ghosts.filter fun h => h.ctx == c && decide (seq < h.released) && decide (h.gran ≤ g) && decide (g < h.gran + 2 ^ h.k)).foldl
    (fun best h => match best with | none => some h | some b => if h.released < b.released then some h else some b) none

/-- Where a CVA of a context lies: frame and DPA. `seq` is the admission of the work that accesses, none for a W4 access or a new command (R163, R164). A context number of 16 + c stands for the serving engine working for context c: its scratch lies above every CVA, at its own address (R350). -/
def State.translate (s : State) (c : Nat) (seq : Option Nat) (cva : Nat) : Option (Nat × Nat) :=
  if cva < 2 ^ 38 then
    let g := cva / granule
    match seq.bind fun q => s.ghostAt (c % 16) g q with
    | some h => some (h.frame, (h.frame + (g - h.gran)) * granule + cva % granule)
    | none => (s.mapAt (c % 16) g).map fun b => (b.2.frame, (b.2.frame + (g - b.1)) * granule + cva % granule)
  else if 16 ≤ c ∧ 2 ^ 40 ≤ cva then some (cva / granule, cva)
  else none

/-- The frame listed at a granule. -/
def State.frame (s : State) (f : Nat) : Option PageFrame := s.pm.frames.look f

/-- The reference count of a frame. -/
def State.refsOf (s : State) (f : Nat) : Nat := ((s.frame f).map (·.refs)).getD 0

/-- Change a listed frame. -/
def State.modFrame (s : State) (f : Nat) (g : PageFrame → PageFrame) : State :=
  { s with pm := { s.pm with frames := s.pm.frames.modAt f g } }

/-- The HBM unit of 64 B in which a DPA lies is lost: its reads deliver poison (Table 18-1). -/
def State.dpaLost (s : State) (dpa : Nat) : Bool := s.integ.lost.contains (dpa / 64)

/-- Read a byte through a CVA: none where nothing is mapped (R164) and where the read delivers poison (R36). -/
def State.readCva (s : State) (c : Nat) (seq : Option Nat) (cva : Nat) : Option Byte :=
  match s.translate c seq cva with
  | some t => if s.dpaLost t.2 then none else some (s.hbm.read t.2)
  | none => none

/-- Read bytes through CVAs: none where any is not mapped. -/
def State.readCvaN (s : State) (c : Nat) (seq : Option Nat) (cva : Nat) : Nat → Option (List Byte)
  | 0 => some []
  | n + 1 =>
    match s.readCva c seq cva, s.readCvaN c seq (cva + 1) n with
    | some b, some bs => some (b :: bs)
    | _, _ => none

/-- A frame that nothing names or holds, and that no KV walk has captured, passes to the fill engine (R149, R163); a retired one is counted when it is freed (R151). [DEDUCED, safe, log entry 23] -/
def State.settleFrame (s : State) (f : Nat) : State :=
  match s.frame f with
  | none => s
  | some p =>
    if p.refs = 0 ∧ p.pins = 0 ∧ p.phase = .held ∧ (s.pm.ghosts.all fun h => h.frame != f) ∧
        (s.kv.walks.all fun w => !w.2.frames.contains f) then
      { s with pm := { s.pm with
          frames := s.pm.frames.put f { p with owner := .device, phase := .filling, spec := false }
          fills := s.pm.fills ++ [⟨f, .free⟩] } }
    else s

/-- One reference to a frame ends. -/
def State.unref (s : State) (f : Nat) : State := (s.modFrame f fun p => { p with refs := p.refs - 1 }).settleFrame f

/-- One more reference to a frame. -/
def State.addRef (s : State) (f : Nat) : State := s.modFrame f fun p => { p with refs := p.refs + 1 }

/-- Map a page. -/
def State.mapPage (s : State) (c g frame k : Nat) : State :=
  { s with pm := { s.pm with maps := s.pm.maps.put (mapKey c g) ⟨frame, k⟩ } }

/-- Admission of work to a context's pages takes the next place in the order (R163). -/
def State.admitWork (s : State) (c : Nat) : State × Nat :=
  let q := s.pm.order + 1
  ({ s with pm := { s.pm with order := q, live := s.pm.live ++ [⟨c, q⟩] } }, q)

/-- A released mapping is still used by work admitted before it. -/
def PageManager.ghostUsed (p : PageManager) (h : GhostMap) : Bool :=
  p.live.any fun a => a.ctx == h.ctx && decide (a.seq < h.released)

/-- Drop the released mappings that no admitted work uses any more; their frames pass on (R163). -/
def State.dropGhosts (s : State) : State :=
  let gone := s.pm.ghosts.filter fun h => !s.pm.ghostUsed h
  let s1 := { s with pm := { s.pm with ghosts := s.pm.ghosts.filter s.pm.ghostUsed } }
  gone.foldl (fun s h => s.settleFrame h.frame) s1

/-- Admitted work ends. -/
def State.discharge (s : State) (c seq : Nat) : State :=
  { s with pm := { s.pm with live := s.pm.live.filter fun a => !(a.ctx == c && a.seq == seq) } }.dropGhosts

/-- Unmap a page at once for every later access (R163) and end its reference. -/
def State.unmapPage (s : State) (c g : Nat) : State :=
  match s.pm.maps.look (mapKey c g) with
  | none => s
  | some m =>
    let q := s.pm.order + 1
    let h : GhostMap := ⟨c, g, m.k, m.frame, q⟩
    let s1 := { s with pm := { s.pm with order := q, maps := s.pm.maps.del (mapKey c g), ghosts := s.pm.ghosts ++ [h] } }
    (s1.modFrame m.frame fun p => { p with refs := p.refs - 1 }).dropGhosts

/-- `f` holds of the first `n` pages from granule `g`, each `step` granules. -/
def allPages (step : Nat) : Nat → Nat → (Nat → Bool) → Bool
  | 0, _, _ => true
  | n + 1, g, f => f g && allPages step n (g + step) f

/-- Change the state for each of `n` pages from granule `g`. -/
def eachPage (step : Nat) (f : State → Nat → State) : Nat → Nat → State → State
  | 0, _, s => s
  | n + 1, g, s => eachPage step f n (g + step) (f s g)

/-- Take and map `n` new zeroed pages, or none (R156). -/
def State.allocPages (s : State) (c : Nat) (zone : Option Nat) (k : Nat) (spec : Bool) : Nat → Nat → Option State
  | 0, _ => some s
  | n + 1, g =>
    match s.takeFrame (.ctx c (s.ctx c).gen) zone k 1 spec with
    | none => none
    | some (s', f) => State.allocPages (s'.mapPage c g f k) c zone k spec n (g + 2 ^ k)

/-- Remap a page to another frame; the old one loses a reference (R161 steps 3 and 4). -/
def State.remapPage (s : State) (c g k frame old : Nat) : State := (s.mapPage c g frame k).unref old

/-- An HBM unit lies in a frame of size k. -/
def inUnits (f k u : Nat) : Bool := decide (f * 64 ≤ u) && decide (u < (f + 2 ^ k) * 64)

/-- Copy the content of a frame of size k: a lost unit stays lost in the copy (R36). -/
def State.copyFrame (s : State) (src dst k : Nat) : State :=
  let cleared := s.hbm.zeroRange (dst * granule) ((dst + 2 ^ k) * granule)
  let content := s.hbm.keep fun a _ => decide (src * granule ≤ a) && decide (a < (src + 2 ^ k) * granule)
  let put (m : Mem) (e : Nat × Byte) : Mem := m.write (e.1 - src * granule + dst * granule) e.2
  let bad := s.integ.lost.filter fun u => !inUnits dst k u
  let copied := (s.integ.lost.filter (inUnits src k)).map fun u => u - src * 64 + dst * 64
  { s with hbm := content.foldl put cleared, integ := { s.integ with lost := bad ++ copied } }

/-- The private frame of a copy on write through a CVA (R161): none with the status of R162. For work admitted before a RELEASE the frame serves the released mapping only (R163). The frame comes from the zone and stack of the old one: the spec names none. [DESIGN CHOICE, unsafe, log entry 84] -/
def State.cowFrame (s : State) (c0 : Nat) (seq : Option Nat) (cva : Nat) : Except Status (State × Nat) :=
  let c := c0 % 16
  match s.translate c seq cva with
  | none => .error stNotMapped
  | some (old, _) =>
    match s.frame old with
    | none => .error stNotMapped
    | some p =>
      let zone := if isLocal s.pm.localGib old then some (stackOf s.pm.localGib old) else none
      if !s.quotaOk c 1 p.k then .error stQuotaExceeded
      else
        match s.takeFrame (.ctx c (s.ctx c).gen) zone p.k 1 p.spec with
        | none => .error stNoMemory
        | some (s', f) => .ok (s'.bump 0x620003, f)

/-- Put a copied frame in place of the shared one for the writer (R161 steps 3 and 4, R163). -/
def State.cowRemap (s : State) (c0 : Nat) (seq : Option Nat) (cva : Nat) (new : Nat) : State :=
  let c := c0 % 16
  let g := cva / granule
  match seq.bind fun q => s.ghostAt c g q with
  | some h =>
    let ghosts := s.pm.ghosts.map fun x => if x = h then { x with frame := new } else x
    (({ s with pm := { s.pm with ghosts := ghosts } }.modFrame new fun p => { p with refs := 0 })).settleFrame h.frame
  | none =>
    match s.mapAt c g with
    | some (b, m) => s.remapPage c b m.k new m.frame
    | none => s

/-- A released mapping's frame is written in place only when no other mapping names the page (R163); a mapped one when its count is 1 (R161). -/
def State.writableInPlace (s : State) (c : Nat) (seq : Option Nat) (cva : Nat) : Bool :=
  match s.translate c seq cva with
  | none => false
  | some (f, _) =>
    match seq.bind fun q => s.ghostAt (c % 16) (cva / granule) q with
    | some _ => s.refsOf f == 0
    | none => decide (s.refsOf f ≤ 1)

/-- The mapping that work uses at a CVA: its first granule, and the place of its release where it is a released one (R163). -/
def State.mappingOf (s : State) (c : Nat) (seq : Option Nat) (cva : Nat) : Option (Nat × Option Nat) :=
  let g := cva / granule
  match seq.bind fun q => s.ghostAt (c % 16) g q with
  | some h => some (h.gran, some h.released)
  | none => (s.mapAt (c % 16) g).map fun b => (b.1, none)

/-- The copy on write that is being made for the mapping at a CVA (Table 4-5). -/
def State.pendingCopy (s : State) (c : Nat) (seq : Option Nat) (cva : Nat) : Option CowStall :=
  s.pm.stalls.vals.find? fun w => w.ctx == c % 16 && s.mappingOf c seq cva == some (w.gran, w.ghost)

/-- The copy is made and the writer's CVA remapped: what a second write through the mapping waits for (R161, Table 4-5). [DESIGN CHOICE, unsafe, log entry 84] -/
def State.finishCopy (s : State) (c : Nat) (seq : Option Nat) (cva : Nat) (w : CowStall) : State :=
  let k := ((s.frame w.old).map (·.k)).getD 0
  let s1 := if w.copied then s else s.copyFrame w.old w.new k
  let s2 := { s1 with pm := { s1.pm with
    copies := s1.pm.copies.filter fun x => x.dest != w.new
    stalls := s1.pm.stalls.mapVals fun _ x => if x.new = w.new then { x with copied := true } else x } }
  s2.cowRemap c seq cva w.new

/-- A block write of one byte: in place, or after copy-on-write, whose copy a second write through the same mapping shares (Table 4-5); on an unmapped CVA it is discarded (R161, R162, R164). -/
def State.writeCva (s : State) (c : Nat) (seq : Option Nat) (cva : Nat) (b : Byte) : Except Status State :=
  match s.translate c seq cva with
  | none => .ok s
  | some (f, dpa) =>
    if s.writableInPlace c seq cva then .ok { s with hbm := s.hbm.write dpa b }
    else match s.pendingCopy c seq cva with
    | some w =>
      let s1 := s.finishCopy c seq cva w
      match s1.translate c seq cva with
      | none => .ok s1
      | some (_, d) => .ok { s1 with hbm := s1.hbm.write d b }
    | none =>
      match s.cowFrame c seq cva with
      | .error e => .error e
      | .ok (s1, new) =>
        let k := ((s1.frame f).map (·.k)).getD 0
        let s2 := (s1.copyFrame f new k).cowRemap c seq cva new
        match s2.translate c seq cva with
        | none => .ok s2
        | some (_, d) => .ok { s2 with hbm := s2.hbm.write d b }

/-- A block write of bytes. -/
def State.writeCvaN (s : State) (c : Nat) (seq : Option Nat) (cva : Nat) : List Byte → Except Status State
  | [] => .ok s
  | b :: bs =>
    match s.writeCva c seq cva b with
    | .error e => .error e
    | .ok s' => State.writeCvaN s' c seq (cva + 1) bs

/-- A write by the module itself of a record or ring entry; what cannot be stored is dropped. -/
def State.storeCva (s : State) (c : Nat) (cva : Nat) (bs : List Byte) : State :=
  match s.writeCvaN c none cva bs with
  | .ok s' => s'
  | .error _ => s

/-- Every byte of a CVA range is mapped. -/
def State.cvaMapped (s : State) (c cva len : Nat) : Bool :=
  if len = 0 then true
  else decide (cva + len ≤ 2 ^ 38) &&
    allPages 1 ((cva + len - 1) / granule - cva / granule + 1) (cva / granule) fun g => (s.mapAt c g).isSome

/-- What a command or entry is answered whose record, descriptor or table cannot be read: NOT_MAPPED, or JOB_FAULT where a mapped byte of it delivers poison (R36). [DEDUCED, unsafe, log entry 80] -/
def State.readFault (s : State) (c cva n : Nat) : Status := if s.cvaMapped c cva n then stJobFault else stNotMapped

/-- Fields of a page command record (Table 4-3). -/
def recTag (r : BitVec 256) : Nat := (r.extractLsb' 192 32).toNat
def recCva2 (r : BitVec 256) : Nat := (r.extractLsb' 128 64).toNat
def recCva (r : BitVec 256) : Nat := (r.extractLsb' 64 64).toNat
def recCount (r : BitVec 256) : Nat := (r.extractLsb' 32 32).toNat
def recOpcode (r : BitVec 256) : Nat := (r.extractLsb' 24 8).toNat
def recSize (r : BitVec 256) : Nat := (r.extractLsb' 20 4).toNat
def recPlace (r : BitVec 256) : Bool := r.getLsbD 19
def recStack (r : BitVec 256) : Nat := (r.extractLsb' 16 3).toNat
def recWait (r : BitVec 256) : Bool := r.getLsbD 15
def recReserved (r : BitVec 256) : Bool := r.extractLsb' 224 32 != 0 || r.extractLsb' 0 15 != 0

/-- The zone an ALLOC names. -/
def recZone (r : BitVec 256) : Option Nat := if recPlace r then some (recStack r) else none

/-- The context of a source: a function's own. -/
def PageSrcFn : PageSrc → Nat
  | .regs fn => fn
  | .ring fn _ => fn

/-- The faults of R155. Only SHARE uses CVA2, so only SHARE is judged on it (R154, Table 4-3). -/
def recBad (l : Nat) (r : BitVec 256) : Bool :=
  let size := 2 ^ recSize r * granule
  recOpcode r == 0 || decide (8 < recOpcode r) || recReserved r || decide (12 < recSize r) ||
    recCva r % size != 0 || (recOpcode r == 3 && recCva2 r % size != 0) ||
    (recOpcode r == 1 && recPlace r && (zoneRange l (some (recStack r))).1 == (zoneRange l (some (recStack r))).2) ||
    (recOpcode r == 7 && recCount r != 1)

/-- The extent check of R154. -/
def recBeyond (r : BitVec 256) : Bool :=
  let n := recCount r * 2 ^ recSize r * granule
  decide (2 ^ 38 < recCva r + n) || (recOpcode r == 3 && decide (2 ^ 38 < recCva2 r + n))

/-- The first four checks of R156: a status that ends the command, or none when its row's own refusals follow. -/
def State.judgePage (s : State) (c : PmCmd) : Option Status :=
  if !s.ctxLive (PageSrcFn c.src) c.gen then some stCtxGone
  else if recBad s.pm.localGib c.record then some stBadPageCommand
  else if recCount c.record = 0 then some stOk
  else if recBeyond c.record then some stLengthBounds
  else none

/-- What executing a page command answers: the state and, unless it goes on in the fill engine or waits, its status and result. -/
structure PageAnswer where
  state : State
  status : Option Status
  result : BitVec 64

/-- A refused command has no effect (R156). -/
def State.pageRefuse (s : State) (st : Status) : PageAnswer := ⟨s, some st, 0⟩

/-- First CVA granule of a record. -/
def recGran (r : BitVec 256) : Nat := recCva r / granule

/-- Every page of the range is mapped with the named size. -/
def State.rangePages (s : State) (c : PmCmd) : Bool :=
  allPages (2 ^ recSize c.record) (recCount c.record) (recGran c.record) fun g =>
    (s.pageAt (PageSrcFn c.src) g (recSize c.record)).isSome

/-- The frame behind a page of the range. -/
def State.frameOfPage (s : State) (c g k : Nat) : Option PageFrame := (s.pageAt c g k).bind fun m => s.frame m.frame

/-- A property holds of the frame of some page of the range. -/
def State.somePage (s : State) (c : PmCmd) (p : PageFrame → Bool) : Bool :=
  !allPages (2 ^ recSize c.record) (recCount c.record) (recGran c.record) fun g =>
    match s.frameOfPage (PageSrcFn c.src) g (recSize c.record) with
    | some f => !p f
    | none => true

/-- The frames of a range of pages. -/
def State.framesIn (s : State) (c : PmCmd) : Nat → Nat → List (Nat × Nat)
  | 0, _ => []
  | n + 1, g =>
    match s.pageAt (PageSrcFn c.src) g (recSize c.record) with
    | some m => (g, m.frame) :: State.framesIn s c n (g + 2 ^ recSize c.record)
    | none => State.framesIn s c n (g + 2 ^ recSize c.record)

/-- How often a frame occurs in a range. -/
def countFrame (f : Nat) (l : List (Nat × Nat)) : Nat := (l.filter fun e => e.2 == f).length

/-- ALLOC (Table 4-4). -/
def State.pageAlloc (s : State) (c : PmCmd) : PageAnswer :=
  let fn := PageSrcFn c.src
  let r := c.record
  match s.judgePage c with
  | some st => s.pageRefuse st
  | none =>
    if s.rangeMapped fn (recGran r) (recCount r * 2 ^ recSize r) then s.pageRefuse stMapConflict
    else if !s.quotaOk fn (recCount r) (recSize r) then s.pageRefuse stQuotaExceeded
    else
      match s.allocPages fn (recZone r) (recSize r) false (recCount r) (recGran r) with
      | none => s.pageRefuse stNoMemory
      | some s' => ⟨s', some stOk, 0⟩

/-- The refusal a RELEASE meets, apart from pins (Table 4-4). -/
def State.releaseRun (s : State) (c : PmCmd) : State :=
  eachPage (2 ^ recSize c.record) (fun s g => s.unmapPage (PageSrcFn c.src) g) (recCount c.record) (recGran c.record) s

/-- RELEASE (Table 4-4, R157): with WAIT = 1 on a pinned page it joins the waiting ones. -/
def State.pageRelease (s : State) (c : PmCmd) : PageAnswer :=
  match s.judgePage c with
  | some st => s.pageRefuse st
  | none =>
    if !s.rangePages c then s.pageRefuse stNotMapped
    else if s.somePage c fun f => decide (0 < f.pins) then
      if recWait c.record then ⟨{ s with pm := { s.pm with waits := s.pm.waits ++ [c] } }, none, 0⟩
      else s.pageRefuse stPageBusy
    else ⟨s.releaseRun c, some stOk, 0⟩

/-- SHARE (Table 4-4). -/
def State.pageShare (s : State) (c : PmCmd) : PageAnswer :=
  let fn := PageSrcFn c.src
  let r := c.record
  let pages := s.framesIn c (recCount r) (recGran r)
  match s.judgePage c with
  | some st => s.pageRefuse st
  | none =>
    if !s.rangePages c then s.pageRefuse stNotMapped
    else if s.rangeMapped fn (recCva2 r / granule) (recCount r * 2 ^ recSize r) then s.pageRefuse stMapConflict
    else if s.somePage c fun f => f.spec then s.pageRefuse stSpecPage
    else if pages.any fun e => decide (65535 < s.refsOf e.2 + countFrame e.2 pages) then s.pageRefuse stRefLimit
    else
      let share (s : State) (e : Nat × Nat) : State :=
        (s.mapPage fn (e.1 - recGran r + recCva2 r / granule) e.2 (recSize r)).addRef e.2
      ⟨pages.foldl share s, some stOk, 0⟩

/-- Take a private frame for each shared page of a list and queue its copy. [DESIGN CHOICE, unsafe, log entry 84] -/
def State.queueCopies (s : State) (c : PmCmd) : List (Nat × Nat) → Option State
  | [] => some s
  | (g, f) :: rest =>
    let fn := PageSrcFn c.src
    let k := recSize c.record
    let zone := if isLocal s.pm.localGib f then some (stackOf s.pm.localGib f) else none
    match s.takeFrame (.ctx fn (s.ctx fn).gen) zone k 1 false with
    | none => none
    | some (s', new) =>
      State.queueCopies { s' with pm := { s'.pm with copies := s'.pm.copies ++ [⟨f, new, k, .copy c.src fn g⟩] } } c rest

/-- COPY (Table 4-4): it completes when its copies are done (R159). -/
def State.pageCopy (s : State) (c : PmCmd) : PageAnswer :=
  let fn := PageSrcFn c.src
  let r := c.record
  let shared := (s.framesIn c (recCount r) (recGran r)).filter fun e => decide (1 < s.refsOf e.2)
  match s.judgePage c with
  | some st => s.pageRefuse st
  | none =>
    if !s.rangePages c then s.pageRefuse stNotMapped
    else if s.somePage c fun f => f.spec then s.pageRefuse stSpecPage
    else if !s.quotaOk fn shared.length (recSize r) then s.pageRefuse stQuotaExceeded
    else
      match s.queueCopies c shared with
      | none => s.pageRefuse stNoMemory
      | some s' =>
        if shared.isEmpty then ⟨s', some stOk, 0⟩
        else ⟨{ s' with pm := { s'.pm with work := s'.pm.work ++ [⟨c, shared.length⟩] } }, none, 0⟩

/-- PIN (Table 4-4). -/
def State.pagePin (s : State) (c : PmCmd) : PageAnswer :=
  let r := c.record
  let pages := s.framesIn c (recCount r) (recGran r)
  match s.judgePage c with
  | some st => s.pageRefuse st
  | none =>
    if !s.rangePages c then s.pageRefuse stNotMapped
    else if pages.any fun e => decide (255 < ((s.frame e.2).map (·.pins)).getD 0 + countFrame e.2 pages) then s.pageRefuse stRefLimit
    else ⟨pages.foldl (fun s e => s.modFrame e.2 fun p => { p with pins := p.pins + 1 }) s, some stOk, 0⟩

/-- UNPIN (Table 4-4). -/
def State.pageUnpin (s : State) (c : PmCmd) : PageAnswer :=
  let r := c.record
  let pages := s.framesIn c (recCount r) (recGran r)
  match s.judgePage c with
  | some st => s.pageRefuse st
  | none =>
    if !s.rangePages c then s.pageRefuse stNotMapped
    else if pages.any fun e => decide (((s.frame e.2).map (·.pins)).getD 0 < countFrame e.2 pages) then s.pageRefuse stBadPageCommand
    else ⟨pages.foldl (fun s e => (s.modFrame e.2 fun p => { p with pins := p.pins - 1 }).settleFrame e.2) s, some stOk, 0⟩

/-- The attributes of a page (Table 4-13). -/
def queryResult (l f : Nat) (p : PageFrame) : BitVec 64 :=
  let place := if isLocal l f then 1 else 0
  BitVec.ofNat 64 (p.refs * 2 ^ 48 + p.pins * 2 ^ 40 + p.k * 2 ^ 36 + place * 2 ^ 35 +
    (if isLocal l f then stackOf l f else 0) * 2 ^ 32 + (if p.spec then 1 else 0) * 2 ^ 31)

/-- QUERY (Table 4-4). -/
def State.pageQuery (s : State) (c : PmCmd) : PageAnswer :=
  match s.judgePage c with
  | some st => s.pageRefuse st
  | none =>
    match s.pageAt (PageSrcFn c.src) (recGran c.record) (recSize c.record) with
    | none => s.pageRefuse stNotMapped
    | some m =>
      match s.frame m.frame with
      | none => s.pageRefuse stNotMapped
      | some p => ⟨s, some stOk, queryResult s.pm.localGib m.frame p⟩

/-- Replace each shared page of a list by a new zeroed one (ZERO). [DESIGN CHOICE, unsafe, log entry 84] -/
def State.zeroShared (s : State) (c : PmCmd) : List (Nat × Nat) → Option State
  | [] => some s
  | (g, f) :: rest =>
    let fn := PageSrcFn c.src
    let k := recSize c.record
    let zone := if isLocal s.pm.localGib f then some (stackOf s.pm.localGib f) else none
    match s.takeFrame (.ctx fn (s.ctx fn).gen) zone k 1 false with
    | none => none
    | some (s', new) => State.zeroShared (s'.remapPage fn g k new f) c rest

/-- ZERO (Table 4-4): pages with a count of 1 are zero-filled by the fill engine, shared ones replaced. -/
def State.pageZero (s : State) (c : PmCmd) : PageAnswer :=
  let fn := PageSrcFn c.src
  let r := c.record
  let pages := s.framesIn c (recCount r) (recGran r)
  let shared := pages.filter fun e => decide (1 < s.refsOf e.2)
  let own := pages.filter fun e => !decide (1 < s.refsOf e.2)
  match s.judgePage c with
  | some st => s.pageRefuse st
  | none =>
    if !s.rangePages c then s.pageRefuse stNotMapped
    else if !s.quotaOk fn shared.length (recSize r) then s.pageRefuse stQuotaExceeded
    else
      match s.zeroShared c shared with
      | none => s.pageRefuse stNoMemory
      | some s' =>
        let fills := own.map fun e => (⟨e.2, .zero c.src⟩ : FillItem)
        if own.isEmpty then ⟨s', some stOk, 0⟩
        else ⟨{ s' with pm := { s'.pm with fills := s'.pm.fills ++ fills, work := s'.pm.work ++ [⟨c, own.length⟩] } }, none, 0⟩

/-- The oldest command of a source that has reached the page manager, and the rest (R158). A command behind a waiting RELEASE of its source on the same range stays (R157). -/
def takeFirst {α : Type} (p : α → Bool) : List α → Option (α × List α)
  | [] => none
  | x :: xs => if p x then some (x, xs) else (takeFirst p xs).map fun r => (r.1, x :: r.2)

/-- Two commands of one source touch a common page. -/
def cmdsOverlap (a b : PmCmd) : Bool :=
  a.src == b.src &&
    (overlaps (recGran a.record) (recCount a.record * 2 ^ recSize a.record) (recGran b.record) (recCount b.record * 2 ^ recSize b.record) ||
     (recOpcode b.record == 3 &&
       overlaps (recGran a.record) (recCount a.record * 2 ^ recSize a.record) (recCva2 b.record / granule) (recCount b.record * 2 ^ recSize b.record)))

/-- The next command of a source with this opcode may execute now: it is the source's oldest, and no waiting RELEASE of the source holds its range (R157, R158). [DEDUCED, unsafe, log entry 25] -/
def State.nextPageCmd (s : State) (src : PageSrc) (opcode : Nat) : Option (PmCmd × List PmCmd) :=
  match takeFirst (fun c => c.src == src) s.pm.queue with
  | none => none
  | some (c, rest) =>
    if recOpcode c.record = opcode ∧ s.pm.waits.all (fun w => !cmdsOverlap w c) then some (c, rest) else none

/-- The key of a command path. -/
def pathKey (kind fn : Nat) : Nat := kind * 16 + fn

/-- A command path's registers. -/
def State.path (s : State) (kind fn : Nat) : CmdPath := s.paths.valAt .reset (pathKey kind fn)

/-- A command of a path completes: SEQ counts up, STATUS is stored, BUSY ends (Tables 4-11 and 4-12). -/
def State.pathDone (s : State) (kind fn : Nat) (st : Status) (result : Option (BitVec 64)) : State :=
  let p := s.path kind fn
  let p' := { p with busy := false, seq := p.seq + 1, status := st, result := result.getD p.result }
  { s with paths := s.paths.setAt .reset (pathKey kind fn) p' }

/-- GO of a path (R184): while BUSY it is ignored and sets OVERRUN; otherwise BUSY is set and the answer is true. -/
def State.pathGo (s : State) (kind fn : Nat) : State × Bool :=
  let p := s.path kind fn
  if p.busy then ({ s with paths := s.paths.setAt .reset (pathKey kind fn) { p with overrun := true } }, false)
  else ({ s with paths := s.paths.setAt .reset (pathKey kind fn) { p with busy := true } }, true)

/-- ⌊log₂ |x|⌋ of a finite non-zero value (ex of R178). -/
def exOf : Val → Int
  | .fin _ m e => (Nat.log2 m : Int) + e
  | _ => 0

/-- The largest ex over the non-zero values, if any is non-zero (R178). -/
def maxEx (vs : List Val) : Option Int :=
  (vs.filter fun v => !v.isZero).foldl (fun a v => match a with | none => some (exOf v) | some x => some (max x (exOf v))) none

/-- Cut a list into pieces of `n` elements, at most `fuel` of them. -/
def chunks {α : Type} (n : Nat) : Nat → List α → List (List α)
  | 0, _ => []
  | fuel + 1, l => if l.isEmpty then [] else l.take n :: chunks n fuel (l.drop n)

/-- Code a block of 64 values with m magnitude bits into one integer (R178, R181). A block whose largest value lies below 2^−127 takes E = 0, the least value the byte holds, and is coded with that exponent, so that R180 holds. [DESIGN CHOICE, unsafe, log entry 82] -/
def ceEncode (m : Nat) (vs : List Val) : Nat :=
  let hi := if m = 6 then 504 else 248
  let sh := if m = 6 then 480 else 224
  let nb := if m = 6 then 472 else 216
  if vs.any (fun v => !v.isFinite) then 2 ^ nb
  else
    match maxEx vs with
    | none => (List.range 8).foldl (fun a j => a + 7 * 2 ^ (sh + 3 * j)) 0 +
        (List.range vs.length).foldl (fun a i => a + (if (vs[i]?.getD Val.zero).sign then 2 ^ ((m + 1) * i + m) else 0)) 0
    | some top0 =>
      let top := max top0 (-127)
      let subs := chunks 8 8 vs
      let shift (sub : List Val) : Nat := match maxEx sub with | none => 7 | some x => min 7 (top - x).toNat
      let code (d : Nat) (v : Val) : Nat :=
        let qe : Int := top - d + 1 - m
        let k := min (shiftRound .rne v.mag.1 (v.mag.2 - qe)) (2 ^ m - 1)
        (if v.sign then 2 ^ m else 0) + k
      let shifts := subs.map shift
      let codes := (subs.zip shifts).flatMap fun p => p.1.map (code p.2)
      (top + 127).toNat * 2 ^ hi +
        (shifts.zipIdx.foldl (fun a p => a + p.1 * 2 ^ (sh + 3 * p.2)) 0) +
        (codes.zipIdx.foldl (fun a p => a + p.1 * 2 ^ ((m + 1) * p.2)) 0)

/-- The value of element i of a compressed block (R179, R181); a NaN block decodes as NaNs. -/
def ceDecode (m : Nat) (block i : Nat) : Val :=
  let hi := if m = 6 then 504 else 248
  let sh := if m = 6 then 480 else 224
  let nb := if m = 6 then 472 else 216
  if bitOf block nb then .nan
  else
    let e := bitsOf block (hi + 7) hi
    let d := bitsOf block (sh + 3 * (i / 8) + 2) (sh + 3 * (i / 8))
    let c := bitsOf block ((m + 1) * i + m) ((m + 1) * i)
    .fin (decide (2 ^ m ≤ c)) (c % 2 ^ m) ((e : Int) - 127 - d + 1 - m)

end Sys2Proof.Machine
end

