-- ==== Sys2Proof/Machine/Operands.lean ====
section
/-! DEFINITION. Tensor operands: descriptors and their planes, layouts, extents, element access and element writes (05 R190 to R194, 03 R101 to R109 and R128, 04 R164 and R177, 06 R233 and R234, 07 R271 to R274). -/

namespace Sys2Proof.Machine

/-- A tensor descriptor as it lies in memory (Table 5-4). -/
abbrev TDesc := BitVec 2048

/-- A field of a tensor descriptor: bits `lo + n − 1` to `lo`. -/
def tField (t : TDesc) (lo n : Nat) : Nat := (t.extractLsb' lo n).toNat

def tFormatCode (t : TDesc) : Nat := tField t 0 8
def tRank (t : TDesc) : Nat := tField t 36 4
def tLayout (t : TDesc) : Nat := tField t 40 4
def tKind (t : TDesc) : Nat := tField t 44 2
def tCompress (t : TDesc) : Nat := tField t 46 2
def tSparse (t : TDesc) : Bool := t.getLsbD 48
def tScaleMode (t : TDesc) : Nat := tField t 50 2
def tCscaleDim (t : TDesc) : Nat := tField t 52 4
def tDim (t : TDesc) (d : Nat) : Nat := tField t (128 + 32 * d) 32
def tBase (t : TDesc) : Nat := tField t 320 64
def tBufBytes (t : TDesc) : Nat := tField t 384 64
def tStride (t : TDesc) (d : Nat) : Nat := tField t (448 + 64 * (d - 1)) 64
def tScaleBase (t : TDesc) : Nat := tField t 768 64
def tScaleBytes (t : TDesc) : Nat := tField t 832 64
def tScaleStride (t : TDesc) (d : Nat) : Nat := tField t (896 + 64 * (d - 1)) 64
def tMetaBase (t : TDesc) : Nat := tField t 1216 64
def tMetaBytes (t : TDesc) : Nat := tField t 1280 64
def tMetaStride (t : TDesc) (d : Nat) : Nat := tField t (1344 + 64 * (d - 1)) 64
def tCscaleBytes (t : TDesc) : Nat := tField t 1664 32
def tTscale (t : TDesc) : BitVec 32 := t.extractLsb' 1696 32
def tCscaleBase (t : TDesc) : Nat := tField t 1728 64

/-- A reserved field of the descriptor is not 0 (Table 5-4). -/
def tReserved (t : TDesc) : Bool :=
  tField t 1792 256 != 0 || tField t 56 72 != 0 || tField t 49 1 != 0 || tField t 8 28 != 0

/-- The format, for a descriptor that passed step 7. -/
def tFmt (t : TDesc) : Fmt := (Fmt.ofCode (tFormatCode t)).getD .fp32

/-- The logical extents DIM0 to DIM(RANK − 1). -/
def tDims (t : TDesc) : List Nat := (List.range (tRank t)).map (tDim t)

/-- Channels per block of a blocked layout (R271). -/
def tCb (t : TDesc) : Nat := if tLayout t = 1 then 16 else 32

/-- The extents as they are stored: those of the blocked shape for LAYOUT 1 and 2 (R273). -/
def tStored (t : TDesc) : List Nat :=
  if tLayout t = 0 then tDims t
  else [tCb t, tDim t 1, tDim t 2, ceilDiv (tDim t 0) (tCb t), tDim t 3]

/-- Stored values per row (R193 ks). -/
def tRowVals (t : TDesc) : Nat :=
  let k := (tStored t).headD 1
  let kp := if (tFmt t).isMx then roundUp k 32 else k
  if tSparse t then 2 * ceilDiv kp 4 else kp

/-- K padded to MX blocks (R193 kp). -/
def tKp (t : TDesc) : Nat :=
  let k := (tStored t).headD 1
  if (tFmt t).isMx then roundUp k 32 else k

/-- Bytes of a row of the element plane. -/
def tRowBytes (t : TDesc) : Nat := ceilDiv (tRowVals t * (tFmt t).bits) 8

/-- Bytes of a compressed block (Table 4-7). -/
def tBlockBytes (t : TDesc) : Nat := if tCompress t = 1 then 64 else 32

/-- Extent of a plane: its row and the strides of the outer dimensions (R193). -/
def planeExt (row : Nat) (stored : List Nat) (stride : Nat → Nat) : Nat :=
  row + ((List.range (stored.length - 1)).map fun i => ((stored[i + 1]?).getD 1 - 1) * stride (i + 1)).sum

/-- Element extent (R193). -/
def tElemExtent (t : TDesc) : Nat :=
  if tCompress t ≠ 0 then ceilDiv ((tDims t).foldl (· * ·) 1) 64 * tBlockBytes t
  else planeExt (tRowBytes t) (tStored t) (tStride t)

/-- MX scale plane extent (R193). -/
def tScaleExtent (t : TDesc) : Nat := planeExt (ceilDiv (tKp t) 32) (tStored t) (tScaleStride t)

/-- Metadata plane extent (R193). -/
def tMetaExtent (t : TDesc) : Nat := planeExt (2 * ceilDiv (ceilDiv (tKp t) 4) 4) (tStored t) (tMetaStride t)

/-- Per-channel scale vector extent (R193), in the blocked shape for LAYOUT 1 and 2 (R273). [DESIGN CHOICE, unsafe, log entry 82] -/
def tCscaleExtent (t : TDesc) : Nat := 4 * ((tStored t)[tCscaleDim t]?).getD 0

/-- A tensor as one run sees it: descriptor with the bases of the run (R199, R215). -/
structure TView where
  t : TDesc
  base : Nat
  scale : Nat
  metap : Nat
  cscale : Nat
  deriving DecidableEq, Repr

/-- Who accesses memory: context and admission (R163). -/
structure Access where
  ctx : Nat
  seq : Option Nat
  deriving DecidableEq, Repr

/-- Read `n` bytes as a little-endian number: none where a byte is not mapped (poison, R164). -/
def State.readLe (s : State) (a : Access) (cva n : Nat) : Option Nat := (s.readCvaN a.ctx a.seq cva n).map leNat

/-- Offset of an index vector under strides, dimension 1 upwards. -/
def strideSum (stride : Nat → Nat) (idx : List Nat) : Nat :=
  (idx.drop 1).zipIdx.foldl (fun acc p => acc + p.1 * stride (p.2 + 1)) 0

/-- The stored index of a logical one: (c mod cb, x, y, ⌊c / cb⌋, n) in a blocked layout (R271). -/
def storedIdx (t : TDesc) (idx : List Nat) : List Nat :=
  if tLayout t = 0 then idx
  else
    let c := idx.headD 0
    [c % tCb t, (idx[1]?).getD 0, (idx[2]?).getD 0, c / tCb t, (idx[3]?).getD 0]

/-- Linear index of an element, dimension 0 innermost (R177, R297). -/
def linearIdx : List Nat → List Nat → Nat
  | d :: ds, i :: is => i + d * linearIdx ds is
  | _, _ => 0

/-- Bits of one element of `bits` bits at bit offset `off` from a byte address. -/
def State.readBits (s : State) (a : Access) (cva off bits : Nat) : Option Nat :=
  let lo := off / 8
  let hi := (off + bits - 1) / 8
  (s.readLe a (cva + lo) (hi - lo + 1)).map fun v => v / 2 ^ (off % 8) % 2 ^ bits

/-- The element code at stored position k of a row (no sparsity). -/
def State.rowCode (s : State) (a : Access) (v : TView) (idx : List Nat) (k : Nat) : Option Nat :=
  s.readBits a (v.base + strideSum (tStride v.t) idx) (k * (tFmt v.t).bits) (tFmt v.t).bits

/-- The MX scale byte of an element (R105). -/
def State.mxScale (s : State) (a : Access) (v : TView) (idx : List Nat) : Option Nat :=
  s.readLe a (v.scale + strideSum (tScaleStride v.t) idx + idx.headD 0 / 32) 1

/-- What reading an operand element gives. -/
inductive Elem where
  /-- A value. -/
  | val (v : Val)
  /-- A position that 2:4 pruning or padding leaves out: no term. -/
  | absent
  /-- Poison: an unmapped CVA (R164) or an invalid metadata nibble (R129). -/
  | poison
  deriving DecidableEq, Repr

/-- An element value before any scale (R95, R100, R179). -/
def State.elem (s : State) (a : Access) (v : TView) (logical : List Nat) : Elem :=
  let t := v.t
  let idx := storedIdx t logical
  if tCompress t ≠ 0 then
    let i := linearIdx (tDims t) logical
    match s.readLe a (v.base + i / 64 * tBlockBytes t) (tBlockBytes t) with
    | none => .poison
    | some b =>
      match (tFmt t).fp with
      | some p =>
        match ceDecode (if tCompress t = 1 then 6 else 2) b (i % 64) with
        | .fin n m e => let r := p.roundMag .rne m e; .val (if p.overflows r then .inf n else .fin n r.1 r.2)
        | v => .val v
      | none => .poison
  else if tSparse t then
    let k := idx.headD 0
    let g := k / 4
    match s.readLe a (v.metap + strideSum (tMetaStride t) idx + g / 4 * 2) 2 with
    | none => .poison
    | some w =>
      match nibblePair (w / 2 ^ (4 * (g % 4)) % 16) with
      | none => .poison
      | some (i0, i1) =>
        let pos := if k % 4 = i0 then some (2 * g) else if k % 4 = i1 then some (2 * g + 1) else none
        match pos with
        | none => .absent
        | some p =>
          match s.rowCode a v idx p with
          | none => .poison
          | some c => .val ((tFmt t).elemVal c)
  else
    match s.rowCode a v idx (idx.headD 0) with
    | none => .poison
    | some c => .val ((tFmt t).elemVal c)

/-- The per-tensor or per-channel scale of an element, 1.0 when absent (R101); none is poison. [DESIGN CHOICE, unsafe, log entry 82] -/
def State.scaleOf (s : State) (a : Access) (v : TView) (logical : List Nat) : Option Val :=
  match tScaleMode v.t with
  | 1 => some (decode32 (tTscale v.t))
  | 2 => (s.readLe a (v.cscale + 4 * ((storedIdx v.t logical)[tCscaleDim v.t]?).getD 0) 4).map fun b => decode32 (BitVec.ofNat 32 b)
  | _ => some Val.one

/-- A value with the flags of reading it; none is poison. -/
abbrev Read := Option (Val × NumFlags)

/-- NAN_IN for a NaN that was read (Table 3-9). -/
def nanIn (v : Val) : NumFlags := if v.isNan then flagNanIn else 0

/-- An element converted to FP32 before use on a VB (R233): an integer without a scale is rounded too, its scale being 1.0 (R101). An MX value that exceeds FP32 becomes an infinity and sets no flag here. [DESIGN CHOICE, unsafe, log entry 82] -/
def State.readF32 (s : State) (a : Access) (v : TView) (logical : List Nat) : Read :=
  let t := v.t
  match s.elem a v logical with
  | .poison => none
  | .absent => some (Val.zero, 0)
  | .val x =>
    let scaled (x : Val) (f : NumFlags) : Read :=
      if tScaleMode t = 0 then some (round32 x, f)
      else
        match s.scaleOf a v logical with
        | none => none
        | some sc => let r := fmul x sc; some (r.1, f ||| nanIn sc ||| r.2)
    if (tFmt t).isMx then
      match s.mxScale a v (storedIdx t logical) with
      | none => none
      | some b =>
        let e := e8m0Val b
        scaled (round32 (x.mul e)) (nanIn x ||| nanIn e)
    else scaled x (nanIn x)

/-- One output element: its code, or poison. -/
abbrev OutElem := Option Nat

/-- Pack the codes of a row into bytes; a byte that holds a poisoned element is not written (R164). -/
def packRow (bits : Nat) (codes : List OutElem) : List (Option Byte) :=
  let val : Nat := codes.zipIdx.foldl (fun (acc : Nat) p => acc + p.1.getD 0 * 2 ^ (bits * p.2)) 0
  let bad : Nat := codes.zipIdx.foldl (fun (acc : Nat) p => acc + (if p.1.isNone then (2 ^ bits - 1) * 2 ^ (bits * p.2) else 0)) 0
  let n := ceilDiv (bits * codes.length) 8
  (List.range n).map fun j =>
    if bad / 2 ^ (8 * j) % 256 = 0 then some (BitVec.ofNat 8 (val / 2 ^ (8 * j))) else none

/-- Write the bytes of a row that are not poisoned, with copy-on-write (R161, R162). -/
def State.writeRow (s : State) (a : Access) (cva : Nat) : List (Option Byte) → Except Status State
  | [] => .ok s
  | none :: bs => State.writeRow s a (cva + 1) bs
  | some b :: bs =>
    match s.writeCva a.ctx a.seq cva b with
    | .error e => .error e
    | .ok s' => State.writeRow s' a (cva + 1) bs

/-- All index vectors of the given extents, dimension 0 fastest. -/
def allIdx : List Nat → List (List Nat)
  | [] => [[]]
  | d :: ds => (allIdx ds).flatMap fun rest => (List.range d).map fun i => i :: rest

/-- What an operator's element function gives: an FP32 value with flags, or poison. -/
abbrev ElemFn := List Nat → Read

/-- The output conversion of one element (R234): divided by the descriptor's scale, then R110 to R117. -/
def State.scaleOut (s : State) (a : Access) (v : TView) (idx : List Nat) (y : Read) : Read :=
  match y with
  | none => none
  | some (x, f) =>
    if tScaleMode v.t = 0 then some (x, f)
    else
      match s.scaleOf a v idx with
      | none => none
      | some sc => let r := fdiv x sc; some (r.1, f ||| nanIn sc ||| r.2)

/-- How an operator ends over its output tensors: the state, the flags set, and whether poison or a page failure met it. -/
structure OpResult where
  state : State
  flags : NumFlags
  poison : Bool
  fail : Option Status

/-- The codes of a stored row, with the MX scale bytes beside them. -/
structure RowOut where
  codes : List OutElem
  scales : List OutElem
  flags : NumFlags
  poison : Bool

/-- One MX block of a row (R117): `valid` elements lie at k < K. -/
def mxRowBlock (p : FpFmt) (rnd : Rnd) (sat1 : Bool) (valid : Nat) (vals : List Read) : RowOut :=
  if (vals.take valid).any Option.isNone then ⟨vals.map fun _ => none, [none], 0, true⟩
  else
    let vs := vals.map fun r => (r.map (·.1)).getD Val.zero
    let fl := (vals.take valid).foldl (fun f r => f ||| (r.map (·.2)).getD 0) 0
    let b := mxBlock p rnd sat1 valid vs
    ⟨b.2.1.map some, [some b.1], fl ||| b.2.2, false⟩

/-- Convert one stored row of values into codes (R110 to R117). -/
def convertRow (f : Fmt) (rnd : Rnd) (sat1 : Bool) (valid : Nat) (vals : List Read) : RowOut :=
  if f.isMx then
    match f.fp with
    | none => ⟨[], [], 0, false⟩
    | some p =>
      let blocks := (chunks 32 vals.length vals).zipIdx.map fun b => mxRowBlock p rnd sat1 (min 32 (valid - 32 * b.2)) b.1
      blocks.foldl (fun acc b => ⟨acc.codes ++ b.codes, acc.scales ++ b.scales, acc.flags ||| b.flags, acc.poison || b.poison⟩) ⟨[], [], 0, false⟩
  else
    let one (r : Read) (i : Nat) : OutElem × NumFlags :=
      match r with
      | none => if i < valid then (none, 0) else (some 0, 0)
      | some (v, fl) => if i < valid then (let c := convertVal f rnd sat1 v; (some c.1, fl ||| c.2)) else (some 0, 0)
    let cs := vals.zipIdx.map fun p => one p.1 p.2
    ⟨cs.map (·.1), [], cs.foldl (fun fl c => fl ||| c.2) 0, (cs.take valid).any fun c => c.1.isNone⟩

/-- Write one stored row of an uncompressed output (with its MX scale bytes). -/
def State.storeRow (s : State) (a : Access) (v : TView) (outer : List Nat) (r : RowOut) : Except Status State :=
  let idx := 0 :: outer
  match s.writeRow a (v.base + strideSum (tStride v.t) idx) (packRow (tFmt v.t).bits r.codes) with
  | .error e => .error e
  | .ok s1 => s1.writeRow a (v.scale + strideSum (tScaleStride v.t) idx) (packRow 8 r.scales)

/-- The logical index of a stored position, and whether it lies inside the logical extents (R274 tail positions do not). -/
def logicalIdx (t : TDesc) (k : Nat) (outer : List Nat) : List Nat × Bool :=
  if tLayout t = 0 then (k :: outer, decide (k < tDim t 0))
  else
    let c := (outer[2]?).getD 0 * tCb t + k
    ([c, (outer[0]?).getD 0, (outer[1]?).getD 0, (outer[3]?).getD 0], decide (c < tDim t 0))

/-- Write every stored row of an uncompressed output from its element function. -/
def State.storeRows (s : State) (a : Access) (v : TView) (rnd : Rnd) (sat1 : Bool) (f : ElemFn) : List (List Nat) → OpResult → OpResult
  | [], acc => acc
  | outer :: rest, acc =>
    let t := v.t
    let n := if (tFmt t).isMx then tKp t else (tStored t).headD 1
    let vals := (List.range n).map fun k =>
      let l := logicalIdx t k outer
      if l.2 then s.scaleOut a v l.1 (f l.1) else some (Val.zero, 0)
    let valid := ((List.range n).filter fun k => (logicalIdx t k outer).2).length
    let row := convertRow (tFmt t) rnd sat1 valid vals
    match acc.state.storeRow a v outer row with
    | .error e => { acc with fail := some (acc.fail.getD e), flags := acc.flags ||| row.flags, poison := acc.poison || row.poison }
    | .ok s1 => State.storeRows s a v rnd sat1 f rest ⟨s1, acc.flags ||| row.flags, acc.poison || row.poison, acc.fail⟩

/-- The value a code of a 16-bit format stands for after the output conversion (R297: the coding error follows the conversion error). -/
def State.storeBlocks (s : State) (a : Access) (v : TView) (rnd : Rnd) (sat1 : Bool) (f : ElemFn) (elems : List (List Nat)) : Nat → OpResult → OpResult
  | 0, acc => acc
  | n + 1, acc =>
    let t := v.t
    let b := ceilDiv elems.length 64 - (n + 1)
    let vals := ((elems.drop (64 * b)).take 64).map fun i => s.scaleOut a v i (f i)
    let poison := vals.any Option.isNone
    let conv := vals.map fun r => match r with
      | none => (Val.zero, (0 : NumFlags))
      | some (x, fl) => let c := convertVal (tFmt t) rnd sat1 x; ((tFmt t).elemVal c.1, fl ||| c.2)
    let flags := conv.foldl (fun fl c => fl ||| c.2) acc.flags
    let vs := conv.map (·.1) ++ List.replicate (64 - conv.length) Val.zero
    if poison then State.storeBlocks s a v rnd sat1 f elems n { acc with flags := flags, poison := true }
    else
      let code := ceEncode (if tCompress t = 1 then 6 else 2) vs
      match acc.state.writeCvaN a.ctx a.seq (v.base + b * tBlockBytes t) (leBytes (tBlockBytes t) code) with
      | .error e => { acc with flags := flags, fail := some (acc.fail.getD e) }
      | .ok s1 => State.storeBlocks s a v rnd sat1 f elems n ⟨s1, flags, acc.poison, acc.fail⟩

/-- Write a whole output tensor from its element function (R234, R274, R297). Inputs are read in the state before the operator writes. -/
def State.storeTensor (s : State) (a : Access) (v : TView) (rnd : Rnd) (sat1 : Bool) (f : ElemFn) (acc : OpResult) : OpResult :=
  if tCompress v.t ≠ 0 then
    let elems := allIdx (tDims v.t)
    s.storeBlocks a v rnd sat1 f elems (ceilDiv elems.length 64) acc
  else s.storeRows a v rnd sat1 f (allIdx ((tStored v.t).drop 1)) acc

/-- Write an INT32 index tensor exactly (R234); `none` is poison. -/
def State.storeIndex (s : State) (a : Access) (v : TView) (f : List Nat → Option Int) (acc : OpResult) : OpResult :=
  s.storeTensor a v .rne false (fun i => (f i).map fun x => (Val.ofInt x, 0)) acc

/-- A stored integer of an index or position tensor, used as it is (R234). -/
def State.readInt (s : State) (a : Access) (v : TView) (idx : List Nat) : Option Int :=
  (s.rowCode a v (storedIdx v.t idx) ((storedIdx v.t idx).headD 0)).map fun c => (tFmt v.t).intOf c

end Sys2Proof.Machine
end

