-- ==== Sys2Proof/Machine/Elementary.lean ====
section
/-! DEFINITION. The elementary functions of vector blocks and the values within so many ulp of them (06_operator_catalogue.md R235, Table 6-2). The functions are computed in fixed point with 448 fraction bits, far below the last place of FP32. -/

namespace Sys2Proof.Machine

/-- Fraction bits of the fixed-point numbers of this file. -/
abbrev fixBits : Nat := 448

/-- 1 in fixed point. -/
abbrev fixOne : Int := 2 ^ fixBits

/-- A finite value in fixed point; exact for every FP32 value. -/
def Val.toFix : Val → Int
  | .fin neg m e =>
    let a : Int := shiftRound .rtz m (e + fixBits)
    if neg then -a else a
  | _ => 0

/-- A fixed-point number times 2^`e` as a value. -/
def ofFix (x e : Int) : Val := .fin (decide (x < 0)) x.natAbs (e - fixBits)

/-- Terms x^n / n! of the exponential series. -/
def expTerms : Nat → Int → Int → Int → Int → Int
  | 0, _, _, _, acc => acc
  | fuel + 1, n, x, t, acc =>
    let t1 := t * x / (fixOne * n)
    expTerms fuel (n + 1) x t1 (acc + t1)

/-- The artanh series of z, |z| ≤ 1/3: z^(2i+1) / (2i+1). -/
def artanhTerms : Nat → Int → Int → Int → Int → Int
  | 0, _, _, _, acc => acc
  | fuel + 1, i, zz, p, acc => artanhTerms fuel (i + 2) zz (p * zz / fixOne) (acc + p / i)

/-- The arctan series of 1/k. -/
def arctanTerms : Nat → Int → Int → Int → Int → Int
  | 0, _, _, _, acc => acc
  | fuel + 1, i, k, p, acc => arctanTerms fuel (i + 2) k (-(p / (k * k))) (acc + p / i)

/-- artanh of a fixed-point number. -/
def artanhFix (z : Int) : Int := artanhTerms 150 1 (z * z / fixOne) z 0

/-- ln 2 in fixed point. -/
def lnTwo : Int := 2 * artanhFix (fixOne / 3)

/-- π in fixed point (Machin's formula). -/
def piFix : Int := 16 * arctanTerms 100 1 5 (fixOne / 5) 0 - 4 * arctanTerms 100 1 239 (fixOne / 239) 0

/-- e^x as a mantissa and a power of two. -/
def expFix (x : Int) : Int × Int :=
  let n := x.fdiv lnTwo
  (expTerms 100 1 (x - n * lnTwo) fixOne fixOne, n)

/-- e^x in fixed point, for x ≤ 0. -/
def expSmall (x : Int) : Int :=
  let r := expFix x
  r.1 / 2 ^ (-r.2).toNat

/-- ln of m · 2^e in fixed point, m > 0. -/
def lnFix (m : Nat) (e : Int) : Int :=
  let k := Nat.log2 m
  2 * artanhFix (((m : Int) - 2 ^ k) * fixOne / ((m : Int) + 2 ^ k)) + (k + e) * lnTwo

/-- The sine and cosine series: x^n / n! with alternating signs, from a first term. -/
def waveTerms : Nat → Int → Int → Int → Int → Int
  | 0, _, _, _, acc => acc
  | fuel + 1, n, xx, t, acc =>
    let t1 := -(t * xx / (fixOne * (n * (n + 1))))
    waveTerms fuel (n + 2) xx t1 (acc + t1)

/-- sin of x + `quarters` quarter turns, in fixed point. -/
def sinFix (x quarters : Int) : Int :=
  let n := (4 * x + piFix).fdiv (2 * piFix)
  let r := x - n * piFix / 2
  let rr := r * r / fixOne
  let s := waveTerms 60 2 rr r r
  let c := waveTerms 60 1 rr fixOne fixOne
  match (n + quarters) % 4 with
  | 0 => s
  | 1 => c
  | 2 => -s
  | _ => -c

/-- The terms of the erf series (−1)^n x^(2n+1) / (n! (2n+1)). -/
def erfTerms : Nat → Int → Int → Int → Int → Int
  | 0, _, _, _, acc => acc
  | fuel + 1, n, xx, t, acc =>
    let t1 := -(t * xx / (fixOne * n))
    erfTerms fuel (n + 1) xx t1 (acc + t1 / (2 * n + 1))

/-- erf in fixed point; beyond 6 it is 1 within 2^−54. -/
def erfFix (x : Int) : Int :=
  if 6 * fixOne < x then fixOne
  else if x < -(6 * fixOne) then -fixOne
  else 2 * erfTerms 280 1 (x * x / fixOne) x x * fixOne / (isqrt (piFix.toNat * 2 ^ fixBits) : Nat)

/-- |n · 2^q − v| ≤ h · 2^q. -/
def nearEnough (v : Val) (h : Nat) (n q : Int) : Bool :=
  match v with
  | .fin neg m e =>
    let t := min q e
    let d := scaledTo (decide (n < 0)) n.natAbs q t - scaledTo neg m e t
    decide (d.natAbs ≤ h * 2 ^ (q - t).toNat)
  | _ => false

/-- A step of one towards v. -/
def towards (v : Val) (n q : Int) : Int :=
  match v with
  | .fin neg m e =>
    let t := min q e
    if scaledTo (decide (n < 0)) n.natAbs q t < scaledTo neg m e t then n + 1 else n - 1
  | _ => n

/-- An FP32 value within `k` ulp of an exact value, as the choice says: n half-ulps, n within 2k of the exact value; an odd number of half-ulps that FP32 does not hold gives the neighbour nearer to the exact value. A choice of 0 is the nearest. An ulp is the last place of FP32 at the exact value. [DEDUCED, safe, log entry 21] -/
def fpNear (k choice : Nat) (v : Val) : Val :=
  match v with
  | .fin neg m e =>
    let q : Int := (if m = 0 then -149 else max ((Nat.log2 m : Int) + e) (-126) - 23) - 1
    let c : Int := shiftRound .rne m (e - q)
    let i := choice % (4 * k + 1)
    let h : Int := (i / 2 : Nat)
    let n0 : Int := (if neg then -c else c) + (if i % 2 = 0 then h else -(h + 1))
    let n1 := if nearEnough v (2 * k) n0 q then n0 else towards v n0 q
    let n := if n1 % 2 ≠ 0 ∧ (q = -150 ∨ 2 ^ 24 ≤ n1.natAbs) then towards v n1 q else n1
    round32 (.fin (if n = 0 then neg else decide (n < 0)) n.natAbs q)
  | v => v

end Sys2Proof.Machine
end

