-- ==== Sys2Proof/Machine/VecFn.lean ====
section
/-! DEFINITION. The FP32 functions of vector blocks (06_operator_catalogue.md R235, R236, Table 6-2) and the sampler's generator and draw (09_serving_engine.md R374 to R377). -/

namespace Sys2Proof.Machine

/-- The functions of Table 6-2 whose last places the spec leaves open. -/
inductive VbFn where
  | rcp | rsqrt | exp | exp2 | log | log2 | tanh | sigmoid | erf | sin | cos
  deriving DecidableEq, Repr

/-- The number of a function, the first argument of its free value. -/
def VbFn.code : VbFn → Nat
  | .rcp => 0 | .rsqrt => 1 | .exp => 2 | .exp2 => 3 | .log => 4 | .log2 => 5 | .tanh => 6
  | .sigmoid => 7 | .erf => 8 | .sin => 9 | .cos => 10

/-- A free FP32 value as a number: a NaN among the free values counts as 0. -/
def freeNumber (f : VbFn) (a : Val) : Val :=
  match decode32 (Config.vbFn f.code (encode32 a)) with
  | .nan => Val.zero
  | v => v

/-- Keep a value within [lo, hi]. -/
def clampVal (lo hi v : Val) : Val := if v.lt lo then lo else if hi.lt v then hi else v

def minusOne : Val := .fin true 1 0

/-- The accuracy in ulp (Table 6-2). -/
def VbFn.ulps : VbFn → Nat
  | .rcp | .rsqrt => 1
  | _ => 2

/-- Beyond this magnitude e^x and 2^x are far outside FP32, tanh and the logistic function far within an ulp of their limits. -/
def pastRange (x : Int) : Bool := decide (200 * fixOne < x) || decide (x < -(200 * fixOne))

/-- The exact result for a finite operand, to far below an ulp. [DEDUCED, safe, log entry 21] -/
def VbFn.exact (f : VbFn) (a : Val) : Val :=
  let x := a.toFix
  match f with
  | .rcp => Val.one.divApprox a
  | .rsqrt =>
    match a with
    | .fin neg 0 _ => .inf neg
    | a => Val.one.divApprox a.sqrtApprox
  | .exp =>
    if pastRange x then (if 0 < x then .inf false else Val.zero)
    else let r := expFix x; ofFix r.1 r.2
  | .exp2 =>
    if pastRange x then (if 0 < x then .inf false else Val.zero)
    else let n := x.fdiv fixOne; ofFix (expFix ((x - n * fixOne) * lnTwo / fixOne)).1 (n + (expFix ((x - n * fixOne) * lnTwo / fixOne)).2)
  | .log | .log2 =>
    match a with
    | .fin neg m e =>
      if m = 0 then .inf true
      else if neg then .nan
      else if f = .log then ofFix (lnFix m e) 0
      else ofFix (lnFix m e * fixOne / lnTwo) 0
    | v => v
  | .tanh =>
    if pastRange x then .fin a.sign 1 0
    else
      let t := expSmall (-2 * (x.natAbs : Int))
      let y := (fixOne - t) * fixOne / (fixOne + t)
      if y = 0 then .fin a.sign 0 0 else ofFix (if a.sign then -y else y) 0
  | .sigmoid =>
    if pastRange x then (if 0 < x then Val.one else Val.zero)
    else
      let t := expSmall (-(x.natAbs : Int))
      ofFix ((if a.sign then t else fixOne) * fixOne / (fixOne + t)) 0
  | .erf => if a.isZero then a else ofFix (erfFix x) 0
  | .sin => if a.isZero then a else ofFix (sinFix x 0) 0
  | .cos => ofFix (sinFix x 1) 0

/-- The limit of a function at an infinity. [DEDUCED, safe, log entry 21] -/
def VbFn.atInf (f : VbFn) (neg : Bool) : Val :=
  match f with
  | .rcp => .fin neg 0 0
  | .rsqrt => if neg then .nan else Val.zero
  | .exp | .exp2 => if neg then Val.zero else .inf false
  | .log | .log2 => if neg then .nan else .inf false
  | .tanh | .erf => .fin neg 1 0
  | .sigmoid => if neg then Val.zero else Val.one
  | .sin | .cos => .nan

/-- The value of a function: a free choice among the FP32 values within the ulps of Table 6-2 of the exact result, the same for the same operand (R236). A NaN, an infinity, and a 0 at an infinity are exact. Beyond 2^20 a sine or cosine is any value in [−1, 1]. [DEDUCED, safe, log entry 21] -/
def vbValue (f : VbFn) (a : Val) : Val :=
  match a with
  | .nan => .nan
  | .inf neg => f.atInf neg
  | a =>
    if (f = .sin ∨ f = .cos) ∧ 2 ^ 20 * fixOne < a.abs.toFix then clampVal minusOne Val.one (freeNumber f a)
    else fpNear f.ulps (Config.vbFn f.code (encode32 a)).toNat (f.exact a)

/-- A function with the flags of its step. -/
def vb (f : VbFn) (a : Val) : Acc := let r := vbValue f a; (r, stepFlags [a] r)

/-- An integer value, and whether it is odd. -/
def Val.intParity (v : Val) : Option Bool :=
  match v with
  | .fin _ m e =>
    match e with
    | .ofNat 0 => some (m % 2 == 1)
    | .ofNat _ => some false
    | .negSucc k => if m % 2 ^ (k + 1) = 0 then some (m / 2 ^ (k + 1) % 2 == 1) else none
  | _ => none

/-- |a|^b with the sign that an odd b gives a negative a, for finite a ≠ 0 and b. [DEDUCED, safe, log entry 21] -/
def powExact (a b : Val) : Val :=
  let neg := a.sign && b.intParity == some true
  let x := lnFix a.mag.1 a.mag.2 * b.toFix / fixOne
  if pastRange x then (if 0 < x then .inf neg else .fin neg 0 0)
  else let r := expFix x; .fin neg r.1.natAbs (r.2 - fixBits)

/-- pow under IEEE 754-2019 (Table 6-4): its special cases exact, the rest within 4 ulp (Table 6-2). [DEDUCED, safe, log entry 21] -/
def powValue (a b : Val) : Val :=
  if b.isZero || a.eqv Val.one then Val.one
  else
    match a, b with
    | .nan, _ => .nan
    | _, .nan => .nan
    | a, .inf nb =>
      match a.abs.cmp Val.one with
      | .eq => Val.one
      | .lt => if nb then .inf false else Val.zero
      | .gt => if nb then Val.zero else .inf false
    | .inf na, b =>
      let odd := b.intParity == some true
      if b.sign then .fin (na && odd) 0 0 else .inf (na && odd)
    | .fin na 0 _, b =>
      let odd := b.intParity == some true
      if b.sign then .inf (na && odd) else .fin (na && odd) 0 0
    | a, b =>
      if a.sign && b.intParity.isNone then .nan
      else fpNear 4 (Config.vbPow (encode32 a) (encode32 b)).toNat (powExact a b)

def vbPow (a b : Val) : Acc := let r := powValue a b; (r, stepFlags [a, b] r)

/-- IEEE 754-2019 minimum: NaN propagates and −0 < +0. -/
def ieeeMin (a b : Val) : Val :=
  if a.isNan || b.isNan then .nan
  else match a.cmp b with
    | .lt => a
    | .gt => b
    | .eq => if a.sign then a else b

/-- IEEE 754-2019 maximum. -/
def ieeeMax (a b : Val) : Val :=
  if a.isNan || b.isNan then .nan
  else match a.cmp b with
    | .gt => a
    | .lt => b
    | .eq => if a.sign then b else a

/-- Round to an integral value, keeping the sign of a zero. -/
def integral (f : Bool → Nat → Int → Int) (v : Val) : Val :=
  match v with
  | .fin neg m e =>
    match e with
    | .ofNat _ => v
    | .negSucc _ => let i := f neg m e; .fin neg i.natAbs 0
  | v => v

def vFloor : Val → Val := integral fun n m e => (Val.fin n m e).floorInt
def vCeil : Val → Val := integral fun n m e => -((Val.fin (!n) m e).floorInt)
def vTrunc : Val → Val := integral fun n m e => (Val.fin n m e).toIntRnd .rtz
def vRound : Val → Val := integral fun n m e => (Val.fin n m e).toIntRnd .rne

/-- One round of Philox4x32 on four 32-bit words. -/
def philoxRound (k0 k1 : Nat) (c : Nat × Nat × Nat × Nat) : Nat × Nat × Nat × Nat :=
  let p0 := 0xD2511F53 * c.1
  let p1 := 0xCD9E8D57 * c.2.2.1
  let hi0 := p0 / 2 ^ 32
  let lo0 := p0 % 2 ^ 32
  let hi1 := p1 / 2 ^ 32
  let lo1 := p1 % 2 ^ 32
  (Nat.xor (Nat.xor hi1 c.2.1) k0, lo1, Nat.xor (Nat.xor hi0 c.2.2.2) k1, lo0)

/-- Philox rounds with the key bumped between them. -/
def philoxRounds : Nat → Nat → Nat → Nat × Nat × Nat × Nat → Nat × Nat × Nat × Nat
  | 0, _, _, c => c
  | n + 1, k0, k1, c => philoxRounds n ((k0 + 0x9E3779B9) % 2 ^ 32) ((k1 + 0xBB67AE85) % 2 ^ 32) (philoxRound k0 k1 c)

/-- Output word 0 of Philox4x32-10 for (SEED, INDEX, lane) (R376). -/
def philoxWord (seed index lane : Nat) : Nat :=
  (philoxRounds 10 (seed % 2 ^ 32) (seed / 2 ^ 32 % 2 ^ 32) (index % 2 ^ 32, index / 2 ^ 32 % 2 ^ 32, lane, 0)).1

/-- The uniform variate u = (w₀ >> 8) · 2⁻²⁴ + 2⁻²⁵ (R376). -/
def uniform (seed index lane : Nat) : Val := .fin false (2 * (philoxWord seed index lane / 256) + 1) (-25)

/-- The count slot of a token (R374). -/
def tokenSlot (t : Nat) : Nat := (t * 0x9E3779B1) % 2 ^ 32 / 2 ^ 20

/-- The sampler's parameters (R375). -/
structure DrawParams where
  temperature : Val
  topK : Nat
  topP : Val
  repPen : Val
  freqPen : Val
  presPen : Val

/-- No penalty (R259). -/
def DrawParams.plain (temperature : Val) (topK : Nat) (topP : Val) : DrawParams :=
  ⟨temperature, topK, topP, Val.one, Val.zero, Val.zero⟩

/-- The penalty pass on one logit (R375). -/
def penalize (p : DrawParams) (n : Nat) (l : Val) : Val :=
  if n = 0 then l
  else
    let l1 := if Val.zero.lt l then (fdiv l p.repPen).1 else (fmul l p.repPen).1
    let l2 := (fsub l1 (fmul p.freqPen (round32 (Val.ofNat n))).1).1
    (fsub l2 p.presPen).1

/-- Insert a token into a list ordered by logit descending, ties by ascending token. -/
def insertDesc (t : Nat) (l : Val) : List (Nat × Val) → List (Nat × Val)
  | [] => [(t, l)]
  | (u, m) :: rest => if m.lt l then (t, l) :: (u, m) :: rest else (u, m) :: insertDesc t l rest

/-- The shortest leading run whose sum of weights reaches a bound. -/
def leadingRun (bound : Val) : Val → List (Nat × Val) → List (Nat × Val)
  | _, [] => []
  | acc, (t, w) :: rest =>
    let acc' := (fadd acc w).1
    if bound.le acc' then [(t, w)] else (t, w) :: leadingRun bound acc' rest

/-- Sum of weights in order. -/
def weightSum (ws : List (Nat × Val)) : Val := ws.foldl (fun a p => (fadd a p.2).1) Val.zero

/-- The first kept token whose running sum reaches u · W'. -/
def runningPick (bound : Val) : Val → List (Nat × Val) → Option Nat
  | _, [] => none
  | _, [(t, _)] => some t
  | acc, (t, w) :: rest =>
    let acc' := (fadd acc w).1
    if bound.le acc' then some t else runningPick bound acc' rest

/-- The lowest index with the largest element, NaN ignored (R258, R375). -/
def argmaxOf (ls : List (Nat × Val)) : Option (Nat × Val) :=
  ls.foldl (fun best p =>
    if p.2.isNan then best
    else match best with
      | none => some p
      | some b => if b.2.lt p.2 then some p else some b) none

/-- Every kept token with its weight, before the draw (R375). -/
def keptWeights (p : DrawParams) (live : List (Nat × Val)) : List (Nat × Val) :=
  let scaled := live.map fun q => (q.1, (fdiv q.2 p.temperature).1)
  let ordered := scaled.foldl (fun acc q => insertDesc q.1 q.2 acc) []
  let kept := if p.topK = 0 then ordered else ordered.take p.topK
  match kept with
  | [] => []
  | (_, top) :: _ =>
    let ws := kept.map fun q => (q.1, vbValue .exp (fsub q.2 top).1)
    if p.topP.lt Val.one then leadingRun (fmul p.topP (weightSum ws)).1 Val.zero ws else ws

/-- The logits that are not excluded, penalties applied (R375). -/
def liveLogits (p : DrawParams) (count : Nat → Nat) (ls : List Val) : List (Nat × Val) :=
  (ls.zipIdx.map fun q => (q.2, penalize p (count (tokenSlot q.2)) q.1)).filter fun q =>
    !q.2.isNan && q.2 != .inf true

/-- The token of one position (R375): none when every logit is excluded. -/
def drawToken (p : DrawParams) (count : Nat → Nat) (u : Val) (ls : List Val) : Option Nat :=
  let live := liveLogits p count ls
  let infs := live.filter fun q => q.2 == .inf false
  if !infs.isEmpty then
    let ws := infs.map fun q => (q.1, Val.one)
    runningPick (fmul u (weightSum ws)).1 Val.zero ws
  else if live.isEmpty then none
  else if p.temperature.isZero then (argmaxOf live).map (·.1)
  else
    let ws := keptWeights p live
    runningPick (fmul u (weightSum ws)).1 Val.zero ws

end Sys2Proof.Machine
end

