-- ==== Sys2Proof/Machine/MapExpr.lean ====
section
/-! DEFINITION. The expression bytecode of MAP: layout, static trace, evaluation (06_operator_catalogue.md R264 to R266, Table 6-4). -/

namespace Sys2Proof.Machine

/-- One instruction: OP, ARG, and whether its reserved bits are 0. -/
structure ExprStep where
  op : Nat
  arg : Nat
  clean : Bool
  deriving DecidableEq, Repr

/-- An expression (R264). -/
structure Expr where
  consts : List (BitVec 32)
  steps : List ExprStep
  deriving DecidableEq, Repr

/-- Read the expression of EXPR_BYTES bytes, or none where its layout breaks R264. -/
def parseExpr (bs : List Byte) : Option Expr :=
  let steps := fieldAt bs 0 1
  let consts := fieldAt bs 1 1
  if 8 ≤ bs.length ∧ 1 ≤ steps ∧ steps ≤ 64 ∧ consts ≤ 32 ∧ fieldAt bs 2 6 = 0 ∧ bs.length = 8 + 4 * consts + 4 * steps then
    some ⟨(List.range consts).map fun i => BitVec.ofNat 32 (fieldAt bs (8 + 4 * i) 4),
      (List.range steps).map fun i =>
        let o := 8 + 4 * consts + 4 * i
        ⟨fieldAt bs o 1, fieldAt bs (o + 1) 1, fieldAt bs (o + 2) 2 == 0⟩⟩
  else none

/-- Pops, pushes and the minor version of an opcode (Table 6-4). -/
def exprShape : Nat → Option (Nat × Nat × Nat)
  | 0x01 | 0x02 => some (0, 1, 0)
  | 0x03 => some (0, 1, 1)
  | 0x04 => some (1, 2, 0)
  | 0x05 => some (2, 2, 0)
  | 0x06 => some (1, 0, 0)
  | 0x07 => some (2, 3, 0)
  | 0x08 => some (0, 1, 0)
  | 0x10 | 0x11 | 0x12 | 0x13 => some (2, 1, 0)
  | 0x14 => some (3, 1, 0)
  | 0x15 | 0x16 => some (2, 1, 0)
  | 0x17 | 0x18 | 0x19 | 0x1A | 0x1B | 0x1C | 0x1D | 0x1E | 0x1F => some (1, 1, 0)
  | 0x20 | 0x21 | 0x22 | 0x23 | 0x24 | 0x25 | 0x26 => some (1, 1, 0)
  | 0x27 | 0x28 => some (1, 1, 2)
  | 0x29 => some (2, 1, 2)
  | 0x30 | 0x31 | 0x32 => some (2, 1, 0)
  | 0x33 => some (3, 1, 0)
  | 0x34 => some (1, 1, 0)
  | 0x35 => some (3, 1, 0)
  | 0x36 => some (2, 1, 0)
  | _ => none

/-- ARG lies in its range (R265, Table 6-4); PICK may not reach below the stack. -/
def exprArgOk (x : Expr) (inputs rank depth : Nat) (st : ExprStep) : Bool :=
  match st.op with
  | 0x01 => decide (st.arg < inputs)
  | 0x02 => decide (st.arg < x.consts.length)
  | 0x03 => decide (st.arg < rank)
  | 0x08 => decide (st.arg < depth)
  | _ => st.arg == 0

/-- The static trace of the stack depth (R265): the final depth, or none. -/
def traceExpr (x : Expr) (minor inputs rank : Nat) : Nat → List ExprStep → Option Nat
  | depth, [] => some depth
  | depth, st :: rest =>
    match exprShape st.op with
    | none => none
    | some (pops, pushes, since) =>
      let d := depth - pops + pushes
      if since ≤ minor ∧ st.clean = true ∧ exprArgOk x inputs rank depth st = true ∧ pops ≤ depth ∧ d ≤ 16 then
        traceExpr x minor inputs rank d rest
      else none

/-- The expression meets R264 and R265. -/
def exprOk (bs : List Byte) (minor inputs outputs rank : Nat) : Bool :=
  match parseExpr bs with
  | none => false
  | some x => traceExpr x minor inputs rank 0 x.steps == some outputs

/-- Bool of a comparison. -/
def boolVal (b : Bool) : Val := if b then Val.one else Val.zero

/-- A condition value is true when it is neither ±0 nor NaN (R266). -/
def condTrue (v : Val) : Bool := !v.isNan && !v.isZero

/-- A stack entry: a value, or poison. -/
abbrev Slot := Option Val

/-- Apply an operation on values unless an operand is poison. -/
def lift1 (f : Val → Acc) (a : Slot) (fl : NumFlags) : Slot × NumFlags :=
  match a with
  | some x => let r := f x; (some r.1, fl ||| r.2)
  | none => (none, fl)

def lift2 (f : Val → Val → Acc) (a b : Slot) (fl : NumFlags) : Slot × NumFlags :=
  match a, b with
  | some x, some y => let r := f x y; (some r.1, fl ||| r.2)
  | _, _ => (none, fl)

def lift3 (f : Val → Val → Val → Acc) (a b c : Slot) (fl : NumFlags) : Slot × NumFlags :=
  match a, b, c with
  | some x, some y, some z => let r := f x y z; (some r.1, fl ||| r.2)
  | _, _, _ => (none, fl)

/-- An operation that raises no flag. -/
def quiet (v : Val) : Acc := (v, 0)

/-- Unary operations of Table 6-4. -/
def exprUnary : Nat → Val → Acc
  | 0x17, a => quiet a.neg
  | 0x18, a => quiet a.abs
  | 0x19, a => fsqrt a
  | 0x1A, a => vb .rsqrt a
  | 0x1B, a => vb .rcp a
  | 0x1C, a => quiet (vFloor a)
  | 0x1D, a => quiet (vCeil a)
  | 0x1E, a => quiet (vRound a)
  | 0x1F, a => quiet (vTrunc a)
  | 0x20, a => vb .exp a
  | 0x21, a => vb .log a
  | 0x22, a => vb .exp2 a
  | 0x23, a => vb .log2 a
  | 0x24, a => vb .tanh a
  | 0x25, a => vb .sigmoid a
  | 0x26, a => vb .erf a
  | 0x27, a => vb .sin a
  | 0x28, a => vb .cos a
  | _, a => quiet (boolVal a.isNan)

/-- Binary operations of Table 6-4: a is below b. -/
def exprBinary : Nat → Val → Val → Acc
  | 0x10, a, b => fadd a b
  | 0x11, a, b => fsub a b
  | 0x12, a, b => fmul a b
  | 0x13, a, b => fdiv a b
  | 0x15, a, b => quiet (ieeeMin a b)
  | 0x16, a, b => quiet (ieeeMax a b)
  | 0x29, a, b => vbPow a b
  | 0x30, a, b => quiet (boolVal (a.lt b))
  | 0x31, a, b => quiet (boolVal (a.le b))
  | 0x32, a, b => quiet (boolVal (a.eqv b))
  | _, a, b =>
    quiet (if b.sign && !b.isNan then a.abs.neg else a.abs)

/-- Ternary operations of Table 6-4: c is the top, b below it. -/
def exprTernary : Nat → Val → Val → Val → Acc
  | 0x14, a, b, c => ffma a b c
  | 0x33, a, b, c => quiet (if condTrue c then a else b)
  | _, x, lo, hi => quiet (ieeeMin (ieeeMax x lo) hi)

/-- One step on the stack, top first. -/
def exprStep (x : Expr) (inp : Nat → Read) (idx : List Nat) (st : ExprStep) (stk : List Slot) (fl : NumFlags) : List Slot × NumFlags :=
  match st.op, stk with
  | 0x01, stk => match inp st.arg with
    | some (v, f) => (some v :: stk, fl ||| f)
    | none => (none :: stk, fl)
  | 0x02, stk => (some (decode32 ((x.consts[st.arg]?).getD 0)) :: stk, fl)
  | 0x03, stk => (some (round32 (Val.ofNat ((idx[st.arg]?).getD 0))) :: stk, fl)
  | 0x04, a :: r => (a :: a :: r, fl)
  | 0x05, b :: a :: r => (a :: b :: r, fl)
  | 0x06, _ :: r => (r, fl)
  | 0x07, b :: a :: r => (a :: b :: a :: r, fl)
  | 0x08, stk => ((stk[st.arg]?).getD none :: stk, fl)
  | op, stk =>
    match exprShape op, stk with
    | some (1, 1, _), a :: r => let y := lift1 (exprUnary op) a fl; (y.1 :: r, y.2)
    | some (2, 1, _), b :: a :: r => let y := lift2 (exprBinary op) a b fl; (y.1 :: r, y.2)
    | some (3, 1, _), c :: b :: a :: r => let y := lift3 (exprTernary op) a b c fl; (y.1 :: r, y.2)
    | _, stk => (stk, fl)

/-- The stack at the end, bottom first, with the flags set. -/
def evalExpr (x : Expr) (inp : Nat → Read) (idx : List Nat) : List Slot × NumFlags :=
  let r := x.steps.foldl (fun (acc : List Slot × NumFlags) st => exprStep x inp idx st acc.1 acc.2) ([], 0)
  (r.1.reverse, r.2)

end Sys2Proof.Machine
end

