-- ==== Sys2Proof/Machine/TensorBlock.lean ====
section
/-! DEFINITION. The tensor blocks (03 R118 to R131): what an operator works on, one reduction and its output stage, the class of every handshake (02 R55 to R57), and MATMUL (06 R239 to R242). -/

namespace Sys2Proof.Machine

/-- Fields of an operator record (Table 5-5). -/
def opField (r : BitVec 512) (lo n : Nat) : Nat := (r.extractLsb' lo n).toNat
def opCode (r : BitVec 512) : Nat := opField r 48 16
def opInCount (r : BitVec 512) : Nat := opField r 44 4
def opOutCount (r : BitVec 512) : Nat := opField r 42 2
def opAfterValid (r : BitVec 512) : Bool := r.getLsbD 41
def opRnd (r : BitVec 512) : Rnd := if r.getLsbD 40 then .rtz else .rne
def opSat (r : BitVec 512) : Bool := r.getLsbD 39
def opIn (r : BitVec 512) (i : Nat) : Nat := opField r (432 - 16 * i) 16
def opOut (r : BitVec 512) (i : Nat) : Nat := opField r (336 - 16 * i) 16
def opAfter (r : BitVec 512) : Nat := opField r 288 32
def opAttrOffset (r : BitVec 512) : Nat := opField r 448 32
def opAttrBytes (r : BitVec 512) : Nat := opField r 480 32

/-- The input tensor IDs of a record. -/
def opIns (r : BitVec 512) : List Nat := (List.range (opInCount r)).map (opIn r)
/-- The output tensor IDs of a record. -/
def opOuts (r : BitVec 512) : List Nat := (List.range (opOutCount r)).map (opOut r)

/-- What an operator works on. -/
structure OpEnv where
  s : State
  a : Access
  rnd : Rnd
  sat : Bool
  attrs : List Byte
  exprs : List Byte
  ins : List TView
  outs : List TView
  /-- The table T of a constant-mode convolution, if it was formed at the start of the run (R283). -/
  padT : Option (List (Option (BitVec 32 × NumFlags)))

def emptyView : TView := ⟨0, 0, 0, 0, 0⟩
def OpEnv.inp (e : OpEnv) (i : Nat) : TView := (e.ins[i]?).getD emptyView
def OpEnv.out (e : OpEnv) (i : Nat) : TView := (e.outs[i]?).getD emptyView
/-- A 32-bit attribute (R238). -/
def OpEnv.u32 (e : OpEnv) (o : Nat) : Nat := fieldAt e.attrs o 4
/-- An F32 attribute. -/
def OpEnv.f32 (e : OpEnv) (o : Nat) : Val := decode32 (BitVec.ofNat 32 (e.u32 o))
/-- The free choices of one output element's reduction (R65). -/
def OpEnv.pick (e : OpEnv) (elem : Nat) (i : Nat) : Nat := e.s.pick (elem * 2 ^ 40 + i)
/-- Extent of a logical dimension of an input. -/
def OpEnv.dim (e : OpEnv) (i d : Nat) : Nat := tDim (e.inp i).t d
/-- Read an input element on a VB (R233). -/
def OpEnv.rd (e : OpEnv) (i : Nat) (idx : List Nat) : Read := e.s.readF32 e.a (e.inp i) idx
/-- The start of an operator's result. -/
def OpEnv.start (e : OpEnv) : OpResult := ⟨e.s, 0, false, none⟩
/-- Write an output from an element function. -/
def OpEnv.write (e : OpEnv) (i : Nat) (f : ElemFn) (acc : OpResult) : OpResult :=
  e.s.storeTensor e.a (e.out i) e.rnd e.sat f acc

/-- A decimal constant n / d as FP32. -/
def decVal (n d : Nat) : Val := round32 ((Val.ofNat n).divApprox (Val.ofNat d))

/-- All reads, or poison. -/
def allReads (l : List Read) : Option (List Val × NumFlags) :=
  l.foldr (fun r acc => match r, acc with
    | some (v, f), some (vs, g) => some (v :: vs, f ||| g)
    | _, _ => none) (some ([], 0))

/-- One term of a tensor-block reduction: the two elements with their MX scale bytes (0x7F without one, R121) and the number of the MX block. -/
structure Tap where
  a : Elem
  b : Elem
  sa : Option Nat
  sb : Option Nat
  blk : Nat
  deriving DecidableEq, Repr

/-- The scale byte of an operand element: 0x7F for a format without MX scaling (R121). -/
def State.tapScale (s : State) (acc : Access) (v : TView) (idx : List Nat) : Option Nat :=
  if (tFmt v.t).isMx then s.mxScale acc v (storedIdx v.t idx) else some 127

/-- A tap is poisoned. -/
def Tap.bad (t : Tap) : Bool := t.a = .poison || t.b = .poison || t.sa.isNone || t.sb.isNone

/-- The value of an element that is present. -/
def Elem.get : Elem → Val
  | .val v => v
  | _ => Val.zero

/-- Split a list into runs of equal block number. -/
def runsByBlk : List Tap → List (List Tap)
  | [] => []
  | t :: ts =>
    match runsByBlk ts with
    | (u :: us) :: rest => if u.blk = t.blk then (t :: u :: us) :: rest else [t] :: (u :: us) :: rest
    | other => [t] :: other

/-- NAN_GEN of one exact product (Table 3-9). -/
def productFlags (a b : Val) : NumFlags := stepFlags [a, b] (a.mul b) &&& flagNanGen

/-- The exact sum of a group of products with the NAN_GEN of its products and of the sum (R121, R319, Table 3-9). -/
def groupSum (g : List (Val × Val)) : Acc :=
  let prods := g.map fun p => p.1.mul p.2
  let t := exactSum prods
  (t, g.foldl (fun f p => f ||| productFlags p.1 p.2) (stepFlags prods t &&& flagNanGen))

/-- A partial sum of a tensor block before the output stage: INT32 for integer operands, else FP32 (R119 step 2). -/
inductive PartSum where
  | int (i : Int)
  | fp (v : Val)
  deriving DecidableEq, Repr

/-- The FP32 value of an accumulator (R119 step 2). -/
def PartSum.toFp : PartSum → Val
  | .int i => round32 (Val.ofInt i)
  | .fp v => v

/-- Two partial sums of one output element meet: in FP32 with RNE (R126), INT32 ones in saturating INT32 (R122, R68). [DESIGN CHOICE, unsafe, log entry 82] -/
def PartSum.join (a b : PartSum) : PartSum × NumFlags :=
  match a, b with
  | .int x, .int y => let r := satAdd32 x y; (.int r.1, r.2)
  | x, y => let r := fadd x.toFp y.toFp; (.fp r.1, r.2)

/-- What a reduction gives: poison (none), or its partial sum, if it has any term, with its flags. -/
abbrev Reduction := Option (Option PartSum × NumFlags)

/-- Two reductions of one output element combined (R126). -/
def Reduction.join (x y : Reduction) : Reduction :=
  match x, y with
  | some (some p, f), some (some q, g) => let r := p.join q; some (some r.1, f ||| g ||| r.2)
  | some (p, f), some (q, g) => some (p.or q, f ||| g)
  | _, _ => none

/-- The accumulator a reduction leaves, +0 where it has no term. -/
def Reduction.toRead (x : Reduction) : Read := x.map fun r => ((r.1.map PartSum.toFp).getD Val.zero, r.2)

/-- The reduction of a tensor block (R120 to R122) in a free order (R65, R126); poison when any operand is poisoned. -/
def reduceAcc (ints mx : Bool) (pick : Nat → Nat) (taps : List Tap) : Reduction :=
  if taps.any Tap.bad then none
  else
    let live := taps.filter fun t => t.a != .absent && t.b != .absent
    let nanFlags := live.foldl (fun f t => f ||| nanIn t.a.get ||| nanIn t.b.get |||
      (if t.sa = some 255 || t.sb = some 255 then flagNanIn else 0)) (0 : NumFlags)
    if live.isEmpty then some (none, 0)
    else if ints then
      let r := freeIntSum pick (live.map fun t => t.a.get.toIntRnd .rtz * t.b.get.toIntRnd .rtz)
      some (some (.int r.1), r.2)
    else if mx then
      let term (g : List Tap) : Val × NumFlags :=
        let p := groupSum (g.map fun t => (t.a.get, t.b.get))
        let sc := match g with
          | t :: _ => (e8m0Val (t.sa.getD 127)).mul (e8m0Val (t.sb.getD 127))
          | [] => Val.one
        (p.1.mul sc, p.2)
      let terms := (runsByBlk live).map term
      let r := freeFpSum pick (terms.map (·.1))
      some (some (.fp r.1), terms.foldl (fun f t => f ||| t.2) (nanFlags ||| r.2))
    else
      let prods := live.map fun t => (t.a.get.mul t.b.get, productFlags t.a.get t.b.get)
      let r := freeFpSum pick (prods.map (·.1))
      some (some (.fp r.1), prods.foldl (fun f t => f ||| t.2) (nanFlags ||| r.2))

/-- The accumulator of an output element whose reduction lies in one piece. -/
def reduceTaps (ints mx : Bool) (pick : Nat → Nat) (taps : List Tap) : Read := (reduceAcc ints mx pick taps).toRead

/-- The class of a handshake, or of one multiply-accumulate it carries (R55). -/
inductive HsClass where
  | zero | narrow | general
  deriving DecidableEq, Repr

/-- A value encodes zero. -/
def operandZero (v : Val) : Bool := v.isZero

/-- An operand is narrow in the format it is judged in (R56): finite, not zero, and of half width for an integer, or with a trailing significand of zeros. -/
def operandNarrow (f : Fmt) (v : Val) : Bool :=
  match f.fp, v with
  | none, .fin _ _ _ =>
    let i := v.toIntRnd .rtz
    let h : Int := 2 ^ (f.bits / 2 - 1)
    i != 0 && decide (-h ≤ i) && decide (i < h)
  | some p, .fin _ m e => m != 0 && p.codeOf (p.roundMag .rne m e) % 2 ^ p.mbits == 0
  | _, _ => false

/-- The format that a pair of operands is judged in: that of the wider one (R56, R123); each its own where they are equally wide. -/
def judgedIn (own other : Fmt) : Fmt := if own.bits < other.bits then other else own

/-- The class of one multiply-accumulate (R55). -/
def macClass (fa fb : Fmt) (a b : Val) : HsClass :=
  if (operandZero a && b.isFinite) || (operandZero b && a.isFinite) then .zero
  else if operandNarrow (judgedIn fa fb) a && operandNarrow (judgedIn fb fa) b then .narrow
  else .general

/-- The class of a handshake from those of the multiply-accumulates it carries (R55). -/
def handshakeClass (l : List HsClass) : HsClass :=
  if l.all (· = .zero) then .zero else if l.all (· ≠ .general) then .narrow else .general

/-- Completed cell handshakes by class (R55), as counter sources 0x10 to 0x12 count them. -/
structure Handshakes where
  general : Nat
  narrow : Nat
  zero : Nat
  deriving DecidableEq, Repr

def Handshakes.none : Handshakes := ⟨0, 0, 0⟩
def Handshakes.add (a b : Handshakes) : Handshakes := ⟨a.general + b.general, a.narrow + b.narrow, a.zero + b.zero⟩
def Handshakes.times (a : Handshakes) (n : Nat) : Handshakes := ⟨a.general * n, a.narrow * n, a.zero * n⟩
def Handshakes.total (a : Handshakes) : Nat := a.general + a.narrow + a.zero

/-- One handshake of a class. -/
def HsClass.one : HsClass → Handshakes
  | .general => ⟨1, 0, 0⟩
  | .narrow => ⟨0, 1, 0⟩
  | .zero => ⟨0, 0, 1⟩

/-- The rest of `total` handshakes are zero ones: positions beyond K, columns and tile positions without a weight (R286, R291). -/
def Handshakes.fill (a : Handshakes) (total : Nat) : Handshakes := { a with zero := total - a.general - a.narrow }

/-- Depth of a weight tile along dense K (R118). -/
def tileDepth (c : PairClass) (sparse : Bool) : Nat := (if c = .two then 256 else 128) * (if sparse then 2 else 1)

/-- Handshakes of one cell per row and tile: two for a 16-bit pair, whose multiply-accumulate takes two of the same class (R56). -/
def perCell (c : PairClass) : Nat := if c = .half then 2 else 1

/-- The handshakes of the multiply-accumulates of one output element in the order their positions are issued: two to a handshake in 4-bit formats, two handshakes each in 16-bit formats (R56). [DEDUCED, unsafe, log entry 83] -/
def elementHandshakes (c : PairClass) (l : List HsClass) : Handshakes :=
  let groups := if c = .two then chunks 2 l.length l else l.map fun x => [x]
  (groups.foldl (fun a g => a.add (handshakeClass g).one) Handshakes.none).times (perCell c)

/-- The classes of the taps that are issued: a pruned position is not (R61), an absent term is a zero (R286). -/
def tapClasses (fa fb : Fmt) (taps : List Tap) : List HsClass :=
  taps.filterMap fun t => match t.a, t.b with
    | .val a, .val b => some (macClass fa fb a b)
    | .absent, _ => some .zero
    | _, .absent => none
    | _, _ => some .general

/-- The epilogue functions of R241. [DEDUCED, unsafe, log entry 22] -/
def epilogue (mode : Nat) (x : Val) : Acc :=
  match mode with
  | 1 => if x.isNan then (.nan, 0) else if Val.zero.lt x then (x, 0) else (Val.zero, 0)
  | 2 =>
    let x2 := fmul x x
    let x3 := fmul x2.1 x
    let c := fmul (decVal 44715 1000000) x3.1
    let i := fadd x c.1
    let j := fmul (decVal 7978846 10000000) i.1
    let t := vb .tanh j.1
    let u := fadd Val.one t.1
    let h := fmul (decVal 1 2) x
    let r := fmul h.1 u.1
    (r.1, x2.2 ||| x3.2 ||| c.2 ||| i.2 ||| j.2 ||| t.2 ||| u.2 ||| h.2 ||| r.2)
  | 3 =>
    let g := vb .sigmoid x
    let r := fmul x g.1
    (r.1, g.2 ||| r.2)
  | _ => (x, 0)

/-- Steps 2 to 5 of R119 and the epilogue on an accumulated value (R241); the scales, bias and q may be poison. -/
def finishOutput (acc : Read) (sA sB : Option Val) (bias q : Option (Option Val)) (mode : Nat) : Read :=
  match acc, sA, sB, bias, q with
  | some (x, f), some a, some b, bi, qq =>
    if bi = some none || qq = some none then none
    else
      let bv := bi.bind id
      let qv := qq.bind id
      let y := tbOutputStage x a b bv qv
      let z := epilogue mode y.1
      let nans := nanIn a ||| nanIn b ||| (bv.map nanIn).getD 0 ||| (qv.map nanIn).getD 0
      some (z.1, f ||| y.2 ||| z.2 ||| nans)
  | _, _, _, _, _ => none

/-- An FP32 element of a vector input. -/
def OpEnv.vec (e : OpEnv) (i n : Nat) : Option Val := (e.rd i [n]).map (·.1)

/-- One more partial sum joins an accumulator (R126, R390). -/
def addPartial (acc : Read) (extra : Acc) : Read :=
  acc.map fun a => let r := fadd a.1 extra.1; (r.1, a.2 ||| extra.2 ||| r.2)

/-- The taps of one output element of a MATMUL (R241). -/
def matmulTaps (e : OpEnv) (idx : List Nat) : List Tap :=
  let va := e.inp 0
  let vb := e.inp 1
  (List.range (tDim va.t 0)).map fun i =>
    let ia := i :: idx.drop 1
    let ib := i :: idx.headD 0 :: idx.drop 2
    ⟨e.s.elem e.a va ia, e.s.elem e.a vb ib, e.s.tapScale e.a va ia, e.s.tapScale e.a vb ib, i / 32⟩

/-- The handshakes of a MATMUL (R55, R56, R118): every row passes every weight tile, whose cells beyond K and N carry zeros; an activation that is not finite makes the cells without a weight column general (R57). FP32 operands run on vector blocks. [DEDUCED, unsafe, log entry 83] -/
def matmulHandshakes (e : OpEnv) : Handshakes :=
  let va := e.inp 0
  let vb := e.inp 1
  match pairClass (tFmt va.t) (tFmt vb.t) with
  | none => .none
  | some c =>
    let k := tDim va.t 0
    let n := tDim vb.t 1
    let rows := allIdx ((tDims (e.out 0).t).drop 1)
    let real := (allIdx (tDims (e.out 0).t)).foldl (fun h idx => h.add (elementHandshakes c (tapClasses (tFmt va.t) (tFmt vb.t) (matmulTaps e idx)))) Handshakes.none
    let wild := rows.foldl (fun a row => a + ((List.range k).filter fun i => match e.s.elem e.a va (i :: row) with | .val v => !v.isFinite | _ => false).length) 0
    let bare := roundUp n 128 - n
    ({ real with general := real.general + wild * bare * perCell c }).fill
      (rows.length * ceilDiv k (tileDepth c (tSparse vb.t)) * ceilDiv n 128 * 16384 * perCell c)

/-- MATMUL (R239 to R242) with the partial sums that the targets of an adapter add to an output element (R390). -/
def matmulWith (e : OpEnv) (extra : List Nat → List Acc) : OpResult :=
  let flags := e.u32 0
  let hasBias := flags % 2 == 1
  let hasQ := flags / 2 % 2 == 1
  let va := e.inp 0
  let vb := e.inp 1
  let ints := (tFmt va.t).isInt
  let mx := (tFmt va.t).isMx || (tFmt vb.t).isMx
  let f : ElemFn := fun idx =>
    let n := idx.headD 0
    let m := (idx[1]?).getD 0
    let rest := idx.drop 2
    finishOutput ((extra idx).foldl addPartial (reduceTaps ints mx (e.pick (linearIdx (tDims (e.out 0).t) idx)) (matmulTaps e idx)))
      (e.s.scaleOf e.a va (0 :: m :: rest)) (e.s.scaleOf e.a vb (0 :: n :: rest))
      (if hasBias then some (e.vec 2 n) else none)
      (if hasQ then some (e.vec (if hasBias then 3 else 2) 0) else none)
      (flags / 4 % 4)
  e.write 0 f e.start

/-- MATMUL of a job (R239 to R242). -/
def opMatmul (e : OpEnv) : OpResult := matmulWith e fun _ => []

end Sys2Proof.Machine
end

