-- ==== Sys2Proof/Machine/Convolution.lean ====
section
/-! DEFINITION. The convolution path (07_convolution_path.md): lowering and packing, padding with its table T, the division of block SRAM, convolution and pooling. -/

namespace Sys2Proof.Machine

/-- fold_mirror and fold_repeat (R281). -/
def foldMirror (u : Int) (w : Nat) : Nat :=
  if w ≤ 1 then 0
  else
    let p : Int := 2 * ((w : Int) - 1)
    let r := u % p
    if r ≤ (w : Int) - 1 then r.toNat else (p - r).toNat

def foldRepeat (u : Int) (w : Nat) : Nat := (min (max u 0) ((w : Int) - 1)).toNat

/-- The geometry attributes of a convolution or pooling operator. -/
structure ConvGeom where
  sx : Nat
  sy : Nat
  dx : Nat
  dy : Nat
  pl : Nat
  pr : Nat
  pt : Nat
  pb : Nat
  kw : Nat
  kh : Nat

/-- Geometry of CONV2D and CONV2D_GROUPED (Table 7-2). -/
def convGeom (attrs : List Byte) (w : TDesc) : ConvGeom :=
  ⟨fieldAt attrs 4 2, fieldAt attrs 6 2, fieldAt attrs 8 2, fieldAt attrs 10 2, fieldAt attrs 12 2, fieldAt attrs 14 2,
   fieldAt attrs 16 2, fieldAt attrs 18 2, tDim w 1, tDim w 2⟩

/-- Geometry of the pooling operators (Table 7-2). -/
def poolGeom (attrs : List Byte) : ConvGeom :=
  ⟨fieldAt attrs 8 2, fieldAt attrs 10 2, 1, 1, fieldAt attrs 12 2, fieldAt attrs 14 2, fieldAt attrs 16 2, fieldAt attrs 18 2,
   fieldAt attrs 4 2, fieldAt attrs 6 2⟩

/-- Output extent of R276, or none where the window exceeds the padded input. -/
def outExtent (w p0 p1 d k st : Nat) : Option Nat :=
  if w + p0 + p1 < d * (k - 1) + 1 ∨ st = 0 then none else some ((w + p0 + p1 - d * (k - 1) - 1) / st + 1)

/-- Source column or row of a tap (R279). -/
def tapPos (x st pad k d : Nat) : Int := (x * st : Int) - pad + (k * d : Int)

/-- A source position lies inside the extent. -/
def inside (u : Int) (w : Nat) : Bool := decide (0 ≤ u) && decide (u < w)

/-- The metadata nibble of a sparse operand at a position is invalid (R128, R129). -/
def State.nibbleBad (s : State) (a : Access) (v : TView) (logical : List Nat) : Bool :=
  tSparse v.t &&
    match s.readLe a (v.metap + strideSum (tMetaStride v.t) logical + logical.headD 0 / 16 * 2) 2 with
    | none => false
    | some w => (nibblePair (w / 2 ^ (4 * (logical.headD 0 / 4 % 4)) % 16)).isNone

/-- A convolution as its operator names it: geometry, groups, extents and formats (R275 to R278). -/
structure ConvSpec where
  g : ConvGeom
  groups : Nat
  /-- C_g and N_g. -/
  cg : Nat
  ng : Nat
  w : Nat
  h : Nat
  mode : Nat
  ints : Bool
  mx : Bool
  /-- X and W as delivered to the cells: a UINT8 X is widened to BF16 or FP16 (R277). -/
  fx : Fmt
  fw : Fmt
  sparse : Bool

/-- The convolution of an operator. -/
def convSpec (e : OpEnv) (groups : Nat) : ConvSpec :=
  let x := (e.inp 0).t
  let k := (e.inp 1).t
  { g := convGeom e.attrs k, groups := groups, cg := tDim k 0, ng := tDim k 3 / groups, w := tDim x 1, h := tDim x 2
    mode := e.u32 0 / 16 % 4, ints := (tFmt x).isInt && (tFmt k).isInt && tFmt x != .uint8
    mx := (tFmt x).isMx || (tFmt k).isMx
    fx := if tFmt x = .uint8 then (if tFmt k = .fp16 then .fp16 else .bf16) else tFmt x, fw := tFmt k, sparse := tSparse k }

/-- The rate class of the operand pair (R123). -/
def ConvSpec.pair (c : ConvSpec) : PairClass := (pairClass c.fx c.fw).getD .half

/-- Kt (R118, R285). -/
def ConvSpec.kt (c : ConvSpec) : Nat := tileDepth c.pair c.sparse

/-- Table 7-4. -/
def convDivision (c : PairClass) (sparse : Bool) : SramDivision :=
  match c, sparse with
  | .half, false => ⟨256, 1920, 960, 960, 64⟩
  | .half, true => ⟨512, 1280, 640, 1280, 72⟩
  | .one, true => ⟨256, 1920, 960, 960, 40⟩
  | .two, true => ⟨256, 1920, 960, 960, 48⟩
  | _, false => ⟨128, 2048, 1024, 512, 32⟩

/-- A CONV2D whose taps need no lowering: 1×1 without pads, read as a MATMUL (R290). -/
def ConvSpec.direct (c : ConvSpec) : Bool :=
  c.groups == 1 && c.g.kw == 1 && c.g.kh == 1 && c.g.pl == 0 && c.g.pr == 0 && c.g.pt == 0 && c.g.pb == 0

/-- The tap (c, kx, ky) at position k of a lowered row (R285). -/
def ConvSpec.tapAt (c : ConvSpec) (k : Nat) : Nat × Nat × Nat := (k % c.cg, k / c.cg % c.g.kw, k / c.cg / c.g.kw)

/-- K_g, the length of a group's lowered row. -/
def ConvSpec.kg (c : ConvSpec) : Nat := c.cg * c.g.kw * c.g.kh

/-- Source column and row of a tap at an output position (R279). -/
def ConvSpec.source (c : ConvSpec) (x y kx ky : Nat) : Int × Int :=
  (tapPos x c.g.sx c.g.pl kx c.g.dx, tapPos y c.g.sy c.g.pt ky c.g.dy)

/-- The tap is outside (R279). -/
def ConvSpec.outside (c : ConvSpec) (x y kx ky : Nat) : Bool :=
  let u := c.source x y kx ky
  !(inside u.1 c.w && inside u.2 c.h)

/-- Output positions per row tile and in all: row m holds x + W_o·(y + H_o·n) (R285, R287). -/
def lowPos (wo ho : Nat) (m : Nat) : Nat × Nat × Nat := (m % wo, m / wo % ho, m / wo / ho)

/-- The rows of row tile t (R287). -/
def tileRows (mt m t : Nat) : List Nat := (List.range (min mt (m - t * mt))).map (t * mt + ·)

/-- The LE omits a tap from every slice of a row tile: in zero mode, one that is outside for all its rows (R286). -/
def ConvSpec.omits (c : ConvSpec) (wo ho : Nat) (rows : List Nat) (kx ky : Nat) : Bool :=
  c.mode == 0 && rows.all fun m => let p := lowPos wo ho m; c.outside p.1 p.2.1 kx ky

/-- What a lowered row holds at a position (R285, R286). -/
inductive Lowered where
  /-- A tap of X, or of a folded or padded position. -/
  | tap (t : Tap)
  /-- A pad zero: an absent term. Its weight is still read with its metadata (R129). -/
  | padZero (t : Tap)
  /-- An outside tap of constant mode, which arrives in the table T (R283). -/
  | folded
  deriving DecidableEq, Repr

/-- The code p of constant mode as an element (R282): one conversion of PAD_VALUE / s under RNE. -/
def padElem (e : OpEnv) : Elem :=
  let x := (e.inp 0).t
  let sc : Val := if tScaleMode x = 1 then decode32 (tTscale x) else Val.one
  .val ((tFmt x).elemVal (convertVal (tFmt x) .rne false ((e.f32 20).divApprox sc)).1)

/-- The lowered row of an output element, from position 0 of its group (R279 to R281, R285). -/
def loweredRow (e : OpEnv) (c : ConvSpec) (idx : List Nat) : List Lowered :=
  let vx := e.inp 0
  let vw := e.inp 1
  let o := idx.headD 0
  let x := (idx[1]?).getD 0
  let y := (idx[2]?).getD 0
  let n := (idx[3]?).getD 0
  (List.range c.kg).map fun k =>
    let t := c.tapAt k
    let u := c.source x y t.2.1 t.2.2
    let iw := [t.1, t.2.1, t.2.2, o]
    let blk := (t.2.2 * c.g.kw + t.2.1) * (c.cg / 32 + 1) + t.1 / 32
    let out := c.outside x y t.2.1 t.2.2
    if out && c.mode == 0 then .padZero ⟨.absent, if e.s.nibbleBad e.a vw iw then .poison else .absent, some 127, some 127, blk⟩
    else if out && c.mode == 1 then .folded
    else
      let u' := if c.mode = 3 then foldRepeat u.1 c.w else if c.mode = 2 then foldMirror u.1 c.w else u.1.toNat
      let v' := if c.mode = 3 then foldRepeat u.2 c.h else if c.mode = 2 then foldMirror u.2 c.h else u.2.toNat
      let ix := [(o / c.ng) * c.cg + t.1, u', v', n]
      .tap ⟨e.s.elem e.a vx ix, e.s.elem e.a vw iw, e.s.tapScale e.a vx ix, e.s.tapScale e.a vw iw, blk⟩

/-- The taps that the TBs reduce of a lowered row. -/
def Lowered.reduced : Lowered → Option Tap
  | .tap t => some t
  | .padZero t => some t
  | .folded => none

/-- One entry of the table T (R283): the sum over c of p × W[c, kx, ky, o]. -/
def padEntry (e : OpEnv) (c : ConvSpec) (kx ky o : Nat) : Reduction :=
  let vw := e.inp 1
  let p := padElem e
  reduceAcc c.ints c.mx (e.pick (2 ^ 50 + kx + c.g.kw * (ky + c.g.kh * o))) <| (List.range c.cg).map fun ch =>
    let iw := [ch, kx, ky, o]
    ⟨p, e.s.elem e.a vw iw, some 127, e.s.tapScale e.a vw iw, ch / 32⟩

/-- A partial sum as the 32 bits that the table holds. -/
def PartSum.bits : PartSum → BitVec 32
  | .int i => BitVec.ofInt 32 i
  | .fp v => encode32 v

/-- The partial sum behind 32 bits of the table. -/
def partOf (ints : Bool) (b : BitVec 32) : PartSum := if ints then .int b.toInt else .fp (decode32 b)

/-- The table T of a run, tap by tap and output channel (R283); an entry that poison reached is none. -/
def padTable (e : OpEnv) (groups : Nat) : List (Option (BitVec 32 × NumFlags)) :=
  let c := convSpec e groups
  (allIdx [c.g.kw, c.g.kh, tDim (e.inp 1).t 3]).map fun i =>
    (padEntry e c (i.headD 0) ((i[1]?).getD 0) ((i[2]?).getD 0)).map fun r => (((r.1.map PartSum.bits).getD 0), r.2)

/-- An entry of T as a convolution of the run reads it: from the table formed at the start of the run, or as it forms now. -/
def OpEnv.padPart (e : OpEnv) (c : ConvSpec) (kx ky o : Nat) : Reduction :=
  match e.padT with
  | none => padEntry e c kx ky o
  | some l =>
    match (l[kx + c.g.kw * (ky + c.g.kh * o)]?).getD none with
    | none => none
    | some (b, f) => some (some (partOf c.ints b), f)

/-- The sum of T over the outside taps of an output position, in a free order (R126, R283). -/
def padSum (e : OpEnv) (c : ConvSpec) (idx : List Nat) : Reduction :=
  let x := (idx[1]?).getD 0
  let y := (idx[2]?).getD 0
  let taps := (allIdx [c.g.kw, c.g.kh]).filter fun i => c.outside x y (i.headD 0) ((i[1]?).getD 0)
  let order := freeOrder (e.pick (2 ^ 51 + linearIdx (tDims (e.out 0).t) idx)) taps.length 0 taps
  order.foldl (fun a i => Reduction.join a (e.padPart c (i.headD 0) ((i[1]?).getD 0) (idx.headD 0))) (some (none, 0))

/-- The accumulator of an output element (R279, R283): what the TBs reduce of the lowered row, with the sum of T as one more partial sum in constant mode. -/
def convAcc (e : OpEnv) (c : ConvSpec) (idx : List Nat) : Reduction :=
  let own := reduceAcc c.ints c.mx (e.pick (linearIdx (tDims (e.out 0).t) idx)) ((loweredRow e c idx).filterMap Lowered.reduced)
  if c.mode = 1 then own.join (padSum e c idx) else own

/-- CONV2D and CONV2D_GROUPED (R279 to R284, R290, R291): one definition of the value at every stride, dilation, padding mode and packing. -/
def convolve (e : OpEnv) (groups : Nat) : OpResult :=
  let flags := e.u32 0
  let hasBias := flags % 2 == 1
  let hasQ := flags / 2 % 2 == 1
  let c := convSpec e groups
  let f : ElemFn := fun idx =>
    let o := idx.headD 0
    finishOutput (convAcc e c idx).toRead (e.s.scaleOf e.a (e.inp 0) [0, 0, 0, 0]) (e.s.scaleOf e.a (e.inp 1) [0, 0, 0, o])
      (if hasBias then some (e.vec 2 o) else none)
      (if hasQ then some (e.vec (if hasBias then 3 else 2) 0) else none)
      (flags / 4 % 4)
  e.write 0 f e.start

/-- P, the groups packed into one weight tile along its diagonal (R291). -/
def ConvSpec.packed (c : ConvSpec) : Nat := if c.kg ≤ c.kt then min (c.kt / c.kg) (128 / c.ng) else 1

/-- Weight tiles that the rows of a row tile pass, with `kept` positions of K_g left in each lowered row: for one group, slices by N tiles; packed groups share tiles (R285, R291). -/
def ConvSpec.weightTiles (c : ConvSpec) (kept : Nat) : Nat :=
  if c.kg ≤ c.kt ∧ 1 < c.groups ∧ c.ng ≤ 128 then ceilDiv c.groups (max 1 c.packed)
  else c.groups * ceilDiv kept c.kt * ceilDiv c.ng 128

/-- A TB position of a tile that holds the weight of group `a` for group `b`: off the diagonal it holds the absent-term marker (R291). -/
def ConvSpec.marker (c : ConvSpec) (row col : Nat) : Bool :=
  decide (c.packed * c.kg ≤ row) || decide (c.packed * c.ng ≤ col) || row / c.kg != col / c.ng

/-- What one row tile of a convolution does: its handshakes (R55, R286, R291), the bytes its LE writes, a multicast once, and the taps it omits (R286, R287). -/
structure TileWork where
  hs : Handshakes
  lowered : Nat
  omitted : Nat
  deriving DecidableEq, Repr

/-- The class of a position of a lowered row: pad zeros are zero handshakes, pruned positions are not issued (R61, R286). -/
def loweredClasses (fx fw : Fmt) (l : List Lowered) : List HsClass :=
  l.flatMap fun
    | .tap t => tapClasses fx fw [t]
    | .padZero _ => [.zero]
    | .folded => [.zero]

/-- The work of row tile `t`. [DEDUCED, unsafe, log entry 83] -/
def tileWork (e : OpEnv) (c : ConvSpec) (t : Nat) : TileWork :=
  let y := (e.out 0).t
  let wo := tDim y 1
  let ho := tDim y 2
  let d := convDivision c.pair c.sparse
  let rows := tileRows d.rowTile (wo * ho * tDim y 3) t
  let gone := (allIdx [c.g.kw, c.g.kh]).filter fun i => c.omits wo ho rows (i.headD 0) ((i[1]?).getD 0)
  let kept := c.kg - gone.length * c.cg
  let real := rows.foldl (fun h m =>
    let p := lowPos wo ho m
    (List.range (c.groups * c.ng)).foldl (fun h o =>
      let row := ((loweredRow e c [o, p.1, p.2.1, p.2.2]).zipIdx.filter fun x => let t := c.tapAt x.2; !gone.contains [t.2.1, t.2.2]).map (·.1)
      h.add (elementHandshakes c.pair (loweredClasses c.fx c.fw row))) h) Handshakes.none
  let tiles := c.weightTiles kept
  let slices := if c.kg ≤ c.kt ∧ 1 < c.groups then tiles else c.groups * ceilDiv kept c.kt
  ⟨real.fill (rows.length * tiles * 16384 * perCell c.pair), if c.direct then 0 else rows.length * slices * d.sliceRow, gone.length⟩

/-- The row tiles of a convolution (R287). -/
def convTiles (e : OpEnv) (groups : Nat) : List TileWork :=
  let c := convSpec e groups
  let y := (e.out 0).t
  (List.range (ceilDiv (tDim y 1 * tDim y 2 * tDim y 3) (convDivision c.pair c.sparse).rowTile)).map (tileWork e c)

/-- The inside taps of a pooling window. -/
def poolTaps (e : OpEnv) (idx : List Nat) : List Read :=
  let g := poolGeom e.attrs
  let w := e.dim 0 1
  let h := e.dim 0 2
  let x := (idx[1]?).getD 0
  let y := (idx[2]?).getD 0
  (List.range g.kh).flatMap fun ky => (List.range g.kw).filterMap fun kx =>
    let u := tapPos x g.sx g.pl kx 1
    let v := tapPos y g.sy g.pt ky 1
    if inside u w && inside v h then some (e.rd 0 [idx.headD 0, u.toNat, v.toNat, (idx[3]?).getD 0]) else none

/-- Fold values with IEEE maximum or minimum. -/
def foldExtreme (f : Val → Val → Val) : List Val → Val
  | [] => .nan
  | v :: vs => vs.foldl f v

/-- MAXPOOL2D (R294). -/
def opMaxPool (e : OpEnv) : OpResult :=
  e.write 0 (fun idx => (allReads (poolTaps e idx)).map fun r => (foldExtreme ieeeMax r.1, r.2)) e.start

/-- AVGPOOL2D (R295). -/
def opAvgPool (e : OpEnv) : OpResult :=
  let g := poolGeom e.attrs
  let countPad := e.u32 0 % 2 == 1
  let f : ElemFn := fun idx =>
    match allReads (poolTaps e idx) with
    | none => none
    | some (vs, fl) =>
      let sum := freeFpSum (e.pick (linearIdx (tDims (e.out 0).t) idx)) vs
      let d := if countPad then g.kw * g.kh else vs.length
      let q := fdiv sum.1 (round32 (Val.ofNat d))
      some (q.1, fl ||| sum.2 ||| q.2)
  e.write 0 f e.start

end Sys2Proof.Machine
end

