-- ==== Sys2Proof/Machine/Operators.lean ====
section
/-! DEFINITION. The value of every other operator output (06_operator_catalogue.md): functions from the operator's operands to its output tensors. -/

namespace Sys2Proof.Machine

/-- Scale group along d of a key or value format (Table 8-8); 0 for none. -/
def kvGroup (f : Fmt) : Nat :=
  match f with
  | .mxfp8e4m3 | .mxfp8e5m2 => 32
  | .int8 | .int4 => 16
  | _ => 0

/-- Widening matrix (Table 8-8): a key or value format under a query format (R318). -/
def widens (q f : Fmt) : Bool :=
  match f with
  | .bf16 => q = .fp32 || q = .bf16
  | .fp8e4m3 | .fp8e5m2 | .mxfp8e4m3 | .mxfp8e5m2 | .int8 => true
  | .int4 => q = .bf16 || q = .fp16
  | .fp16 => q = .fp32 || q = .fp16
  | .fp32 => q = .fp32
  | _ => false

/-- A key element with the factor of its group (R319): MX scale byte, per-tensor scale of an integer tensor, or 1.0. An MX element with a per-tensor scale is the RNE(v × s) of R233 with the factor 1.0: R319 names no place for that scale. [DESIGN CHOICE, unsafe, log entry 82] -/
def OpEnv.kvElem (e : OpEnv) (i : Nat) (idx : List Nat) : Option (Val × Val × NumFlags) :=
  let v := e.inp i
  let f := tFmt v.t
  match e.s.elem e.a v idx with
  | .poison => none
  | .absent => some (Val.zero, Val.one, 0)
  | .val x =>
    if f.isMx then
      if tScaleMode v.t = 0 then
        (e.s.mxScale e.a v (storedIdx v.t idx)).map fun b => (x, e8m0Val b, nanIn x ||| nanIn (e8m0Val b))
      else (e.s.readF32 e.a v idx).map fun r => (r.1, Val.one, r.2)
    else if f.isInt then
      (e.s.scaleOf e.a v idx).map fun sc => (x, sc, nanIn sc)
    else
      (e.s.readF32 e.a v idx).map fun r => (r.1, Val.one, r.2)

/-- The score sum of one query and key position (R319). -/
def scoreSum (pick : Nat → Nat) (group : Nat) (qs : List (Val × NumFlags)) (ks : List (Val × Val × NumFlags)) : Acc :=
  let pairs := qs.zip ks
  let fl := pairs.foldl (fun f p => f ||| p.1.2 ||| p.2.2.2) (0 : NumFlags)
  let terms : List Acc :=
    if group = 0 then pairs.map fun p => (p.1.1.mul p.2.1, productFlags p.1.1 p.2.1)
    else (chunks group pairs.length pairs).map fun g =>
      let s := groupSum (g.map fun p => (p.1.1, p.2.1))
      match g with
      | p :: _ => (s.1.mul p.2.2.1, s.2 ||| productFlags s.1 p.2.2.1)
      | [] => s
  let r := freeFpSum pick (terms.map (·.1))
  (r.1, terms.foldl (fun f t => f ||| t.2) (fl ||| r.2))

/-- Scale, cap and bias of a raw score (R245, R319). -/
def finishScore (scale softcap : Val) (bias : Option Val) (acc : Val) : Acc :=
  let s0 := fmul scale acc
  let s1 : Acc :=
    if Val.zero.lt softcap then
      let q := fdiv s0.1 softcap
      let t := vb .tanh q.1
      let r := fmul softcap t.1
      (r.1, q.2 ||| t.2 ||| r.2)
    else (s0.1, 0)
  let s2 : Acc := match bias with | some b => fadd s1.1 b | none => (s1.1, 0)
  (s2.1, s0.2 ||| s1.2 ||| s2.2)

/-- The weighted sum of one output element over unmasked scores and values (R245, R246, R320). -/
def attendRow (pick : Nat → Nat) (scores vals : List Val) : Acc :=
  if scores.any Val.isNan then (.nan, 0)
  else if scores.all fun s => s == .inf true then (Val.zero, 0)
  else
    let m := foldExtreme ieeeMax scores
    let es : List Acc := scores.map fun s => let d := fsub s m; let x := vb .exp d.1; (x.1, d.2 ||| x.2)
    let sum := freeFpSum pick (es.map (·.1))
    let ps := es.map fun x => fdiv x.1 sum.1
    let terms : List Acc := (ps.zip vals).map fun p => (p.1.1.mul p.2, productFlags p.1.1 p.2)
    let r := freeFpSum (fun i => pick (i + 2 ^ 30)) (terms.map (·.1))
    (r.1, (es ++ ps ++ terms).foldl (fun f x => f ||| x.2) (sum.2 ||| r.2))

/-- Position j is masked for query i (R245), with o = S_kv − S_q. -/
def maskedAt (causal : Bool) (window : Nat) (i j sq skv : Nat) : Bool :=
  let io : Int := (i : Int) + ((skv : Int) - sq)
  (causal && decide (io < (j : Int))) || (decide (0 < window) && decide ((j : Int) ≤ io - window))

/-- 1/√D as FP32 (R245). -/
def rootScale (d : Nat) : Val := round32 (Val.one.divApprox (Val.ofNat d).sqrtApprox)

/-- ATTENTION (R243 to R246, R318 to R321). -/
def opAttention (e : OpEnv) : OpResult :=
  let flags := e.u32 0
  let causal := flags % 2 == 1
  let hasBias := flags / 2 % 2 == 1
  let d := e.dim 0 0
  let sq := e.dim 0 1
  let hq := e.dim 0 2
  let skv := e.dim 1 1
  let hkv := e.dim 1 2
  let scale := if e.u32 4 = 0 then rootScale d else e.f32 4
  let kg := kvGroup (tFmt (e.inp 1).t)
  let f : ElemFn := fun idx =>
    let el := idx.headD 0
    let i := (idx[1]?).getD 0
    let h := (idx[2]?).getD 0
    let b := (idx[3]?).getD 0
    let g := h * hkv / hq
    let pick := e.pick (linearIdx (tDims (e.out 0).t) idx)
    match allReads ((List.range d).map fun x => e.rd 0 [x, i, h, b]) with
    | none => none
    | some (qv, qf) =>
      let keys := (List.range skv).filter fun j => !maskedAt causal (e.u32 12) i j sq skv
      let score (j : Nat) : Read :=
        match (List.range d).mapM fun x => e.kvElem 1 [x, j, g, b] with
        | none => none
        | some ks =>
          let raw := scoreSum (fun n => pick (n + (j + 1) * 2 ^ 32)) kg (qv.map fun v => (v, 0)) ks
          if hasBias then
            match e.rd 3 [j, i, h, b] with
            | none => none
            | some (bv, bf) => let r := finishScore scale (e.f32 8) (some bv) raw.1; some (r.1, bf ||| raw.2 ||| r.2)
          else let r := finishScore scale (e.f32 8) none raw.1; some (r.1, raw.2 ||| r.2)
      let value (j : Nat) : Read := (e.kvElem 2 [el, j, g, b]).map fun r =>
        let p := fmul r.1 r.2.1
        (p.1, r.2.2 ||| p.2)
      match allReads (keys.map score), allReads (keys.map value) with
      | some (ss, sf), some (vs, vf) =>
        if keys.isEmpty then some (Val.zero, 0)
        else let r := attendRow pick ss vs; some (r.1, qf ||| sf ||| vf ||| r.2)
      | _, _ => none
  e.write 0 f e.start

/-- Mean and variance of values (R247). [DEDUCED, unsafe, log entry 22; DESIGN CHOICE, unsafe, log entry 82] -/
def meanVar (pick : Nat → Nat) (xs : List Val) : Val × Val × NumFlags :=
  let n := round32 (Val.ofNat xs.length)
  let s := freeFpSum pick xs
  let mu := fdiv s.1 n
  let ds := xs.map fun x => fsub x mu.1
  let q := freeFpSum (fun i => pick (i + 2 ^ 30)) (ds.map fun x => x.1.mul x.1)
  let var := fdiv q.1 n
  (mu.1, var.1, ds.foldl (fun f x => f ||| x.2) (s.2 ||| mu.2 ||| q.2 ||| var.2))

/-- (x − μ) · rsqrt(σ² + EPS) · γ + β. [DEDUCED, unsafe, log entry 22] -/
def normalise (x mu var eps gamma beta : Val) : Acc :=
  let d := fsub x mu
  let v := fadd var eps
  let r := vb .rsqrt v.1
  let a := fmul d.1 r.1
  let b := fmul a.1 gamma
  let c := fadd b.1 beta
  (c.1, d.2 ||| v.2 ||| r.2 ||| a.2 ||| b.2 ||| c.2)

/-- The row along dimension 0 through an index. -/
def OpEnv.row (e : OpEnv) (i : Nat) (idx : List Nat) : Option (List Val × NumFlags) :=
  allReads ((List.range (e.dim i 0)).map fun c => e.rd i (c :: idx.drop 1))

/-- LAYERNORM (R247). -/
def opLayerNorm (e : OpEnv) : OpResult :=
  let f : ElemFn := fun idx =>
    let c := idx.headD 0
    match e.row 0 idx, e.rd 1 [c], e.rd 2 [c], e.rd 0 idx with
    | some (xs, f0), some (ga, f1), some (be, f2), some (x, _) =>
      let mv := meanVar (e.pick (linearIdx (tDims (e.out 0).t) (0 :: idx.drop 1))) xs
      let r := normalise x mv.1 mv.2.1 (e.f32 0) ga be
      some (r.1, f0 ||| f1 ||| f2 ||| mv.2.2 ||| r.2)
    | _, _, _, _ => none
  e.write 0 f e.start

/-- RMSNORM (R247). -/
def opRmsNorm (e : OpEnv) : OpResult :=
  let f : ElemFn := fun idx =>
    match e.row 0 idx, e.rd 1 [idx.headD 0], e.rd 0 idx with
    | some (xs, f0), some (ga, f1), some (x, _) =>
      let q := freeFpSum (e.pick (linearIdx (tDims (e.out 0).t) (0 :: idx.drop 1))) (xs.map fun v => v.mul v)
      let m := fdiv q.1 (round32 (Val.ofNat xs.length))
      let v := fadd m.1 (e.f32 0)
      let r := vb .rsqrt v.1
      let a := fmul x r.1
      let b := fmul a.1 ga
      some (b.1, f0 ||| f1 ||| q.2 ||| m.2 ||| v.2 ||| r.2 ||| a.2 ||| b.2)
    | _, _, _ => none
  e.write 0 f e.start

/-- One element of a softmax row (R247, R248). -/
def softmaxElem (pick : Nat → Nat) (log : Bool) (xs : List Val) (x : Val) : Acc :=
  if xs.any Val.isNan then (.nan, 0)
  else if xs.all fun v => v == .inf true then (if log then .inf true else Val.zero, 0)
  else
    let m := foldExtreme ieeeMax xs
    let es : List Acc := xs.map fun v => let d := fsub v m; let x := vb .exp d.1; (x.1, d.2 ||| x.2)
    let sum := freeFpSum pick (es.map (·.1))
    let fl := es.foldl (fun f v => f ||| v.2) sum.2
    let d := fsub x m
    if log then
      let l := vb .log sum.1
      let r := fsub d.1 l.1
      (r.1, fl ||| d.2 ||| l.2 ||| r.2)
    else
      let r := fdiv (vb .exp d.1).1 sum.1
      (r.1, fl ||| r.2)

/-- SOFTMAX (R247, R248). -/
def opSoftmax (e : OpEnv) : OpResult :=
  let f : ElemFn := fun idx =>
    match e.row 0 idx, e.rd 0 idx with
    | some (xs, f0), some (x, _) =>
      let r := softmaxElem (e.pick (linearIdx (tDims (e.out 0).t) (0 :: idx.drop 1))) (e.u32 0 % 2 == 1) xs x
      some (r.1, f0 ||| r.2)
    | _, _ => none
  e.write 0 f e.start

/-- GROUPNORM (R249). -/
def opGroupNorm (e : OpEnv) : OpResult :=
  let groups := e.u32 4
  let c := e.dim 0 0
  let f : ElemFn := fun idx =>
    let ch := idx.headD 0
    let n := (idx[3]?).getD 0
    let k := ch * groups / c
    let members := (List.range c).filter fun x => x * groups / c == k
    let all := members.flatMap fun x => (List.range (e.dim 0 1)).flatMap fun col => (List.range (e.dim 0 2)).map fun r => e.rd 0 [x, col, r, n]
    match allReads all, e.rd 1 [ch], e.rd 2 [ch], e.rd 0 idx with
    | some (xs, f0), some (ga, f1), some (be, f2), some (x, _) =>
      let mv := meanVar (e.pick (k + groups * n)) xs
      let r := normalise x mv.1 mv.2.1 (e.f32 0) ga be
      some (r.1, f0 ||| f1 ||| f2 ||| mv.2.2 ||| r.2)
    | _, _, _, _ => none
  e.write 0 f e.start

/-- The angle of a rotary pair (R250). -/
def ropeAngle (p : Int) (base : Val) (t rot : Nat) : Acc :=
  let fr := fdiv (round32 (Val.ofNat (2 * t))) (round32 (Val.ofNat rot))
  let lg := vb .log2 base
  let ex := fmul fr.1.neg lg.1
  let pw := vb .exp2 ex.1
  let th := fmul (round32 (Val.ofInt p)) pw.1
  (th.1, fr.2 ||| lg.2 ||| ex.2 ||| pw.2 ||| th.2)

/-- ROPE (R250). -/
def opRope (e : OpEnv) : OpResult :=
  let rot := e.u32 4
  let inter := e.u32 8 % 2 == 1
  let half := rot / 2
  let f : ElemFn := fun idx =>
    let i := idx.headD 0
    if rot ≤ i then e.rd 0 idx
    else
      let t := if inter then i / 2 else i % half
      let first := if inter then i % 2 == 0 else decide (i < half)
      let i1 := if inter then 2 * t else t
      let i2 := if inter then 2 * t + 1 else t + half
      match e.rd 0 (i1 :: idx.drop 1), e.rd 0 (i2 :: idx.drop 1), e.s.readInt e.a (e.inp 1) [(idx[1]?).getD 0, (idx[3]?).getD 0] with
      | some (x1, f1), some (x2, f2), some p =>
        let th := ropeAngle p (e.f32 0) t rot
        let c := vb .cos th.1
        let s := vb .sin th.1
        let u := if first then fmul x1 c.1 else fmul x1 s.1
        let v := if first then fmul x2 s.1 else fmul x2 c.1
        let r := if first then fsub u.1 v.1 else fadd u.1 v.1
        some (r.1, f1 ||| f2 ||| th.2 ||| c.2 ||| s.2 ||| u.2 ||| v.2 ||| r.2)
      | _, _, _ => none
  e.write 0 f e.start

/-- The index of a gathered row, with whether it lies in the table (R252). -/
def gatherIndex (e : OpEnv) (idx : List Nat) : Option (Option Nat) :=
  (e.s.readInt e.a (e.inp 1) [(idx[1]?).getD 0, (idx[2]?).getD 0]).map fun i =>
    if 0 ≤ i ∧ i < (e.dim 0 1 : Int) then some i.toNat else none

/-- EMBED_GATHER (R251, R252): an index outside the table writes a row of +0. -/
def opEmbedGather (e : OpEnv) : OpResult :=
  let f : ElemFn := fun idx =>
    match gatherIndex e idx with
    | none => none
    | some none => some (Val.zero, 0)
    | some (some i) => e.rd 0 [idx.headD 0, i]
  e.write 0 f e.start

/-- Some index of the gather lies outside the table (R252). -/
def gatherOut (e : OpEnv) : Bool :=
  (allIdx (tDims (e.inp 1).t)).any fun i => gatherIndex e (0 :: i) == some none

/-- Element a comes before element b in a selection (R257). -/
def selBefore (smallest : Bool) (a b : Nat × Val) : Bool :=
  if a.2.isNan then b.2.isNan && decide (a.1 < b.1)
  else if b.2.isNan then true
  else match a.2.cmp b.2 with
    | .lt => smallest
    | .gt => !smallest
    | .eq => decide (a.1 < b.1)

/-- Insert into a selection order. -/
def insertSel (smallest : Bool) (x : Nat × Val) : List (Nat × Val) → List (Nat × Val)
  | [] => [x]
  | y :: ys => if selBefore smallest x y then x :: y :: ys else y :: insertSel smallest x ys

/-- A row in selection order. -/
def selOrder (smallest : Bool) (xs : List Val) : List (Nat × Val) :=
  xs.zipIdx.foldl (fun acc p => insertSel smallest (p.2, p.1) acc) []

/-- TOPK (R257): values to OUT0, indices to OUT1. -/
def opTopK (e : OpEnv) : OpResult :=
  let smallest := e.u32 4 % 2 == 1
  let sel (idx : List Nat) : Option (Nat × Val × NumFlags) :=
    match e.row 0 idx with
    | none => none
    | some (xs, f) => ((selOrder smallest xs)[idx.headD 0]?).map fun p => (p.1, p.2, f)
  let r := e.write 0 (fun idx => (sel idx).map fun p => (p.2.1, p.2.2)) e.start
  e.s.storeIndex e.a (e.out 1) (fun idx => (sel idx).map fun p => (p.1 : Int)) r

/-- ARGMAX (R258). -/
def opArgmax (e : OpEnv) : OpResult :=
  let f (idx : List Nat) : Option Int :=
    (e.row 0 idx).map fun r => match argmaxOf (r.1.zipIdx.map fun p => (p.2, p.1)) with
      | some (i, _) => (i : Int)
      | none => -1
  let fl := (allIdx (tDims (e.out 0).t)).foldl (fun f idx => f ||| ((e.row 0 idx).map (·.2)).getD 0) (0 : NumFlags)
  let r := e.s.storeIndex e.a (e.out 0) f e.start
  { r with flags := r.flags ||| fl }

/-- The token that SAMPLE draws for row b (R259): −1 where no logit is finite; none where the row is poison. -/
def sampleToken (e : OpEnv) (b : Nat) : Option Int :=
  match e.row 0 [0, b] with
  | none => none
  | some (ls, _) =>
    if !ls.any Val.isFinite then some (-1)
    else if (e.f32 0).isZero then
      match argmaxOf (ls.zipIdx.map fun p => (p.2, p.1)) with
      | some (i, _) => some (i : Int)
      | none => some (-1)
    else
      match drawToken (.plain (e.f32 0) (e.u32 4) (e.f32 8)) (fun _ => 0) (uniform (fieldAt e.attrs 16 8) b 0) ls with
      | some t => some (t : Int)
      | none => some (-1)

/-- One row of SAMPLE (R259): its token is written, with the flags of its logits. -/
def opSampleRow (e : OpEnv) (b : Nat) : OpResult :=
  let f (idx : List Nat) : Option Int := sampleToken e ((idx[1]?).getD 0)
  let r := e.s.storeRows e.a (e.out 0) .rne false (fun i => (f i).map fun x => (Val.ofInt x, 0)) [[b]] e.start
  { r with flags := r.flags ||| ((e.row 0 [0, b]).map (·.2)).getD 0 }

/-- Rows of a SAMPLE: the extent B of its logits. -/
def sampleRows (e : OpEnv) : Nat := e.dim 0 1

/-- SAMPLE of every row (R259). -/
def opSample (e : OpEnv) : OpResult :=
  let f (idx : List Nat) : Option Int := sampleToken e ((idx[1]?).getD 0)
  let fl := (allIdx (tDims (e.out 0).t)).foldl (fun g idx => g ||| ((e.row 0 [0, (idx[1]?).getD 0]).map (·.2)).getD 0) (0 : NumFlags)
  let r := e.s.storeIndex e.a (e.out 0) f e.start
  { r with flags := r.flags ||| fl }

/-- Source coordinate of RESIZE in FP32 (R260). -/
def resizeCoord (align : Bool) (x w w' : Nat) : Val :=
  let n (k : Nat) : Val := round32 (Val.ofNat k)
  if align then
    if w' = 1 then Val.zero else (fmul (n x) (fdiv (n (w - 1)) (n (w' - 1))).1).1
  else
    (fsub (fmul (fadd (n x) (decVal 1 2)).1 (fdiv (n w) (n w')).1).1 (decVal 1 2)).1

/-- Clamp an integer index to an extent. -/
def clampIdx (i : Int) (w : Nat) : Nat := (min (max i 0) ((w : Int) - 1)).toNat

/-- Bilinear neighbours and weight of a coordinate (R261). -/
def bilinear (u : Val) (w : Nat) : Nat × Nat × Val :=
  let c := clampVal Val.zero (round32 (Val.ofNat (w - 1))) u
  let x0 := c.floorInt.toNat
  (x0, min (x0 + 1) (w - 1), (fsub c (round32 (Val.ofNat x0))).1)

/-- A ratio of RESIZE, formed in FP32 under RNE (R260). -/
def resizeRatio (a b : Nat) : Val := round32 ((Val.ofNat a).divApprox (Val.ofNat b))

/-- Length of the overlap of source pixel i, [i, i + 1), with the source interval [x·W/W′, (x + 1)·W/W′) of output pixel x, whose ends are FP32 ratios (R260, R261); none where they do not meet. [DESIGN CHOICE, unsafe, log entry 82] -/
def overlapLen (x i w w' : Nat) : Option Val :=
  let hi := ieeeMin (resizeRatio ((x + 1) * w) w') (Val.ofNat (i + 1))
  let lo := ieeeMax (resizeRatio (x * w) w') (Val.ofNat i)
  if lo.lt hi then some (fsub hi lo).1 else none

/-- The source pixels (column, row) under an output pixel with their overlap areas, in ascending source row, then column (R261, R424). [DESIGN CHOICE, unsafe, log entry 82] -/
def areaTerms (x y w h w' h' : Nat) : List ((Nat × Nat) × Val) :=
  let cols := (List.range w).filterMap fun i => (overlapLen x i w w').map fun l => (i, l)
  let rows := (List.range h).filterMap fun j => (overlapLen y j h h').map fun l => (j, l)
  rows.flatMap fun j => cols.map fun i => ((i.1, j.1), (fmul i.2 j.2).1)

/-- (W/W′)·(H/H′) of FP32 ratios (R260, R261). -/
def areaScale (w h w' h' : Nat) : Val := (fmul (resizeRatio w w') (resizeRatio h h')).1

/-- RESIZE (R260, R261). -/
def opResize (e : OpEnv) : OpResult :=
  let mode := e.u32 0
  let align := e.u32 4 % 2 == 1
  let w := e.dim 0 1
  let h := e.dim 0 2
  let w' := tDim (e.out 0).t 1
  let h' := tDim (e.out 0).t 2
  let f : ElemFn := fun idx =>
    let c := idx.headD 0
    let x := (idx[1]?).getD 0
    let y := (idx[2]?).getD 0
    let n := (idx[3]?).getD 0
    let u := resizeCoord align x w w'
    let v := resizeCoord align y h h'
    match mode with
    | 0 =>
      let near (z : Val) (d : Nat) : Nat := clampIdx (fadd z (decVal 1 2)).1.floorInt d
      e.rd 0 [c, near u w, near v h, n]
    | 1 =>
      let bx := bilinear u w
      let byy := bilinear v h
      match e.rd 0 [c, bx.1, byy.1, n], e.rd 0 [c, bx.2.1, byy.1, n], e.rd 0 [c, bx.1, byy.2.1, n], e.rd 0 [c, bx.2.1, byy.2.1, n] with
      | some (a, fa), some (b, fb), some (p, fp), some (q, fq) =>
        let f1 := (fsub Val.one bx.2.2).1
        let g1 := (fsub Val.one byy.2.2).1
        let t0 := fmul (fmul f1 g1).1 a
        let t1 := fmul (fmul bx.2.2 g1).1 b
        let t2 := fmul (fmul f1 byy.2.2).1 p
        let t3 := fmul (fmul bx.2.2 byy.2.2).1 q
        let s1 := fadd t0.1 t1.1
        let s2 := fadd s1.1 t2.1
        let s3 := fadd s2.1 t3.1
        some (s3.1, fa ||| fb ||| fp ||| fq ||| t0.2 ||| t1.2 ||| t2.2 ||| t3.2 ||| s1.2 ||| s2.2 ||| s3.2)
      | _, _, _, _ => none
    | _ =>
      let terms := (areaTerms x y w h w' h').map fun t => (e.rd 0 [c, t.1.1, t.1.2, n], t.2)
      match allReads (terms.map (·.1)) with
      | none => none
      | some (xs, fl) =>
        let prods := (xs.zip terms).map fun p => fmul p.1 p.2.2
        let sum := prods.foldl (fun (acc : Acc) p => let r := fadd acc.1 p.1; (r.1, acc.2 ||| p.2 ||| r.2)) (Val.zero, 0)
        let q := fdiv sum.1 (areaScale w h w' h')
        some (q.1, fl ||| sum.2 ||| q.2)
  e.write 0 f e.start

/-- Kr and Kb of a colour matrix (R263). -/
def matrixK : Nat → Val × Val
  | 0 => (decVal 299 1000, decVal 114 1000)
  | 1 => (decVal 2126 10000, decVal 722 10000)
  | _ => (decVal 2627 10000, decVal 593 10000)

/-- R, G, B of an NV12 pixel before the clamp (R263). -/
def yuvToRgb (matrix : Nat) (full : Bool) (y cb cr : Val) : Val × Val × Val :=
  let n (k : Nat) : Val := Val.ofNat k
  let yn := if full then (fdiv y (n 255)).1 else (fdiv (fsub y (n 16)).1 (n 219)).1
  let cbn := (fdiv (fsub cb (n 128)).1 (if full then n 255 else n 224)).1
  let crn := (fdiv (fsub cr (n 128)).1 (if full then n 255 else n 224)).1
  let k := matrixK matrix
  let kg := (fsub (fsub Val.one k.1).1 k.2).1
  let ir := (fsub Val.one k.1).1
  let ib := (fsub Val.one k.2).1
  let two := n 2
  let r := (fadd yn (fmul (fmul two ir).1 crn).1).1
  let gb := (fdiv (fmul (fmul two k.2).1 ib).1 kg).1
  let gr := (fdiv (fmul (fmul two k.1).1 ir).1 kg).1
  let g := (fsub (fsub yn (fmul gb cbn).1).1 (fmul gr crn).1).1
  let b := (fadd yn (fmul (fmul two ib).1 cbn).1).1
  (r, g, b)

/-- COLOR_CONVERT (R262, R263). -/
def opColorConvert (e : OpEnv) : OpResult :=
  let ctrl := e.u32 0
  let full := ctrl / 4 % 2 == 1
  let bgr := ctrl / 8 % 2 == 1
  let src := ctrl / 16 % 4
  let f : ElemFn := fun idx =>
    let c := idx.headD 0
    let x := (idx[1]?).getD 0
    let y := (idx[2]?).getD 0
    let n := (idx[3]?).getD 0
    let ch := if bgr then 2 - c else c
    let v : Read :=
      if src = 0 then
        match e.rd 0 [x, y, n], e.rd 1 [0, x / 2, y / 2, n], e.rd 1 [1, x / 2, y / 2, n] with
        | some (yy, f0), some (cb, f1), some (cr, f2) =>
          let rgb := yuvToRgb (ctrl % 4) full yy cb cr
          let z := if ch = 0 then rgb.1 else if ch = 1 then rgb.2.1 else rgb.2.2
          some (clampVal Val.zero Val.one z, f0 ||| f1 ||| f2)
        | _, _, _ => none
      else (e.rd 0 [ch, x, y, n]).map fun r => ((fdiv r.1 (Val.ofNat 255)).1, r.2)
    v.map fun r =>
      let d := fsub r.1 (e.f32 (4 + 4 * c))
      let m := fmul d.1 (e.f32 (16 + 4 * c))
      (m.1, r.2 ||| d.2 ||| m.2)
  e.write 0 f e.start

/-- The element code in a format of a value that the format holds exactly; a NaN is the canonical one (R253). -/
def exactCode (f : Fmt) (v : Val) : Nat :=
  match f.fp, v with
  | some p, .nan => if p.special = .finite then 0 else p.nanCode
  | some p, .inf neg => p.signed neg p.infCode
  | some p, .fin neg m e => p.signed neg (p.codeOf (p.roundMag .rne m e))
  | none, v => (convertVal f .rne false v).1

/-- Write every stored row of an output from given codes and scale bytes (R253). -/
def State.storeCodes (s : State) (a : Access) (v : TView) (code scale : List Nat → OutElem) : List (List Nat) → OpResult → OpResult
  | [], acc => acc
  | outer :: rest, acc =>
    let t := v.t
    let n := if (tFmt t).isMx then tKp t else (tStored t).headD 1
    let codes : List OutElem := (List.range n).map fun k =>
      let l := logicalIdx t k outer
      if l.2 then code l.1 else some 0
    let scales : List OutElem := if (tFmt t).isMx then (List.range (n / 32)).map fun b => scale (logicalIdx t (32 * b) outer).1 else []
    let poison := codes.any Option.isNone || scales.any Option.isNone
    match acc.state.storeRow a v outer ⟨codes, scales, 0, poison⟩ with
    | .error e => { acc with fail := some (acc.fail.getD e), poison := acc.poison || poison }
    | .ok s1 => State.storeCodes s a v code scale rest ⟨s1, acc.flags, acc.poison || poison, acc.fail⟩

/-- CONVERT (R253): between equal formats without scales each value is copied exactly. -/
def opConvert (e : OpEnv) : OpResult :=
  let vi := e.inp 0
  let vo := e.out 0
  let f := tFmt vi.t
  if f = tFmt vo.t ∧ tScaleMode vi.t = 0 ∧ tScaleMode vo.t = 0 ∧ tCompress vo.t = 0 then
    let code (idx : List Nat) : OutElem :=
      match e.s.elem e.a vi idx with
      | .val x => some (exactCode f x)
      | .absent => some 0
      | .poison => none
    let scale (idx : List Nat) : OutElem := e.s.mxScale e.a vi (storedIdx vi.t idx)
    let fl := (allIdx (tDims vi.t)).foldl (fun g idx => g ||| ((e.rd 0 idx).map (·.2)).getD 0) (0 : NumFlags)
    let r := e.s.storeCodes e.a vo code scale (allIdx ((tStored vo.t).drop 1)) e.start
    { r with flags := r.flags ||| fl }
  else e.write 0 (fun idx => e.rd 0 idx) e.start

/-- TRANSPOSE (R254). -/
def opTranspose (e : OpEnv) : OpResult :=
  let perm := e.u32 0
  let r := tRank (e.inp 0).t
  let src (idx : List Nat) : List Nat :=
    (List.range r).map fun d =>
      ((List.range r).find? fun j => perm / 16 ^ j % 16 == d).elim 0 fun j => (idx[j]?).getD 0
  e.write 0 (fun idx => e.rd 0 (src idx)) e.start

/-- The reduced positions behind an output index. -/
def reducedIdx (axes : Nat) (dims idx : List Nat) : List (List Nat) :=
  (dims.zipIdx).foldr (fun p acc =>
    if bitOf axes p.2 then acc.flatMap fun rest => (List.range p.1).map fun i => i :: rest
    else acc.map fun rest => ((idx[p.2]?).getD 0) :: rest) [[]]

/-- REDUCE (R256). -/
def opReduce (e : OpEnv) : OpResult :=
  let op := e.u32 0
  let axes := e.u32 4
  let dims := tDims (e.inp 0).t
  let f : ElemFn := fun idx =>
    match allReads ((reducedIdx axes dims idx).map (e.rd 0)) with
    | none => none
    | some (xs, fl) =>
      let pick := e.pick (linearIdx (tDims (e.out 0).t) idx)
      match op with
      | 2 => some (foldExtreme ieeeMax xs, fl)
      | 3 => some (foldExtreme ieeeMin xs, fl)
      | 4 => let r := freeFpSum pick (xs.map fun x => x.mul x); some (r.1, fl ||| r.2)
      | 1 =>
        let r := freeFpSum pick xs
        let q := fdiv r.1 (Val.ofNat xs.length)
        some (q.1, fl ||| r.2 ||| q.2)
      | _ => let r := freeFpSum pick xs; some (r.1, fl ||| r.2)
  e.write 0 f e.start

/-- The input that fills a position along the joined dimension, and the position in it (R255). -/
def concatSource (axis : Nat) : List TView → Nat → Nat → Option (Nat × Nat)
  | [], _, _ => none
  | v :: vs, i, p => if p < tDim v.t axis then some (i, p) else concatSource axis vs (i + 1) (p - tDim v.t axis)

/-- CONCAT (R255). -/
def opConcat (e : OpEnv) : OpResult :=
  let axis := e.u32 0
  let f : ElemFn := fun idx =>
    match concatSource axis e.ins 0 ((idx[axis]?).getD 0) with
    | some (i, p) => e.rd i (idx.set axis p)
    | none => none
  e.write 0 f e.start

/-- MAP (R264 to R266): position 0 of the final stack to OUT0, position 1 to OUT1. -/
def opMap (e : OpEnv) : OpResult :=
  match parseExpr ((e.exprs.drop (e.u32 0)).take (e.u32 4)) with
  | none => e.start
  | some x =>
    let out (n : Nat) : ElemFn := fun idx =>
      let r := evalExpr x (fun i => e.rd i idx) idx
      ((r.1[n]?).getD none).map fun v => (v, r.2)
    let r0 := e.write 0 (out 0) e.start
    if e.outs.length = 2 then e.write 1 (out 1) r0 else r0

end Sys2Proof.Machine
end

