-- ==== Sys2Proof/Machine/Queues.lean ====
section
/-! DEFINITION. Queue pairs: ring entries, doorbells, completion records (05_graph_contract_and_queues.md R198, R202 to R213). -/

namespace Sys2Proof.Machine

/-- A queue pair of a function. -/
def State.queue (s : State) (fn q : Nat) : QueueState := s.queues.valAt .reset (fn * 8 + q)

/-- Change a queue pair. -/
def State.setQueue (s : State) (fn q : Nat) (x : QueueState) : State := { s with queues := s.queues.setAt .reset (fn * 8 + q) x }

/-- Fields of the common word (Table 5-6). -/
def entType (r : BitVec 512) : Nat := (r.extractLsb' 0 8).toNat
def entConcurrent (r : BitVec 512) : Bool := r.getLsbD 9
def entAutoRestart (r : BitVec 512) : Bool := r.getLsbD 10
def entTag (r : BitVec 512) : BitVec 32 := r.extractLsb' 32 32

/-- A field of a ring entry, bits `lo + n − 1` to `lo`. -/
def entField (r : BitVec 512) (lo n : Nat) : Nat := (r.extractLsb' lo n).toNat

/-- The fields of bits [511:64] by TYPE, as (high, low), and the aligned ones as (low, alignment) (Tables 5-7, 9-2, 10-3). -/
def entryForm : Nat → Option (List (Nat × Nat) × List (Nat × Nat))
  | 0x00 => some ([], [])
  | 0x01 => some ([(511, 448), (447, 416)], [(448, 64)])
  | 0x02 => some ([(511, 448), (447, 384), (383, 320), (319, 256), (255, 240), (239, 224), (218, 216)], [(384, 64), (256, 32)])
  | 0x03 => some ([(239, 224)], [])
  | 0x04 => some ([(511, 256)], [])
  | 0x05 => some ([(511, 448), (447, 384)], [(448, 8)])
  | 0x06 => some ([(511, 448), (447, 384), (383, 320)], [(448, 8)])
  | 0x10 => some ([(511, 448), (225, 224)], [(448, 64)])
  | 0x11 => some ([(225, 224)], [])
  | 0x12 => some ([(511, 480), (479, 448), (233, 224)], [])
  | 0x13 => some ([(511, 448)], [(448, 64)])
  | 0x14 => some ([(511, 480)], [])
  | 0x15 => some ([(511, 448), (232, 232), (231, 224)], [(448, 64)])
  | 0x16 => some ([(232, 232), (231, 224)], [])
  | 0x17 => some ([(511, 448), (244, 240), (236, 232), (231, 224)], [(448, 4096)])
  | 0x18 => some ([(231, 224)], [])
  | 0x19 => some ([(511, 448), (223, 192)], [(448, 64)])
  | 0x20 => some ([(511, 448), (230, 224)], [(448, 64)])
  | 0x21 => some ([(511, 448), (447, 416), (383, 320), (241, 241), (240, 240), (230, 224)], [])
  | 0x22 => some ([(240, 240), (230, 224)], [])
  | 0x23 => some ([(511, 448), (228, 224)], [(448, 64)])
  | 0x24 => some ([(511, 448), (447, 384), (383, 320), (319, 256), (255, 240), (239, 236), (234, 234), (233, 233), (232, 232), (228, 224)], [(256, 16)])
  | 0x25 => some ([(228, 224)], [])
  | 0x26 => some ([(511, 480), (479, 448), (228, 224)], [])
  | _ => none

/-- The bits that fields cover. -/
def fieldMask (fs : List (Nat × Nat)) : Nat := fs.foldl (fun a f => a + (2 ^ (f.1 + 1) - 2 ^ f.2)) 0

/-- Validation step 1 (Table 5-15): TYPE defined, reserved bits 0, CONCURRENT and AUTO_RESTART only where allowed, addresses aligned. -/
def entryOk (r : BitVec 512) : Bool :=
  match entryForm (entType r) with
  | none => false
  | some (fields, aligned) =>
    let ty := entType r
    let common : List (Nat × Nat) := [(7, 0), (63, 32)] ++ (if ty = 1 ∨ ty = 2 then [(9, 9)] else []) ++ (if ty = 2 then [(10, 10)] else [])
    Nat.land r.toNat (2 ^ 512 - 1 - fieldMask (common ++ fields)) == 0 &&
      aligned.all fun a => entField r a.1 64 % a.2 == 0

/-- Unconsumed records in the completion ring (R208). -/
def QueueState.used (x : QueueState) : Nat := (x.cqTail + 2 ^ x.cqOrder - x.cqHead) % 2 ^ x.cqOrder

/-- CQ_FULL: 2^CQ_ORDER − 1 records are unconsumed (R208). -/
def QueueState.full (x : QueueState) : Bool := decide (2 ^ x.cqOrder - 1 ≤ x.used)

/-- Submitted entries not yet fetched (R206). -/
def QueueState.unfetched (x : QueueState) : Nat := (x.tail + 2 ^ x.sqOrder - x.fetch) % 2 ^ x.sqOrder

/-- SQ_HEAD: the oldest uncompleted entry (Table 5-9). -/
def QueueState.sqHead (x : QueueState) : Nat :=
  match x.entries with
  | e :: _ => e.idx
  | [] => x.fetch

/-- The completion record without its PHASE (Table 5-13). [DEDUCED, unsafe, log entry 76] -/
def completionRecord (tideEnd duration energy : Nat) (tag : BitVec 32) (st : Status) (numFlags : BitVec 8) (jobFlags : BitVec 8)
    (result : BitVec 32) (sqHead : Nat) : BitVec 256 :=
  BitVec.ofNat 256 (tideEnd * 2 ^ 192 + min duration 0xFFFFFFFF * 2 ^ 160 + energy * 2 ^ 128 + tag.toNat * 2 ^ 96 +
    st.toNat * 2 ^ 80 + numFlags.toNat * 2 ^ 72 + jobFlags.toNat * 2 ^ 64 + result.toNat * 2 ^ 32 + sqHead % 65536 * 2 ^ 16)

/-- Complete the bad entries that have come to the front: each completes with BAD_ENTRY once every earlier entry has completed (R202). -/
def completeBad (now tide : Nat) : Nat → QueueState → QueueState
  | 0, x => x
  | fuel + 1, x =>
    match x.entries with
    | e :: rest =>
      if e.phase = .bad then
        let x1 := { x with entries := rest }
        let r := completionRecord tide (now - e.start) 0 (entTag e.raw) stBadEntry 0 0 0 x1.sqHead
        completeBad now tide fuel { x1 with held := x1.held ++ [⟨r, none⟩] }
      else x
    | [] => x

/-- JOB_FLAGS that every record of an entry carries (Table 5-13): DEADLINE_MISSED of a RUN whose DEADLINE has passed (R212), and RERUN (R213). -/
def QEntry.flags (e : QEntry) (tide : Nat) : BitVec 8 :=
  let d := entField e.raw 448 64
  (if entType e.raw = 0x02 ∧ d ≠ 0 ∧ d < tide then 0x80 else 0) ||| (if e.rerun then 0x20 else 0)

/-- An entry completes: it leaves the ring's list and its record is held for writing, unless the queue stopped with ERROR after it was fetched (R210, R211). [DEDUCED, unsafe, log entry 76] -/
def State.completeEntry (s : State) (fn q id : Nat) (st : Status) (result : BitVec 32) (numFlags : BitVec 8 := 0)
    (jobFlags : BitVec 8 := 0) (energy : Nat := 0) (again : Option QEntry := none) : State :=
  let x := s.queue fn q
  match x.entries.find? fun e => e.id == id with
  | none => s
  | some e =>
    let x1 := { x with entries := x.entries.filter fun y => y.id != id }
    let r := completionRecord s.tideNat (s.now - e.start) energy (entTag e.raw) st numFlags (jobFlags ||| e.flags s.tideNat) result x1.sqHead
    let x2 := if x.error || e.epoch != x.epoch then x1 else { x1 with held := x1.held ++ [⟨r, again⟩] }
    s.setQueue fn q (completeBad s.now s.tideNat x2.entries.length x2)

/-- The queue stops with ERROR (R210): held records are discarded, unstarted and unfetched entries dropped, and records of running entries will be discarded. -/
def QueueState.stopError (x : QueueState) (st : Status) : QueueState :=
  { x with
    error := true, running := false, lastError := st, held := [], epoch := x.epoch + 1, fetch := x.tail, bells := []
    entries := x.entries.filter fun e => e.phase = .running || e.phase = .waiting }

/-- SQ_TAIL (R206; in CONFIG_LOCKED it is ignored in the same way, R477). -/
def State.sqTailWrite (s : State) (fn q v : Nat) : State :=
  let x := s.queue fn q
  if 2 ^ x.sqOrder ≤ v ∨ x.running = false ∨ (s.ctx fn).tdi = .locked then s.setQueue fn q { x with dbDrop := true }
  else
    let n := (v + 2 ^ x.sqOrder - x.tail) % 2 ^ x.sqOrder
    if n = 0 then s
    else { s.setQueue fn q { x with tail := v, bells := x.bells ++ [(n, s.nextBell)] } with nextBell := s.nextBell + 1 }.count 0xC7 none (some fn) 1

/-- CQ_HEAD (R206, R209): the records below it are consumed and the vector may be raised again. -/
def State.cqHeadWrite (s : State) (fn q v : Nat) : State :=
  let x := s.queue fn q
  if 2 ^ x.cqOrder ≤ v ∨ x.running = false ∨ (s.ctx fn).tdi = .locked then s.setQueue fn q { x with dbDrop := true }
  else (s.setQueue fn q { x with cqHead := v, armed := true }).count 0xC7 none (some fn) 1

/-- ENABLE 0 → 1 (R204, R210): both rings empty at index 0, ERROR cleared; LAST_ERROR stays. Entries that still run keep running, and no record that is held is discarded (R208). -/
def QueueState.start (x : QueueState) (irq : Bool) : QueueState :=
  if x.enable then { x with irqEn := irq }
  else { x with
    enable := true, irqEn := irq, running := true, error := false, tail := 0, fetch := 0, bells := []
    cqTail := 0, cqHead := 0, phase := true, armed := true }

/-- ENABLE written 0 (R210): fetched unstarted entries, refused ones among them, complete with QUEUE_STOPPED, unfetched ones are dropped. -/
def State.queueStop (s : State) (fn q : Nat) (irq : Bool) : State :=
  let x := s.queue fn q
  let stopped := x.entries.filter fun e => e.phase = .fetched || e.phase = .bad
  let s1 := s.setQueue fn q { x with enable := false, irqEn := irq, running := false, fetch := x.tail, bells := [] }
  stopped.foldl (fun s e => s.completeEntry fn q e.id stQueueStopped 0) s1

/-- The place of the next fetched entry among doorbells. -/
def popBell : List (Nat × Nat) → Nat × List (Nat × Nat)
  | [] => (0, [])
  | (n, b) :: rest => if n ≤ 1 then (b, rest) else (b, (n - 1, b) :: rest)

/-- LAST_ERROR of a ring access that cannot be performed (R210): LENGTH_BOUNDS where the ring runs past the CVA space (R195). [DESIGN CHOICE, unsafe, log entry 84] -/
def State.ringFault (s : State) (fn cva len : Nat) : Status := if 2 ^ 38 < cva + len then stLengthBounds else s.readFault fn cva len

/-- RING_ENTRY_FETCH (R202, R210, R214 step 1). -/
def State.fetchEntry (s : State) (fn q : Nat) : State :=
  let x := s.queue fn q
  if x.running && decide (0 < x.unfetched) && !x.full then
    let cva := x.sqBase.toNat / 4096 * 4096 + x.fetch * 64
    match s.readCvaN fn none cva 64 with
    | none => s.setQueue fn q (x.stopError (s.ringFault fn cva 64))
    | some bs =>
      let raw := BitVec.ofNat 512 (leNat bs)
      let b := popBell x.bells
      let e : QEntry := ⟨s.nextId, x.fetch, raw, if entryOk raw then .fetched else .bad, s.now, b.1, false, x.epoch⟩
      let x1 := { x with fetch := (x.fetch + 1) % 2 ^ x.sqOrder, bells := b.2, entries := x.entries ++ [e] }
      { s.setQueue fn q (completeBad s.now s.tideNat 1 x1) with nextId := s.nextId + 1 }
  else s

/-- The first entry of a ring that has not started, with the entries before it. -/
def splitUnstarted : List QEntry → Option (List QEntry × QEntry)
  | [] => none
  | e :: es =>
    if e.phase = .fetched || e.phase = .bad then some ([], e)
    else (splitUnstarted es).map fun p => (e :: p.1, p.2)

/-- The entry of a ring that may start now with this TYPE (R202, R208): the first that has not started; with CONCURRENT = 1 it waits only for earlier entries to start, else for them to complete; nothing starts while the completion ring is full. -/
def State.nextEntry (s : State) (fn q ty : Nat) : Option QEntry :=
  let x := s.queue fn q
  match splitUnstarted x.entries with
  | some (before, e) =>
    if e.phase = .fetched ∧ entType e.raw = ty ∧ (before.isEmpty ∨ entConcurrent e.raw = true) ∧
        x.error = false ∧ x.full = false then some e else none
  | none => none

/-- Mark an entry as started. -/
def State.startEntry (s : State) (fn q id : Nat) (ph : EntryPhase) : State :=
  let x := s.queue fn q
  s.setQueue fn q { x with entries := x.entries.map fun e => if e.id = id then { e with phase := ph, start := s.now } else e }

/-- Start and complete an entry at once. -/
def State.runEntry (s : State) (fn q : Nat) (e : QEntry) (st : Status) (result : BitVec 32) : State :=
  (s.startEntry fn q e.id .running).completeEntry fn q e.id st result

/-- RESULT for a validation code (Table 5-14): WHERE and index. [DEDUCED, unsafe, log entry 26] -/
def whereResult (w i : Nat) : BitVec 32 := BitVec.ofNat 32 (w * 2 ^ 28 + i % 2 ^ 28)

/-- The record as it is written: a JOB_FAULT record whose run is requeued carries REQUEUED, only while the queue is RUNNING (R213). -/
def QueueState.finalRecord (x : QueueState) (r : HeldRecord) : BitVec 256 :=
  let b := if x.phase then r.bits ||| 1 else r.bits
  if r.again.isSome && x.running then b ||| (1 <<< 70) else b

/-- Place a rerun ahead of all unstarted entries of the ring (R213). -/
def placeRerun (e : QEntry) (es : List QEntry) : List QEntry :=
  let started (y : QEntry) : Bool := y.phase = .running || y.phase = .waiting
  es.filter started ++ [e] ++ es.filter fun y => !started y

/-- Write the oldest held record into the completion ring (R208, R209); a write that cannot be performed stops the queue with ERROR (R210). [DEDUCED, unsafe, log entry 76] -/
def State.writeRecord (s : State) (fn q : Nat) : State :=
  let x := s.queue fn q
  match x.held with
  | [] => s
  | r :: rest =>
    if x.full || x.error then s
    else
      let cva := x.cqBase.toNat / 4096 * 4096 + x.cqTail * 32
      let r' := x.finalRecord r
      let entries := match r.again with
        | some e => if x.running then placeRerun e x.entries else x.entries
        | none => x.entries
      if !s.cvaMapped fn cva 32 then s.setQueue fn q (x.stopError (if 2 ^ 38 < cva + 32 then stLengthBounds else stNotMapped))
      else
        match s.writeCvaN fn none cva (leBytes 32 r'.toNat) with
        | .error st => s.setQueue fn q (x.stopError st)
        | .ok s1 =>
          let tail := (x.cqTail + 1) % 2 ^ x.cqOrder
          let raise := x.irqEn && x.armed
          let x1 := { x with
            held := rest, entries := entries, cqTail := tail, phase := if tail = 0 then !x.phase else x.phase
            armed := if raise then false else x.armed }
          let s2 := s1.setQueue fn q x1
          if raise then s2.emit (.msix fn q) else s2

/-- A waiting entry's ADDR holds at least VALUE; an unmapped ADDR reads as 0 (R203). -/
def State.waitMet (s : State) (fn : Nat) (e : QEntry) : Bool :=
  let v := match s.readCvaN fn none (entField e.raw 448 64) 8 with
    | some bs => leNat bs
    | none => 0
  decide (entField e.raw 384 64 ≤ v)

/-- The WAIT of a ring that is testing. -/
def State.waitingEntry (s : State) (fn q : Nat) : Option QEntry :=
  (s.queue fn q).entries.find? fun e => e.phase = .waiting

end Sys2Proof.Machine
end

