-- ==== Sys2Proof/Machine/Gate.lean ====
section
/-! DEFINITION. The gate on host accesses: which accesses of the windows a function may make in the module's present state (R15, R469, R542, R644, R734, R741), and whether work may start. -/

namespace Sys2Proof.Machine

/-- A window of a function. -/
inductive Win where
  | w0 | w2 | w4
  deriving DecidableEq, Repr

/-- A host access: function, window, offset, size in bytes, whether it writes, whether the write starts work (R741), and the command that carries it. -/
structure HostAccess where
  fn : Nat
  win : Win
  off : Nat
  size : Nat
  write : Bool
  starts : Bool
  cmd : Instr

/-- The address of an access as the trace gives it: W2 lies above 2^27. -/
def HostAccess.addr (a : HostAccess) : Nat := if a.win = .w2 then 2 ^ 27 + a.off else a.off

/-- What becomes of a host access: performed; read as 0 or discarded; the same and counted (R644); held until the module is awake (R542); or unanswered, because there is no link. -/
inductive HostGate where
  | allow | zero | dropped | hold | noLink
  deriving DecidableEq, Repr

/-- An offset lies in a range. -/
def within (off lo n : Nat) : Bool := decide (lo ≤ off) && decide (off < lo + n)

/-- The function answers on PCIe: the module is powered and not in Off, PERST_N is not asserted, configuration is reached (Table 19-8), and a VF is enabled. [DESIGN CHOICE, unsafe, log entry 13] -/
def State.fnPresent (s : State) (fn : Nat) : Bool :=
  s.board.powered && s.power.mode != 4 && s.board.perstN && (s.board.ready || s.board.stage != 0) &&
    (fn == 0 || s.config.valAt 0 0 == 1)

/-- Answered before ready (R734), and in recovery (R677): the UPD_ registers of PF0, MBX_DOMAIN and the non-secure mailbox channels. -/
def State.bootOpen (s : State) (a : HostAccess) : Bool :=
  (a.win == .w0 && a.fn == 0 && within a.off 0x502000 8) ||
    (s.board.stage == 8 &&
      ((a.win == .w0 && a.fn == 0 && within a.off 0x800000 0x20) || (a.win == .w2 && (within a.off 0x10000 0x400 || within a.off 0x10800 4))))

/-- A register of a unit that Slack holds (Table 16-7): W4, the page manager, queues, host DMA, codec and fabric transfer registers, and the doorbells. -/
def HostAccess.ofHeldUnit (a : HostAccess) : Bool :=
  match a.win with
  | .w4 => true
  | .w2 => decide (a.off < 0x10000)
  | .w0 => within a.off 0x200000 0x50000 || within a.off 0x300000 0x400 || within a.off 0x701000 0x48

/-- The exceptions of R469. [DEDUCED, unsafe, log entry 39] -/
def HostAccess.exemptInTeardown (a : HostAccess) : Bool :=
  match a.win with
  | .w4 => false
  | .w2 => a.fn == 0 && (within a.off 0x10400 0x200 || within a.off 0x10800 4)
  | .w0 => within a.off 0x400000 4 ||
    (a.fn == 0 && (within a.off 0x400100 0x180 || within a.off 0x500100 0x120 || within a.off 0x501000 4 || within a.off 0x501100 0x30 ||
      within a.off 0x502000 12 || within a.off 0x800000 0x20 || within a.off 0x610000 0x90000 || within a.off 0x700100 0x40))

/-- Served without raising the state (R542). [DEDUCED, unsafe, log entry 39] -/
def HostAccess.servedAsleep (a : HostAccess) : Bool :=
  match a.win with
  | .w4 => false
  | .w2 => within a.off 0x10000 0x804
  | .w0 => within a.off 0x500000 8 || within a.off 0x500100 0x120 || within a.off 0x610000 12

/-- The module is in Sleep or Deep Sleep, on its way there, or on its way out. -/
def State.asleep (s : State) : Bool := decide (2 ≤ s.power.mode) || s.power.entering.isSome || s.power.exiting.isSome

/-- The gate. [DEDUCED, unsafe, log entry 33; DEDUCED, unsafe, log entry 38] -/
def State.gate (s : State) (a : HostAccess) : HostGate :=
  if !s.fnPresent a.fn then .noLink
  else if !s.board.ready then (if s.bootOpen a then .allow else .zero)
  else if !s.slackRuns && a.ofHeldUnit then .dropped
  else if (s.ctx a.fn).shut && !a.exemptInTeardown then .zero
  else if s.pair.role == .leaving && a.starts then .zero
  else if s.asleep && !a.servedAsleep then .hold
  else .allow

/-- A wake event reaches the wake logic: the first one is recorded (R544). -/
def State.wakeBy (s : State) (source holder domain detail : Nat) : State :=
  match s.power.wake with
  | some _ => s
  | none => { s with power := { s.power with wake := some ⟨source, holder, domain, detail, s.tideNat, !s.tide.stepped⟩ } }

/-- What a read that is not performed returns. -/
def State.readsZero (s : State) (a : HostAccess) : State :=
  if a.write then s
  else if a.win = .w4 then s.emit (.readBytes a.fn a.off (List.replicate a.size 0))
  else s.emit (.readData a.fn a.addr a.size 0)

/-- DETAIL of wake source 0x01 (Table 13-9). -/
def HostAccess.detail (a : HostAccess) : Nat :=
  a.fn * 2 ^ 60 + (match a.win with | .w0 => 0 | .w2 => 1 | .w4 => 2) * 2 ^ 58 + a.off % 2 ^ 38

/-- Keep a command until the module is awake, and wake it (R542, R544). -/
def State.holdFor (s : State) (cmd : Instr) (source detail : Nat) : State :=
  let s1 := s.wakeBy source 0xFF 0xF detail
  { s1 with power := { s1.power with held := s1.power.held ++ [cmd] } }

/-- A host access. [DEDUCED, unsafe, log entry 39] -/
def State.hostAccess (s : State) (a : HostAccess) (k : State → State) : Host.Outcome State Fault Refusal :=
  match s.gate a with
  | .allow => .next (k s)
  | .zero => .next (s.readsZero a)
  | .dropped => .next ((s.readsZero a).bump 0x660008)
  | .hold => .next (s.holdFor a.cmd 0x01 a.detail)
  | .noLink => .next s

/-- A doorbell: a 32-bit write to W2 below 0x0001_0000. Those of streams and codec sessions are ignored in CONFIG_LOCKED (R477); queues and rings judge it themselves (R206). [DEDUCED, unsafe, log entry 39] -/
def State.doorbell (s : State) (fn off : Nat) (cmd : Instr) (k : State → State) : Host.Outcome State Fault Refusal :=
  s.hostAccess ⟨fn, .w2, off, 4, true, true, cmd⟩ fun s =>
    if (s.ctx fn).tdi = .locked ∧ 0x1000 ≤ off ∧ off < 0x3000 then s else k s

/-- A doorbell has been accepted (counter source 0xC7). -/
def State.rung (s : State) (fn : Nat) : State := s.count 0xC7 none (some fn) 1

/-- A write to a W0 register. -/
def State.regWrite (s : State) (fn off : Nat) (starts : Bool) (cmd : Instr) (k : State → State) : Host.Outcome State Fault Refusal :=
  s.hostAccess ⟨fn, .w0, off, 4, true, starts, cmd⟩ k

/-- A read of a W0 register. -/
def State.regRead (s : State) (fn off size : Nat) (cmd : Instr) (k : State → State) : Host.Outcome State Fault Refusal :=
  s.hostAccess ⟨fn, .w0, off, size, false, false, cmd⟩ k

/-- The units that Slack holds (Table 16-7) work: the module is powered, ready and awake, and not stopped. -/
def State.clocked (s : State) : Bool := s.board.powered && s.board.ready && s.slackRuns && !s.asleep

/-- Work of contexts may start: the units work, the feed is not lost (R722), the tray is not in role LEAVING (R741). -/
def State.unitsRun (s : State) : Bool := s.clocked && !s.board.lost && s.pair.role != .leaving

/-- Regions and codec cores may start work: units run, no chip-level fault persists or is being recovered from (R704), no thermal trip holds (R564). -/
def State.computeOpen (s : State) : Bool :=
  s.unitsRun && s.integ.persistent.isNone && s.integ.recovering.isNone && !s.limits.tripped

/-- The context is the running context, no switch away from it and no clear is in progress (R461, R462). -/
def State.ctxRunning (s : State) (c : Nat) : Bool :=
  s.sched.running == some c && s.sched.switching.isNone && s.sched.clearing.isNone

/-- Work starts: Idle passes to Run (Table 13-4). -/
def State.workStarts (s : State) : State := if s.power.mode = 1 then { s with power := { s.power with mode := 0 } } else s

end Sys2Proof.Machine
end

