-- ==== Sys2Proof/Machine/PageCommands.lean ====
section
/-! DEFINITION. The commands of device memory and the page manager (04_device_memory_and_page_manager.md): W4 accesses, page commands, copy-on-write and the fill engine. -/

namespace Sys2Proof.Machine

/-- The CVA of a W4 offset: PGM_W4_BASE.WINDOW selects 64 GiB (Table 4-14). -/
def State.w4Cva (s : State) (fn off : Nat) : Nat := s.reg fn 0x200030 % 4 * 2 ^ 36 + off

/-- One byte of a W4 read: unmapped reads as 0 (Table 4-2). -/
def State.w4Byte (s : State) (fn cva : Nat) : Byte := (s.readCva fn none cva).getD 0

/-- A read of a CVA delivers poison (R36). -/
def State.cvaLost (s : State) (fn cva : Nat) : Bool := match s.translate fn none cva with | some t => s.dpaLost t.2 | none => false

/-- W4_READ (R142): the bytes, or a completion marked poisoned where one of them is poison (R36). [DEDUCED, unsafe, log entry 80] -/
def execW4Read (fn : Fn) (off : BitVec 36) (len : BitVec 13) (s : State) : Host.Outcome State Fault Refusal :=
  s.hostAccess ⟨fn.val, .w4, off.toNat, len.toNat, false, false, .w4Read fn off len⟩ fun s =>
    let cva := s.w4Cva fn.val off.toNat
    if (List.range len.toNat).any fun i => s.cvaLost fn.val (cva + i) then s.emit (.poisoned fn.val off.toNat)
    else s.emit (.readBytes fn.val off.toNat ((List.range len.toNat).map fun i => s.w4Byte fn.val (cva + i)))

/-- One byte of a W4 write: stored on a page with reference count 1, else discarded; the answer says whether it was discarded (Table 4-2). -/
def State.w4Store (s : State) (fn cva : Nat) (b : Byte) : State × Bool :=
  match s.translate fn none cva with
  | some (f, dpa) => if s.refsOf f ≤ 1 then ({ s with hbm := s.hbm.write dpa b }, false) else (s, true)
  | none => (s, true)

/-- The bytes of a W4 write. -/
def State.w4Stores (s : State) (fn cva : Nat) : List Byte → State × Bool
  | [] => (s, false)
  | b :: bs =>
    let r := s.w4Store fn cva b
    let t := State.w4Stores r.1 fn (cva + 1) bs
    (t.1, r.2 || t.2)

/-- A write that discards any of its bytes counts once (R142); PGM_W4_DROPS saturates (Table 4-10). -/
def State.countDrop (s : State) (fn : Nat) : State :=
  (s.setReg fn 0x200040 (min 0xFFFFFFFF (s.reg fn 0x200040 + 1))).bump 0x620005

/-- W4_WRITE (R142). -/
def execW4Write (fn : Fn) (off : BitVec 36) (bytes : List Byte) (s : State) : Host.Outcome State Fault Refusal :=
  s.hostAccess ⟨fn.val, .w4, off.toNat, bytes.length, true, true, .w4Write fn off bytes⟩ fun s =>
    let r := s.w4Stores fn.val (s.w4Cva fn.val off.toNat) bytes
    if r.2 then r.1.countDrop fn.val else r.1

/-- PGM_W4_DROPS_READ: a read clears (Table 4-10). -/
def execPgmW4DropsRead (fn : Fn) (s : State) : Host.Outcome State Fault Refusal :=
  s.regRead fn.val 0x200040 4 (.pgmW4DropsRead fn) fun s =>
    (s.emit (.readData fn.val 0x200040 4 (s.reg fn.val 0x200040))).setReg fn.val 0x200040 0

/-- A page command ends: the register path stores STATUS (and, after QUERY, RESULT); a ring entry completes (Tables 4-12, 4-13, 5-14). [DESIGN CHOICE, unsafe, log entry 84] -/
def State.pageFinish (s : State) (src : PageSrc) (isQuery : Bool) (st : Status) (result : BitVec 64) : State :=
  match src with
  | .regs fn => s.pathDone 0 fn st (if isQuery && st == stOk then some result else none)
  | .ring fn q =>
    match (s.queue fn q).entries.find? fun e => e.phase = .running && entType e.raw == 4 with
    | some e =>
      let ok := isQuery && st == stOk
      s.completeEntry fn q e.id st (if ok then result.extractLsb' 32 32 else 0) 0 (if ok && result.getLsbD 31 then 1 else 0)
    | none => s

/-- A page command reaches the page manager (R184, R198). An opcode that Table 4-4 does not list ends at once (R156). -/
def State.pageSubmit (s : State) (src : PageSrc) (record : BitVec 256) : State :=
  let c : PmCmd := ⟨src, (s.ctx (PageSrcFn src)).gen, record⟩
  if 1 ≤ recOpcode record ∧ recOpcode record ≤ 8 then { s with pm := { s.pm with queue := s.pm.queue ++ [c] } }
  else s.pageFinish src false ((s.judgePage c).getD stBadPageCommand) 0

/-- The oldest page command of a source executes, when it has this opcode (R156, R158). [DEDUCED, unsafe, log entry 25] -/
def State.pageExec (s : State) (src : PageSrc) (opcode : Nat) (f : State → PmCmd → PageAnswer) : Host.Outcome State Fault Refusal :=
  if !s.unitsRun then .next s else
  match s.nextPageCmd src opcode with
  | none => .next s
  | some (c, rest) =>
    let a := f { s with pm := { s.pm with queue := rest } } c
    let told := a.state.strand pageManagerId 0x23 (some (PageSrcFn src)) (opcode * 2 ^ 24 + (a.status.getD 0).toNat)
    match a.status with
    | none => .next told
    | some st => .next (told.pageFinish src (opcode == 7) st a.result)

/-- ALLOC (Table 4-4). -/
def execAlloc (src : PageSrc) (s : State) : Host.Outcome State Fault Refusal := s.pageExec src 1 State.pageAlloc
/-- RELEASE (Table 4-4, R157). -/
def execRelease (src : PageSrc) (s : State) : Host.Outcome State Fault Refusal := s.pageExec src 2 State.pageRelease
/-- SHARE (Table 4-4). -/
def execShare (src : PageSrc) (s : State) : Host.Outcome State Fault Refusal := s.pageExec src 3 State.pageShare
/-- COPY (Table 4-4). -/
def execCopy (src : PageSrc) (s : State) : Host.Outcome State Fault Refusal := s.pageExec src 4 State.pageCopy
/-- PIN (Table 4-4). -/
def execPin (src : PageSrc) (s : State) : Host.Outcome State Fault Refusal := s.pageExec src 5 State.pagePin
/-- UNPIN (Table 4-4). -/
def execUnpin (src : PageSrc) (s : State) : Host.Outcome State Fault Refusal := s.pageExec src 6 State.pageUnpin
/-- QUERY (Table 4-4). -/
def execQuery (src : PageSrc) (s : State) : Host.Outcome State Fault Refusal := s.pageExec src 7 State.pageQuery
/-- ZERO (Table 4-4). -/
def execZero (src : PageSrc) (s : State) : Host.Outcome State Fault Refusal := s.pageExec src 8 State.pageZero

/-- RELEASE_WAIT_END (R157): the oldest waiting RELEASE of the source on whose range nothing is pinned executes now. [DEDUCED, unsafe, log entry 25] -/
def execReleaseWaitEnd (src : PageSrc) (s : State) : Host.Outcome State Fault Refusal :=
  if !s.clocked then .next s else
  match takeFirst (fun c => c.src == src && !(s.somePage c fun f => decide (0 < f.pins))) s.pm.waits with
  | none => .next s
  | some (c, rest) =>
    let a := State.pageRelease { s with pm := { s.pm with waits := rest } } c
    match a.status with
    | none => .next a.state
    | some st => .next (a.state.pageFinish src false st 0)

/-- A job ends early with this status at an operator; the first fault stands. -/
def Job.failAt (j : Job) (st : Status) (op : Nat) : Job := { j with fault := some (j.fault.getD (st, op)) }

/-- The first operator of a job that is issued: where a stalled write belongs. -/
def Job.activeOp (j : Job) : Nat := (j.ops.findIdx? fun p => p = .issued || p = .computed).getD 0

/-- COW_BREAK (R161 step 1, R162): a block of a job writes to a page whose count is above 1. A second write through the same mapping waits for the same copy (Table 4-5). -/
def execCowBreak (job : Nat) (cva : BitVec 38) (bytes : List Byte) (s : State) : Host.Outcome State Fault Refusal :=
  if !s.clocked then .next s else
  match s.jobs.look job with
  | none => .next s
  | some j =>
    match s.translate j.ctx (some j.seq) cva.toNat with
    | none => .next s
    | some (old, _) =>
      if s.writableInPlace j.ctx (some j.seq) cva.toNat then .next s
      else
        let place := (s.mappingOf j.ctx (some j.seq) cva.toNat).getD (0, none)
        let stall (new : Nat) : CowStall := ⟨job, j.ctx, place.1, place.2, old, new, cva.toNat, bytes, false⟩
        match s.pendingCopy j.ctx (some j.seq) cva.toNat with
        | some w => .next { s with pm := { s.pm with stalls := s.pm.stalls.put s.nextId (stall w.new) }, nextId := s.nextId + 1 }
        | none =>
          match s.cowFrame j.ctx (some j.seq) cva.toNat with
          | .error st => .next { s with jobs := s.jobs.put job (j.failAt st j.activeOp) }
          | .ok (s1, new) =>
            let k := ((s1.frame old).map (·.k)).getD 0
            .next { s1 with
              pm := { s1.pm with stalls := s1.pm.stalls.put s1.nextId (stall new), copies := s1.pm.copies ++ [⟨old, new, k, .cow s1.nextId⟩] }
              nextId := s1.nextId + 1 }

/-- COW_COPY_DONE (R161 steps 3 and 4): the writer's CVA is remapped to the copy, the old page loses a reference, and the write proceeds into the copy. -/
def execCowCopyDone (stall : Nat) (s : State) : Host.Outcome State Fault Refusal :=
  if !s.clocked then .next s else
  match s.pm.stalls.look stall with
  | none => .next s
  | some w =>
    if w.copied then
      let s1 := { s with pm := { s.pm with stalls := s.pm.stalls.del stall } }
      match s.jobs.look w.job with
      | none =>
        .next (if (s1.pm.stalls.vals.any fun x => x.new == w.new) || (s1.translate w.ctx none w.cva).map (·.1) == some w.new then s1 else s1.unref w.new)
      | some j =>
        let s2 := match s1.translate w.ctx (some j.seq) w.cva with
          | some (f, _) => if f = w.new then s1 else s1.cowRemap w.ctx (some j.seq) w.cva w.new
          | none => s1.unref w.new
        match s2.writeCvaN w.ctx (some j.seq) w.cva w.bytes with
        | .ok s3 => .next s3
        | .error st => .next { s2 with jobs := s2.jobs.put w.job (j.failAt st j.activeOp) }
    else .next s

/-- Work of a source in the fill engine gets one frame done; the last one completes the command (R159). -/
def State.workDone (s : State) (src : PageSrc) : State :=
  match takeFirst (fun w => w.cmd.src == src) s.pm.work with
  | none => s
  | some (w, rest) =>
    if w.left ≤ 1 then { s with pm := { s.pm with work := rest } }.pageFinish src false stOk 0
    else { s with pm := { s.pm with work := { w with left := w.left - 1 } :: rest } }

/-- The content of a frame is zero-filled: none of its units stays lost. -/
def State.zeroFrame (s : State) (f k : Nat) : State :=
  { s with
    hbm := s.hbm.zeroRange (f * granule) ((f + 2 ^ k) * granule)
    integ := { s.integ with lost := s.integ.lost.filter fun u => !inUnits f k u } }

/-- Frames of 4 KiB that are retired (R151). -/
def State.retiredCount (s : State) : Nat := ((s.pm.frames.vals.filter fun f => f.phase = .retired).map fun f => 2 ^ f.k).sum

/-- FILL_FRAME_DONE (R149, R151, R166, R169): the frame at the head of the fill queue is zero; a released one returns to the free pool unless it is marked for retirement. -/
def execFillFrameDone (dt : Nat) (s0 : State) : Host.Outcome State Fault Refusal :=
  if !s0.clocked then .next (s0.elapse dt) else
  let s := s0.elapse dt
  match s.pm.fills with
  | [] => .next s
  | i :: rest =>
    let k := ((s.frame i.frame).map (·.k)).getD 0
    let s1 := ({ s with pm := { s.pm with fills := rest } }.zeroFrame i.frame k).bumpBy 0x620004 (2 ^ k * granule)
    match i.why with
    | .scrub _ => .next s
    | .zero src => .next (s1.workDone src)
    | .free =>
      match s1.frame i.frame with
      | none => .next s1
      | some p =>
        if p.retire then
          .next { s1 with pm := { s1.pm with frames := s1.pm.frames.put i.frame { p with phase := .retired } } }
        else .next { s1 with pm := { s1.pm with frames := s1.pm.frames.del i.frame } }

/-- COPY_FRAME_DONE (R170, R161 step 2, R159): the copy at the head of the copy queue is made. -/
def execCopyFrameDone (dt : Nat) (s0 : State) : Host.Outcome State Fault Refusal :=
  if !s0.clocked then .next (s0.elapse dt) else
  let s := s0.elapse dt
  match s.pm.copies with
  | [] => .next s
  | c :: rest =>
    let s1 := { s with pm := { s.pm with copies := rest } }.copyFrame c.source c.dest c.k
    match c.why with
    | .copy src ctx g =>
      let s2 := match s1.pageAt ctx g c.k with
        | some m => if m.frame = c.source then s1.remapPage ctx g c.k c.dest c.source else s1.unref c.dest
        | none => s1.unref c.dest
      .next (s2.workDone src)
    | .cow _ =>
      .next { s1 with pm := { s1.pm with stalls := s1.pm.stalls.mapVals fun _ w => if w.new = c.dest then { w with copied := true } else w } }

end Sys2Proof.Machine
end

