-- ==== Sys2Proof/Machine/Kv.lean ====
section
/-! DEFINITION. KV pages, page tables, their edits and walks (08_attention_and_kv_pages.md). -/

namespace Sys2Proof.Machine

/-- Element bits of a KV page format (Table 8-1). -/
def kvBits : Nat → Nat
  | 0 => 16
  | 5 => 4
  | _ => 8

/-- The element format of a KV page format (Table 8-1). -/
def kvFmt : Nat → Fmt
  | 0 => .bf16
  | 1 => .fp8e4m3
  | 2 => .fp8e5m2
  | 3 => .mxfp8e4m3
  | 4 => .int8
  | _ => .int4

/-- Positions of a span or page (R301). -/
def kvTokens (tcode : Nat) : Nat := 16 * 2 ^ tcode

def r64 (x : Nat) : Nat := roundUp x 64

/-- Scale bytes for one head and position of D elements (R304). -/
def kvScaleBytes (fmt d : Nat) : Nat := if fmt = 3 then d / 32 else if fmt = 5 then d / 16 else 0

/-- V_OFFSET, KS_OFFSET, VS_OFFSET and the end of a page (R305). -/
def kvOffsets (fmt t hkv d dv : Nat) : Nat × Nat × Nat × Nat :=
  let vOff := r64 (hkv * t * d * kvBits fmt / 8)
  let ksOff := r64 (vOff + hkv * t * dv * kvBits fmt / 8)
  let vsOff := r64 (ksOff + hkv * t * kvScaleBytes fmt d)
  (vOff, ksOff, vsOff, vsOff + hkv * t * kvScaleBytes fmt dv)

/-- PAGE_K: the least k with 4 KiB · 2^k at least the end, if one up to 12 is (R305). -/
def kvPageK (fmt t hkv d dv : Nat) : Option Nat :=
  (List.range 13).find? fun k => decide ((kvOffsets fmt t hkv d dv).2.2.2 ≤ granule * 2 ^ k)

/-- The geometry of a table is legal (R305, R310). -/
def kvGeomOk (layers hkv d dv : Nat) : Bool :=
  decide (1 ≤ layers) && decide (layers ≤ 512) && decide (1 ≤ hkv) && decide (hkv ≤ 128) &&
    d % 16 == 0 && decide (16 ≤ d) && decide (d ≤ 256) && dv % 16 == 0 && decide (16 ≤ dv) && decide (dv ≤ 256)

/-- The geometry of a span is legal (R301, R303, R305). -/
def kvSpanOk (t : KvTable) (tcode fmt : Nat) : Bool :=
  decide (tcode ≤ 6) && decide (fmt ≤ 5) && (fmt != 3 || (t.d % 32 == 0 && t.dv % 32 == 0)) &&
    (kvPageK fmt (kvTokens tcode) t.hkv t.d t.dv).isSome

/-- Positions of the spans of a list. -/
def spanTokens (l : List KvSpan) : Nat := (l.map fun x => kvTokens x.tcode).sum

/-- PTE_COUNT = SPANS · LAYERS (Table 8-3). -/
def KvTable.entryCount (t : KvTable) : Nat := t.spans.length * t.layers

def State.kvTable (s : State) (id : Nat) : Option KvTable := s.kv.tables.look id
def State.setTable (s : State) (id : Nat) (t : KvTable) : State := { s with kv := { s.kv with tables := s.kv.tables.put id t } }
def State.kvPage (s : State) (slot : Nat) : Option KvPage := s.kv.pages.look slot
def KvTable.bumped (t : KvTable) : KvTable := { t with version := t.version + 1 }

/-- Unused page-table entries of the pool (KVT_FREE_ENTRIES, R309). -/
def State.kvFreeEntries (s : State) : Nat := 33030144 - (s.kv.blocks.map (·.2)).sum

/-- A table identifier or page-header slot that is free: the free choice where it is free, else the lowest (the spec does not say which). -/
def State.freeSlot {α : Type} (s : State) (m : Store α) (n i : Nat) : Option Nat :=
  let f := s.pick i % n
  if (m.look f).isNone then some f else m.freeFrom n 0

/-- An entry block of `n` entries is free at `b`. -/
def State.blockFree (s : State) (n b : Nat) : Bool :=
  decide (b + n ≤ 33030144) && s.kv.blocks.all fun e => !overlaps b n e.1 e.2

/-- Take an entry block: the free choice where it is free, else the first that fits (R309). -/
def State.takeBlock (s : State) (n : Nat) : Option (State × Nat) :=
  let cands := (s.pick 2 % 33030144) :: 0 :: s.kv.blocks.map fun e => e.1 + e.2
  (cands.find? (s.blockFree n)).map fun b => ({ s.draw with kv := { s.kv with blocks := s.kv.blocks.put b n } }, b)

/-- Release an entry block. -/
def State.dropBlock (s : State) (b : Nat) : State := { s with kv := { s.kv with blocks := s.kv.blocks.del b } }

/-- A page-table entry no longer names a page: its reference ends, and the header goes with the last one (R302). -/
def State.kvUnref (s : State) (slot : Nat) : State :=
  match s.kvPage slot with
  | none => s
  | some p =>
    let s1 := s.unref p.frame
    if s.refsOf p.frame ≤ 1 then { s1 with kv := { s1.kv with pages := s1.kv.pages.del slot } } else s1

/-- Release every entry of spans. -/
def State.kvUnrefSpans (s : State) (l : List KvSpan) : State :=
  (l.flatMap fun x => x.entries).foldl (fun s e => s.kvUnref e.slot) s

/-- 1.0 as an FP32 code. -/
abbrev oneF32 : BitVec 32 := 0x3F800000

/-- Allocate one zero-filled KV page: its slot (R302, R307, R313). -/
def State.kvNewPage (s : State) (t : KvTable) (layer tcode fmt : Nat) (spec : Bool) : Except Status (State × Nat) :=
  match kvPageK fmt (kvTokens tcode) t.hkv t.d t.dv with
  | none => .error stKvtGeometry
  | some k =>
    if 4194304 ≤ s.kv.pages.length then .error stKvPageLimit
    else if !s.quotaOk t.ctx 1 k then .error stQuotaExceeded
    else
      match s.freeSlot s.kv.pages 4194304 1 with
      | none => .error stKvPageLimit
      | some slot =>
        match s.takeFrame (.ctx t.ctx (s.ctx t.ctx).gen) none k 1 spec with
        | none => .error stNoMemory
        | some (s1, f) =>
          let p : KvPage := ⟨f, k, fmt, tcode, spec, t.ctx, t.gen, layer, t.hkv, t.d, t.dv, oneF32, oneF32⟩
          .ok ({ s1 with kv := { s1.kv with pages := s1.kv.pages.put slot p } }, slot)

/-- Allocate one page per layer, from layer `l` on. -/
def State.kvNewPages (s : State) (t : KvTable) (tcode fmt : Nat) (spec : Bool) : Nat → Nat → List KvEntry → Except Status (State × List KvEntry)
  | 0, _, acc => .ok (s, acc)
  | n + 1, l, acc =>
    match s.kvNewPage t l tcode fmt spec with
    | .error e => .error e
    | .ok (s1, slot) => State.kvNewPages s1 t tcode fmt spec n (l + 1) (acc ++ [⟨slot, 0⟩])

/-- The table's entry block holds `n` entries, moving to a larger one when it is full (R309); the old block stays while walks hold it (R334). -/
def State.growBlock (s : State) (id : Nat) (t : KvTable) (n : Nat) : Option (State × KvTable) :=
  let have' := (s.kv.blocks.look t.base).getD 0
  if n ≤ have' then some (s, t)
  else
    let size := if have' = 0 then 1 else have'
    let grow := ((List.range 26).map fun i => size * 2 ^ i).find? fun z => decide (n ≤ z)
    match grow with
    | none => none
    | some z =>
      match s.takeBlock z with
      | none => none
      | some (s1, b) =>
        if have' = 0 then some (s1, { t with base := b })
        else if s1.kv.walks.vals.any fun w => w.table == id then
          some ({ s1 with kv := { s1.kv with oldBlocks := s1.kv.oldBlocks ++ [(⟨t.base, id, t.epoch⟩ : KvOldBlock)] } }.bump 0x630007,
            { t with base := b, epoch := t.epoch + 1 })
        else some (s1.dropBlock t.base, { t with base := b })

/-- An edit answers with a status and leaves the state unchanged. -/
def State.kvSay (s : State) (st : Status) : State × Status := ({ s with kv := { s.kv with answer := st } }, st)

/-- CREATE (Table 8-5): the new table's identifier with the status. [DEDUCED, unsafe, log entry 27] -/
def State.kvCreate (s : State) (c : Nat) (kind layers hkv d dv : Nat) : State × Status × Nat :=
  let fail (st : Status) : State × Status × Nat := ((s.kvSay st).1, st, 0)
  if (s.ctx c).mode ≠ .active ∧ (s.ctx c).mode ≠ .locked then fail stCtxGone
  else if !kvGeomOk layers hkv d dv || decide (2 < kind) then fail stKvtGeometry
  else
    match s.freeSlot s.kv.tables 65536 0 with
    | none => fail stKvtPoolFull
    | some id =>
      match s.draw.takeBlock 1 with
      | none => fail stKvtPoolFull
      | some (s1, b) =>
        let t : KvTable := ⟨c, (s.ctx c).gen, kind, layers, hkv, d, dv, 0, 0, 0, [], b, none⟩
        (((s1.setTable id t).kvSay stOk).1, stOk, id)

/-- A table that an edit may change: it exists and its owner is alive (Table 8-10). -/
def State.kvOwner (s : State) (id : Nat) : Except Status KvTable :=
  match s.kvTable id with
  | none => .error stKvtNoTable
  | some t => if s.ctxLive t.ctx t.gen then .ok t else .error stCtxGone

/-- EXTEND (Table 8-5). [DEDUCED, unsafe, log entry 27] -/
def State.kvExtend (s : State) (id tcode fmt : Nat) : State × Status :=
  match s.kvOwner id with
  | .error e => s.kvSay e
  | .ok t =>
    let start := spanTokens t.spans
    if !kvSpanOk t tcode fmt then s.kvSay stKvtGeometry
    else if start % kvTokens tcode ≠ 0 then s.kvSay stKvtAlign
    else if 1048576 < start + kvTokens tcode then s.kvSay stLengthBounds
    else
      match s.growBlock id t (t.entryCount + t.layers) with
      | none => s.kvSay stKvtPoolFull
      | some (s1, t1) =>
        match s1.kvNewPages t1 tcode fmt false t1.layers 0 [] with
        | .error e => s.kvSay e
        | .ok (s2, es) => (s2.setTable id ({ t1 with spans := t1.spans ++ [(⟨tcode, es⟩ : KvSpan)] }).bumped).kvSay stOk

/-- Where a position of the main spans lies: span index and offset in it. -/
def spanAt : List KvSpan → Nat → Nat → Option (Nat × Nat)
  | [], _, _ => none
  | x :: xs, i, p => if p < kvTokens x.tcode then some (i, p) else spanAt xs (i + 1) (p - kvTokens x.tcode)

/-- The entry that holds a position of a layer in the main spans, and the position within its page. -/
def KvTable.mainEntry (t : KvTable) (layer p : Nat) : Option (KvEntry × Nat) :=
  (spanAt t.spans 0 p).bind fun l => ((t.spans[l.1]?).bind fun x => x.entries[layer]?).map fun e => (e, l.2)

/-- The entry that holds a position of a layer, and the position within its page; the overlay from SPEC_FROM on when `spec` (R340, R341). -/
def KvTable.entryAt (t : KvTable) (layer p : Nat) (spec : Bool) : Option (KvEntry × Nat) :=
  match t.overlay with
  | some o =>
    if spec ∧ o.start ≤ p then
      let w0 := o.start / 16 * 16
      (o.entries[(p - w0) / 16 * t.layers + layer]?).map fun e => (e, (p - w0) % 16)
    else t.mainEntry layer p
  | none => t.mainEntry layer p

/-- The page that holds a position of a layer: its slot and the position within the page. -/
def KvTable.locate (t : KvTable) (layer p : Nat) (spec : Bool) : Option (Nat × Nat) :=
  (t.entryAt layer p spec).map fun x => (x.1.slot, x.2)

/-- Change the entry of a span and layer. -/
def KvTable.modEntry (t : KvTable) (span layer : Nat) (f : KvEntry → KvEntry) : KvTable :=
  { t with spans := t.spans.zipIdx.map fun x => if x.2 = span then
      { x.1 with entries := x.1.entries.zipIdx.map fun e => if e.2 = layer then f e.1 else e.1 } else x.1 }

/-- Change an entry of the overlay. -/
def KvTable.modOverlay (t : KvTable) (i : Nat) (f : KvEntry → KvEntry) : KvTable :=
  { t with overlay := t.overlay.map fun o => { o with entries := o.entries.zipIdx.map fun e => if e.2 = i then f e.1 else e.1 } }

/-- Write the codes of consecutive elements at a bit offset of a frame, in whole bytes (D is a multiple of 16). -/
def State.writeCodes (s : State) (addr bits : Nat) (codes : List Nat) : State :=
  { s with hbm := s.hbm.writeN addr (leBytes (bits * codes.length / 8)
      (codes.zipIdx.foldl (fun (a : Nat) c => a + c.1 % 2 ^ bits * 2 ^ (bits * c.2)) 0)) }

/-- The FP8 E4M3 format of INT4 group scales (Table 8-1). -/
def groupScaleVal (b : Nat) : Val := (Fmt.fp8e4m3).elemVal b

/-- Convert one head's elements at a position into a page format: codes and scale bytes (R304, R110 to R117). A group scale of INT4 is a free value: the spec does not say how it is chosen. -/
def kvConvert (pick : Nat → Nat) (fmt : Nat) (pageScale : BitVec 32) (vals : List Val) : List Nat × List Nat :=
  let code (f : Fmt) (v : Val) : Nat := (convertVal f .rne false v).1
  match fmt with
  | 3 =>
    let blocks := (chunks 32 vals.length vals).map fun b =>
      match (Fmt.mxfp8e4m3).fp with
      | some p => mxBlock p .rne false b.length b
      | none => (0, [], 0)
    (blocks.flatMap fun b => b.2.1, blocks.map (·.1))
  | 4 => (vals.map fun v => code .int8 (fdiv v (decode32 pageScale)).1, [])
  | 5 =>
    let groups := (chunks 16 vals.length vals).zipIdx.map fun g =>
      let b := pick g.2 % 256
      let f := round32 ((groupScaleVal b).mul (decode32 pageScale))
      (g.1.map fun v => code .int4 (fdiv v f).1, b)
    (groups.flatMap (·.1), groups.map (·.2))
  | n => (vals.map (code (kvFmt n)), [])

/-- Store the keys (or values) of one position of a page, head by head (R304). -/
def State.kvStore (s : State) (p : KvPage) (t : Nat) (isKey : Bool) (codes : List (BitVec 32)) : State :=
  let off := kvOffsets p.fmt (kvTokens p.tcode) p.hkv p.d p.dv
  let d := if isKey then p.d else p.dv
  let base := p.frame * granule + (if isKey then 0 else off.1)
  let sbase := p.frame * granule + (if isKey then off.2.1 else off.2.2.1)
  let sb := kvScaleBytes p.fmt d
  (List.range p.hkv).foldl (fun s g =>
    let vals := (List.range d).map fun x => decode32 ((codes[g * d + x]?).getD 0)
    let c := kvConvert (fun i => s.pick (3 + g * 64 + i)) p.fmt (if isKey then p.kScale else p.vScale) vals
    let row := g * kvTokens p.tcode + t
    ((s.writeCodes (base + row * d * kvBits p.fmt / 8) (kvBits p.fmt) c.1).writeCodes (sbase + row * sb) 8 c.2).draw) s

/-- Where one head's keys or values of a position lie: elements and group scales, each as first byte and number of bytes (R304). -/
def kvRowBytes (p : KvPage) (t : Nat) (isKey : Bool) (g : Nat) : List (Nat × Nat) :=
  let off := kvOffsets p.fmt (kvTokens p.tcode) p.hkv p.d p.dv
  let d := if isKey then p.d else p.dv
  let n := d * kvBits p.fmt / 8
  let sb := kvScaleBytes p.fmt d
  let row := g * kvTokens p.tcode + t
  [(p.frame * granule + (if isKey then 0 else off.1) + row * n, n), (p.frame * granule + (if isKey then off.2.1 else off.2.2.1) + row * sb, sb)]

/-- A 64 B unit that holds some of these bytes. -/
def unitsOf (l : List (Nat × Nat)) : List Nat :=
  l.flatMap fun x => (List.range (if x.2 = 0 then 0 else ceilDiv (x.1 % 64 + x.2) 64)).map fun i => x.1 / 64 + i

/-- A read of one head's keys or values of a position delivers poison (R36, Table 18-1). -/
def State.kvLost (s : State) (p : KvPage) (t : Nat) (isKey : Bool) (g : Nat) : Bool :=
  (unitsOf (kvRowBytes p t isKey g)).any s.integ.lost.contains

/-- A key or value element of a page with the factor of its scale group (R304, R319, R320). -/
def State.kvRead (s : State) (p : KvPage) (t : Nat) (isKey : Bool) (g x : Nat) : Val × Val × NumFlags :=
  let off := kvOffsets p.fmt (kvTokens p.tcode) p.hkv p.d p.dv
  let d := if isKey then p.d else p.dv
  let bits := kvBits p.fmt
  let base := p.frame * granule + (if isKey then 0 else off.1)
  let sbase := p.frame * granule + (if isKey then off.2.1 else off.2.2.1)
  let row := g * kvTokens p.tcode + t
  let bit := (row * d + x) * bits
  let code := leNat (s.hbm.readN (base + bit / 8) (ceilDiv bits 8)) / 2 ^ (bit % 8) % 2 ^ bits
  let e := (kvFmt p.fmt).elemVal code
  let scale : Val := match p.fmt with
    | 3 => e8m0Val (s.hbm.read (sbase + row * (d / 32) + x / 32)).toNat
    | 4 => decode32 (if isKey then p.kScale else p.vScale)
    | 5 => round32 ((groupScaleVal (s.hbm.read (sbase + row * (d / 16) + x / 16)).toNat).mul
        (decode32 (if isKey then p.kScale else p.vScale)))
    | _ => Val.one
  (e, scale, nanIn e ||| nanIn scale)

/-- Scale group of a page format along d (Table 8-8). -/
def kvPageGroup (fmt : Nat) : Nat := kvGroup (kvFmt fmt)

/-- Set the page scales of a page that gets its first position: free values, since the spec does not say how K_SCALE and V_SCALE are chosen; 1.0 for FMT 0 to 3 (Table 8-2). [DEDUCED, unsafe, log entry 28] -/
def State.kvFreshScales (s : State) (slot : Nat) (p : KvPage) : State × KvPage :=
  if 4 ≤ p.fmt then
    let p1 := { p with kScale := BitVec.ofNat 32 (s.pick 0), vScale := BitVec.ofNat 32 (s.pick 1) }
    ({ s.draw with kv := { s.kv with pages := s.kv.pages.put slot p1 } }, p1)
  else (s, p)

/-- A private copy of a shared page for one entry of a table (R161, R335): the new slot. -/
def State.kvPrivate (s : State) (t : KvTable) (slot : Nat) (p : KvPage) : Except Status (State × Nat) :=
  if s.refsOf p.frame ≤ 1 then .ok (s, slot)
  else
    match s.kvNewPage t p.layer p.tcode p.fmt false with
    | .error e => .error e
    | .ok (s1, new) =>
      match s1.kvPage new with
      | none => .error stNoMemory
      | some q =>
        let s2 := ((s1.copyFrame p.frame q.frame p.k).bump 0x620003).kvUnref slot
        .ok ({ s2 with kv := { s2.kv with pages := s2.kv.pages.put new { q with kScale := p.kScale, vScale := p.vScale } } }, new)

/-- WRITE of one position of one layer (Table 8-5, R341): into the overlay from SPEC_FROM on, else into the main page, private first. The first position of a page gives it its page scales. -/
def State.kvWriteOne (s : State) (id layer p : Nat) (row : KvRow) : State × Status :=
  match s.kvOwner id with
  | .error e => (s, e)
  | .ok t =>
    let inOverlay := match t.overlay with | some o => decide (o.start ≤ p) | none => false
    match t.entryAt layer p true with
    | none => (s, stLengthBounds)
    | some (entry, off) =>
      match s.kvPage entry.slot with
      | none => (s, stKvtNoTable)
      | some pg =>
        match (if inOverlay then .ok (s, entry.slot) else s.kvPrivate t entry.slot pg : Except Status (State × Nat)) with
        | .error e => (s, e)
        | .ok (s1, slot1) =>
          match s1.kvPage slot1 with
          | none => (s, stKvtNoTable)
          | some q =>
            let fresh := if entry.fill = 0 then s1.kvFreshScales slot1 q else (s1, q)
            let s2 := (fresh.1.kvStore fresh.2 off true row.keys).kvStore fresh.2 off false row.values
            let up (e : KvEntry) : KvEntry := ⟨slot1, max e.fill (off + 1)⟩
            let t1 :=
              if inOverlay then
                match t.overlay with
                | some o => t.modOverlay ((p - o.start / 16 * 16) / 16 * t.layers + layer) up
                | none => t
              else
                match spanAt t.spans 0 p with
                | some l => t.modEntry l.1 layer up
                | none => t
            (s2.setTable id t1, stOk)

/-- WRITE of positions from `p` on, one after another. -/
def State.kvWriteAll (s : State) (id layer : Nat) : Nat → List KvRow → State × Status
  | _, [] => (s, stOk)
  | p, r :: rs =>
    let a := s.kvWriteOne id layer p r
    if a.2 = stOk then State.kvWriteAll a.1 id layer (p + 1) rs else a

/-- One WRITE edit (Table 8-5) of positions from `p` on: VERSION counts up when it changes a main entry (Table 8-3); into the overlay it leaves VERSION (R339, R345). A refused WRITE changes nothing. -/
def State.kvWriteEdit (s : State) (id layer p : Nat) (rows : List KvRow) : State × Status :=
  let a := s.kvWriteAll id layer p rows
  let main := match (s.kvTable id).bind (·.overlay) with | some o => decide (p < o.start) | none => true
  if a.2 ≠ stOk then (s, a.2)
  else if rows.isEmpty || !main then a
  else ({ a.1 with kv := { a.1.kv with tables := a.1.kv.tables.modAt id KvTable.bumped } }, stOk)

/-- WRITE as the AE issues it, from LENGTH on. -/
def State.kvWrite (s : State) (id layer : Nat) (rows : List KvRow) : State × Status :=
  match s.kvOwner id with
  | .error e => s.kvSay e
  | .ok t =>
    let a := s.kvWriteEdit id layer t.length rows
    a.1.kvSay a.2

/-- Positions that every layer of the table holds (R312). -/
def KvTable.filled (t : KvTable) : Nat :=
  t.spans.foldl (fun (a : Nat × Bool) x =>
    if a.2 then
      let f := x.entries.foldl (fun m e => min m e.fill) (kvTokens x.tcode)
      (a.1 + f, f == kvTokens x.tcode)
    else a) (0, true) |>.1

/-- ADVANCE (Table 8-5): only over positions that every layer holds. [DEDUCED, unsafe, log entry 27] -/
def State.kvAdvance (s : State) (id n : Nat) : State × Status :=
  match s.kvOwner id with
  | .error e => s.kvSay e
  | .ok t =>
    if t.filled < t.length + n then s.kvSay stLengthBounds
    else (s.setTable id ({ t with length := t.length + n }).bumped).kvSay stOk

/-- The spans of a table up to position p, with FILL clipped (FORK, TRUNCATE). -/
def clipSpans : List KvSpan → Nat → List KvSpan
  | [], _ => []
  | x :: xs, p =>
    if p = 0 then []
    else { x with entries := x.entries.map fun e => { e with fill := min e.fill p } } :: clipSpans xs (p - kvTokens x.tcode)

/-- The pages that spans name. -/
def spanSlots (l : List KvSpan) : List Nat := l.flatMap fun x => x.entries.map (·.slot)

/-- A page carrying SPEC is named (R314). -/
def State.kvAnySpec (s : State) (slots : List Nat) : Bool :=
  slots.any fun i => match s.kvPage i with | some p => p.spec | none => false

/-- Add one reference to the page of each slot. -/
def State.kvAddRefs (s : State) (slots : List Nat) : State :=
  slots.foldl (fun s i => match s.kvPage i with | some p => s.addRef p.frame | none => s) s

/-- A reference count would exceed its limit (R147). -/
def State.kvRefFull (s : State) (slots : List Nat) : Bool :=
  slots.any fun i => match s.kvPage i with | some p => decide (65535 ≤ s.refsOf p.frame) | none => false

/-- FORK into an existing empty table (R313, R381). -/
def State.kvForkInto (s : State) (src dst p : Nat) : State × Status :=
  match s.kvOwner src, s.kvTable dst with
  | .error e, _ => s.kvSay e
  | _, none => s.kvSay stKvtNoTable
  | .ok t, some u =>
    let spans := clipSpans t.spans p
    if t.length < p then s.kvSay stLengthBounds
    else if (t.layers, t.hkv, t.d, t.dv) ≠ (u.layers, u.hkv, u.d, u.dv) then s.kvSay stKvtGeometry
    else if s.kvAnySpec (spanSlots spans) then s.kvSay stSpecPage
    else if s.kvRefFull (spanSlots spans) then s.kvSay stRefLimit
    else
      match s.growBlock dst u (spans.length * u.layers) with
      | none => s.kvSay stKvtPoolFull
      | some (s1, u1) => ((s1.kvAddRefs (spanSlots spans)).setTable dst ({ u1 with spans := spans, length := p }).bumped).kvSay stOk

/-- The spans whose pages a removing edit holds references to until it executes: the new ones of a REPLACE. -/
def KvRemoval.holds : KvRemoval → List KvSpan
  | .replace _ spans => spans
  | _ => []

/-- Remove a table: every entry, its overlay, its block and the edits that wait on it (DESTROY). -/
def State.kvRemove (s : State) (id : Nat) : State :=
  match s.kvTable id with
  | none => s
  | some t =>
    let waiting := s.kv.pending.filter fun p => p.table == id
    let s1 := (s.kvUnrefSpans t.spans).kvUnrefSpans (t.overlay.toList.map fun o => ⟨0, o.entries⟩)
    let s2 := (s1.kvUnrefSpans (waiting.flatMap fun p => p.edit.holds)).dropBlock t.base
    let s3 := match t.overlay with | some o => s2.dropBlock o.base | none => s2
    { s3 with kv := { s3.kv with tables := s3.kv.tables.del id, pending := s3.kv.pending.filter fun p => p.table != id } }

/-- FORK (Table 8-5): a new table of the source's geometry. -/
def State.kvFork (s : State) (src kind p : Nat) : State × Status × Nat :=
  match s.kvOwner src with
  | .error e => ((s.kvSay e).1, e, 0)
  | .ok t =>
    let c := s.kvCreate t.ctx kind t.layers t.hkv t.d t.dv
    if c.2.1 ≠ stOk then ((s.kvSay c.2.1).1, c.2.1, 0)
    else
      let f := c.1.kvForkInto src c.2.2 p
      if f.2 = stOk then (f.1, stOk, c.2.2) else ((s.kvSay f.2).1, f.2, 0)

/-- A removing edit executes (Table 8-5). A TRUNCATE never raises LENGTH. A REPLACE whose span is no longer there with the same positions, an earlier edit having changed it, only gives up its new pages. [DESIGN CHOICE, unsafe, log entry 85] -/
def State.kvRemoval (s : State) (id : Nat) (t : KvTable) : KvRemoval → State
  | .truncate p =>
    let kept := clipSpans t.spans p
    (s.kvUnrefSpans (t.spans.drop kept.length)).setTable id ({ t with spans := kept, length := min t.length p }).bumped
  | .replace i new =>
    let old := (t.spans.drop i).take 1
    if old.isEmpty || spanTokens old != spanTokens new then s.kvUnrefSpans new
    else
      let fills := old.flatMap fun x => x.entries.map (·.fill)
      -- the positions each layer holds are spread over the new spans in order
      let step (acc : Nat × List KvSpan) (x : KvSpan) : Nat × List KvSpan :=
        (acc.1 + kvTokens x.tcode, acc.2 ++ [{ x with entries := x.entries.zipIdx.map fun e =>
          { e.1 with fill := min (kvTokens x.tcode) ((fills[e.2]?).getD 0 - acc.1) } }])
      let filled := (new.foldl step (0, [])).2
      (s.kvUnrefSpans old).setTable id ({ t with spans := t.spans.take i ++ filled ++ t.spans.drop (i + 1) }).bumped
  | .destroy => s.kvRemove id

/-- Walks of a table that hold this epoch or an earlier one. -/
def State.kvHeld (s : State) (id : Nat) (epoch : BitVec 32) : Bool :=
  s.kv.walks.vals.any fun w => w.table == id && decide (w.epoch ≤ epoch)

/-- A pending edit of the table makes new walks wait (R334). -/
def State.kvPendingOn (s : State) (id : Nat) : Bool := s.kv.pending.any fun p => p.table == id

/-- The opcode of a removing edit (Table 8-5). -/
def KvRemoval.opcode : KvRemoval → Nat
  | .truncate _ => 0x07
  | .replace .. => 0x08
  | .destroy => 0x09

/-- A removing edit of a table: at once when no walk holds what it removes and no earlier edit of the table waits (R158, R338), else it becomes pending and EPOCH counts up (R334). The pages a REPLACE names carry its references from now on. [DEDUCED, unsafe, log entry 27] -/
def State.kvRemoveEdit (s0 : State) (id : Nat) (t : KvTable) (e : KvRemoval) (waits : Bool) : State × Status :=
  let s := s0.kvAddRefs (spanSlots e.holds)
  if (waits ∧ s.kvHeld id t.epoch) ∨ s.kvPendingOn id = true then
    let s1 := ((s.setTable id { t with epoch := t.epoch + 1 }).bump 0x630007).strand pageManagerId 0x22 (some t.ctx) (id * 2 ^ 16 + e.opcode)
    { s1 with kv := { s1.kv with pending := s1.kv.pending ++ [(⟨id, e, t.epoch⟩ : KvPending)] } }.kvSay stOk
  else (s.kvRemoval id t e).kvSay stOk

/-- TRUNCATE (Table 8-5): it waits only when p is below a captured length (Table 8-10). -/
def State.kvTruncate (s : State) (id p : Nat) : State × Status :=
  match s.kvOwner id with
  | .error e => s.kvSay e
  | .ok t =>
    if t.length < p then s.kvSay stLengthBounds
    else s.kvRemoveEdit id t (.truncate p) (s.kv.walks.vals.any fun w => w.table == id && decide (p < w.length))

/-- REPLACE (Table 8-5, R314, R336). -/
def State.kvReplace (s : State) (id i : Nat) (spans : List (Nat × List Nat)) (wait : Bool) : State × Status :=
  match s.kvOwner id with
  | .error e => s.kvSay e
  | .ok t =>
    let new : List KvSpan := spans.map fun x => ⟨x.1, x.2.map fun slot => ⟨slot, 0⟩⟩
    let start := spanTokens (t.spans.take i)
    let starts := new.zipIdx.map fun x => (x.1, start + spanTokens (new.take x.2))
    let pageBad (x : KvSpan) : Bool := x.entries.length != t.layers || decide (6 < x.tcode) || x.entries.any fun e =>
      match s.kvPage e.slot with
      | none => true
      | some p => p.ctx != t.ctx || p.tcode != x.tcode || p.hkv != t.hkv || p.d != t.d || p.dv != t.dv
    if t.spans.length ≤ i then s.kvSay stLengthBounds
    else if s.kvAnySpec (spanSlots new) then s.kvSay stSpecPage
    else if new.any pageBad || spanTokens new != spanTokens ((t.spans.drop i).take 1) then s.kvSay stKvtGeometry
    else if starts.any fun x => x.2 % kvTokens x.1.tcode != 0 then s.kvSay stKvtAlign
    else if s.kvRefFull (spanSlots new) then s.kvSay stRefLimit
    else if !wait && (s.kvHeld id t.epoch || s.kvPendingOn id) then s.kvSay stPageBusy
    else
      match s.growBlock id t ((t.spans.length - 1 + new.length) * t.layers) with
      | none => s.kvSay stKvtPoolFull
      | some (s1, t1) => (s1.setTable id t1).kvRemoveEdit id t1 (.replace i new) true

/-- DESTROY (Table 8-5). -/
def State.kvDestroy (s : State) (id : Nat) : State × Status :=
  match s.kvOwner id with
  | .error e => s.kvSay e
  | .ok t => s.kvRemoveEdit id t .destroy true

/-- Release an overlay and close it (R344 steps 4 and 5, R345). -/
def State.kvCloseOverlay (s : State) (id : Nat) (t : KvTable) (o : KvOverlay) : State :=
  ((s.kvUnrefSpans [⟨0, o.entries⟩]).dropBlock o.base).setTable id { t with overlay := none }

/-- SPEC_OPEN (R339). -/
def State.kvSpecOpen (s : State) (id n : Nat) : State × Status :=
  match s.kvOwner id with
  | .error e => s.kvSay e
  | .ok t =>
    let fmt := ((t.spans.getLast?).bind fun x => x.entries.head?).bind fun e => (s.kvPage e.slot).map (·.fmt)
    if t.overlay.isSome then s.kvSay stSpecState
    else if n < 1 ∨ 9 < n then s.kvSay stLengthBounds
    else
      match fmt with
      | none => s.kvSay stKvtGeometry
      | some f =>
        match s.takeBlock (2 * t.layers) with
        | none => s.kvSay stKvtPoolFull
        | some (s1, b) =>
          match s1.kvNewPages t 0 f true t.layers 0 [] with
          | .error e => s.kvSay e
          | .ok (s2, es) =>
            match s2.kvNewPages t 0 f true t.layers 0 es with
            | .error e => s.kvSay e
            | .ok (s3, es2) => (s3.setTable id { t with overlay := some ⟨t.length, n, b, es2⟩ }).kvSay stOk

/-- The largest TCODE up to `top` whose alignment a span starting at `start` meets (R308). [DEDUCED, unsafe, log entry 27] -/
def kvTcodeFor (top start : Nat) : Nat :=
  ((List.range (top + 1)).reverse.find? fun k => start % kvTokens k == 0 && decide (start + kvTokens k ≤ 1048576)).getD 0

/-- Extend a table until its spans cover `n` positions (R313, R344 step 1). -/
def State.kvCover (s : State) (id top fmt n : Nat) : Nat → State × Status
  | 0 => (s, stLengthBounds)
  | fuel + 1 =>
    match s.kvTable id with
    | none => (s, stKvtNoTable)
    | some t =>
      if n ≤ spanTokens t.spans then (s, stOk)
      else
        let a := s.kvExtend id (kvTcodeFor top (spanTokens t.spans)) fmt
        if a.2 = stOk then State.kvCover a.1 id top fmt n fuel else (s, a.2)

/-- Copy stored bytes; what a lost unit held is lost in the copy (R36). -/
def State.copyBytes (s : State) (src dst : Nat × Nat) : State :=
  let s1 := { s with hbm := s.hbm.writeN dst.1 (s.hbm.readN src.1 src.2) }
  if (unitsOf [src]).any s.integ.lost.contains then
    { s1 with integ := { s1.integ with lost := s1.integ.lost ++ (unitsOf [dst]).filter fun u => !s1.integ.lost.contains u } }
  else s1

/-- Copy the stored bytes of one position (keys or values, elements and group scales) from one page to another of the same format and page scales (R344 step 2). -/
def State.kvCopyRow (s : State) (p q : KvPage) (tp tq : Nat) (isKey : Bool) : State :=
  (List.range p.hkv).foldl (fun s g =>
    ((kvRowBytes p tp isKey g).zip (kvRowBytes q tq isKey g)).foldl (fun s x => s.copyBytes x.1 x.2) s) s

/-- Copy one position from one page to another of the same format (R344 step 2). Where INT8 or INT4 pages have other page scales, the values are kept: each is read with the one's scales and coded with the other's. -/
def State.kvMoveRow (s : State) (p q : KvPage) (tp tq : Nat) (isKey : Bool) : State :=
  let same := if isKey then p.kScale == q.kScale else p.vScale == q.vScale
  if p.fmt < 4 ∨ same = true then s.kvCopyRow p q tp tq isKey
  else
    let d := if isKey then p.d else p.dv
    let codes := (List.range (p.hkv * d)).map fun x =>
      let r := s.kvRead p tp isKey (x / d) (x % d)
      encode32 (round32 (r.1.mul r.2.1))
    s.kvStore q tq isKey codes

/-- Copy one committed position of one layer from the overlay into the main page, private first (R344 step 2). The first position of a page brings the page scales with it. [DEDUCED, unsafe, log entry 28] -/
def State.kvCopyPosition (s : State) (id layer p : Nat) : State × Status :=
  match s.kvTable id with
  | none => (s, stKvtNoTable)
  | some t =>
    match t.entryAt layer p true, t.entryAt layer p false with
    | some (e, off), some (main, moff) =>
      match s.kvPage e.slot, s.kvPage main.slot with
      | some pg, some mp =>
        match s.kvPrivate t main.slot mp with
        | .error e => (s, e)
        | .ok (s1, slot) =>
          match s1.kvPage slot with
          | none => (s, stSpecState)
          | some q =>
            let q1 := if main.fill = 0 then { q with kScale := pg.kScale, vScale := pg.vScale } else q
            let s2 := { s1 with kv := { s1.kv with pages := s1.kv.pages.put slot q1 } }
            let s3 := (s2.kvMoveRow pg q1 off moff true).kvMoveRow pg q1 off moff false
            let t1 := match spanAt t.spans 0 p with
              | some l => t.modEntry l.1 layer fun e => ⟨slot, max e.fill (moff + 1)⟩
              | none => t
            (s3.setTable id t1, stOk)
      | _, _ => (s, stSpecState)
    | _, _ => (s, stSpecState)

/-- The page format of an entry. -/
def State.kvEntryFmt (s : State) (e : KvEntry) : Option Nat := (s.kvPage e.slot).map (·.fmt)

/-- A COMMIT mixes geometries (Table 8-12): a page that already holds one of its positions has another format than the overlay. [DEDUCED, unsafe, log entry 28; DESIGN CHOICE, unsafe, log entry 85] -/
def State.commitMixes (s : State) (t : KvTable) (o : KvOverlay) (c fmt : Nat) : Bool :=
  (List.range c).any fun i => (List.range t.layers).any fun l =>
    match (t.mainEntry l (o.start + i)).bind fun x => s.kvEntryFmt x.1 with
    | some f => f != fmt
    | none => false

/-- COMMIT (R344). [DEDUCED, unsafe, log entry 28] -/
def State.kvCommit (s : State) (id c : Nat) : State × Status :=
  match s.kvOwner id with
  | .error e => s.kvSay e
  | .ok t =>
    match t.overlay with
    | none => s.kvSay stSpecState
    | some o =>
      if o.count < c then s.kvSay stSpecState
      else
        let fmt := ((o.entries.head?).bind s.kvEntryFmt).getD 0
        let top := ((t.spans.getLast?).map (·.tcode)).getD 0
        if s.commitMixes t o c fmt then s.kvSay stKvtGeometry
        else
          let e := s.kvCover id top fmt (o.start + c) 65537
          if e.2 ≠ stOk then s.kvSay e.2
          else
            let positions := (List.range c).flatMap fun i => (List.range t.layers).map fun l => (o.start + i, l)
            let w := positions.foldl (fun (a : State × Status) x => if a.2 = stOk then a.1.kvCopyPosition id x.2 x.1 else a) (e.1, stOk)
            if w.2 ≠ stOk then s.kvSay w.2
            else
              match w.1.kvTable id with
              | none => s.kvSay stKvtNoTable
              | some t1 => (w.1.kvCloseOverlay id ({ t1 with length := o.start + c }).bumped o).kvSay stOk

/-- The overlay is closed and its rollback counted (R345). -/
def State.kvCancelOverlay (s : State) (id : Nat) (t : KvTable) (o : KvOverlay) : State := (s.kvCloseOverlay id t o).bump 0x630006

/-- ROLLBACK (R345). -/
def State.kvRollback (s : State) (id : Nat) : State × Status :=
  match s.kvOwner id with
  | .error e => s.kvSay e
  | .ok t =>
    match t.overlay with
    | none => s.kvSay stSpecState
    | some o => (s.kvCancelOverlay id t o).kvSay stOk

/-- The frames a walk captures (R332): main entries and overlay. -/
def State.kvFrames (s : State) (t : KvTable) : List Nat :=
  (spanSlots t.spans ++ (t.overlay.toList.flatMap fun o => o.entries.map (·.slot))).filterMap fun i => (s.kvPage i).map (·.frame)

/-- An AE records that a walk of a table is captured (0x20) or released (0x21); which AE is free (Table 16-14). [DEDUCED, unsafe, log entry 53] -/
def State.strandWalk (s : State) (event ctx table : Nat) (epoch : BitVec 32) : State :=
  (s.strand (s.pick (2 ^ 55) % 6 * 256 + 64 + s.pick (2 ^ 55 + 1) % 2) event (some ctx) (table * 2 ^ 16 + epoch.toNat % 2 ^ 16)).draw

/-- A walk begins: it captures the table and holds its epoch (R332). -/
def State.kvCapture (s0 : State) (id : Nat) (t : KvTable) (n : Nat) : State × Nat :=
  let s := s0.strandWalk 0x20 t.ctx id t.epoch
  ({ s with kv := { s.kv with walks := s.kv.walks.put s.nextId ⟨id, t.epoch, t.length, t.version, t.base, t.spans.length, t.overlay.map fun o => (o.start, o.count, o.base), n, s.kvFrames t⟩ }, nextId := s.nextId + 1 }, s.nextId)

/-- A walk ends: its epoch is released, blocks and frames that only it held pass on (R334, R335). -/
def State.kvRelease (s : State) (walk : Nat) : State :=
  match s.kv.walks.look walk with
  | none => s
  | some w =>
    let c := ((s.kvTable w.table).map (·.ctx)).getD 0
    let s0 := s.strandWalk 0x21 c w.table w.epoch
    let s1 := { s0 with kv := { s0.kv with walks := s0.kv.walks.del walk } }
    let gone := s1.kv.oldBlocks.filter fun b => !s1.kvHeld b.table b.epoch
    let s2 := { s1 with kv := { s1.kv with oldBlocks := s1.kv.oldBlocks.filter fun b => s1.kvHeld b.table b.epoch } }
    w.frames.foldl State.settleFrame (gone.foldl (fun s b => s.dropBlock b.base) s2)

/-- The oldest pending edit of a table executes once no walk holds its epoch or an earlier one (R334). -/
def State.kvExecutePending (s : State) (id : Nat) : State :=
  match takeFirst (fun p => p.table == id) s.kv.pending with
  | none => s
  | some (p, rest) =>
    if s.kvHeld id p.epoch then s
    else
      let s1 := { s with kv := { s.kv with pending := rest } }
      match s1.kvTable id with
      | none => s1.kvUnrefSpans p.edit.holds
      | some t => s1.kvRemoval id t p.edit

/-- A page-table entry as READ returns it: FRAME reads as 0 (Table 8-4, R317). -/
def kvEntryWord (p : KvPage) (e : KvEntry) : Nat :=
  e.slot % 2 ^ 22 * 2 ^ 16 + p.tcode * 2 ^ 13 + e.fill * 2 ^ 2 + (if p.spec then 2 else 0) + 1

/-- A page header as READ returns it (Table 8-2, R317). -/
def kvPageHeader (p : KvPage) : Nat :=
  let o := kvOffsets p.fmt (kvTokens p.tcode) p.hkv p.d p.dv
  o.2.2.1 * 2 ^ 480 + o.2.1 * 2 ^ 448 + o.1 * 2 ^ 416 + p.vScale.toNat * 2 ^ 384 + p.kScale.toNat * 2 ^ 352 +
    p.k * 2 ^ 322 + p.fmt * 2 ^ 318 + p.tcode * 2 ^ 315 + (if p.spec then 2 ^ 314 else 0) + p.gen.toNat * 2 ^ 298 +
    p.ctx % 16 * 2 ^ 294 + p.layer * 2 ^ 272

/-- A table header (Table 8-3). -/
def kvTableHeader (id : Nat) (t : KvTable) : Nat :=
  let o := t.overlay.getD ⟨0, 0, 0, []⟩
  o.base * 2 ^ 480 + o.count * 2 ^ 472 + t.base * 2 ^ 416 + t.entryCount * 2 ^ 384 + o.start * 2 ^ 352 + t.length * 2 ^ 320 +
    t.version.toNat * 2 ^ 288 + t.epoch.toNat * 2 ^ 256 + t.spans.length * 2 ^ 224 + t.gen.toNat * 2 ^ 208 + t.ctx % 16 * 2 ^ 204 +
    t.kind * 2 ^ 201 + (if t.overlay.isSome then 2 ^ 200 else 0) + t.hkv * 2 ^ 192 + t.dv / 16 * 2 ^ 187 + t.d / 16 * 2 ^ 182 +
    t.layers * 2 ^ 160 + id * 2 ^ 144

/-- What READ writes: table header, entries, page headers, in index order (R317). -/
def State.kvReadBytes (s : State) (id : Nat) (t : KvTable) : List Byte :=
  let es := (t.spans.flatMap fun x => x.entries) ++ (t.overlay.toList.flatMap fun o => o.entries)
  let pes := es.filterMap fun e => (s.kvPage e.slot).map fun p => (p, e)
  leBytes 64 (kvTableHeader id t) ++ (pes.flatMap fun x => leBytes 8 (kvEntryWord x.1 x.2)) ++ (pes.flatMap fun x => leBytes 64 (kvPageHeader x.1))

/-- GO of PGM_KVT (R315, R316): the record is taken; what the host may not do ends at once. -/
def State.kvtGo (s : State) (fn : Nat) (record : BitVec 128) : State :=
  let op := (record.extractLsb' 0 8).toNat
  let gen := (s.ctx fn).gen
  if !s.ctxLive fn gen then s.pathDone 1 fn stCtxGone none
  else if 0x02 ≤ op ∧ op ≤ 0x0C then s.pathDone 1 fn stKvtHostEdit none
  else if op ≠ 0x01 then s.pathDone 1 fn stBadPageCommand none
  else { s with kv := { s.kv with reads := s.kv.reads.put fn (record, gen) } }

/-- KVT_READ (R317): a READ waits while an edit of the table is pending (R334). -/
def execKvtRead (fn : Fn) (s : State) : Host.Outcome State Fault Refusal :=
  if !s.clocked then .next s else
  match s.kv.reads.look fn.val with
  | none => .next s
  | some (r, gen) =>
    let dest := (r.extractLsb' 64 64).toNat
    let bytes := (r.extractLsb' 32 32).toNat
    let id := (r.extractLsb' 16 16).toNat
    let s1 := { s with kv := { s.kv with reads := s.kv.reads.del fn.val } }
    if !s.ctxLive fn.val gen then .next (s1.pathDone 1 fn.val stCtxGone none)
    else if r.extractLsb' 8 8 ≠ 0 ∨ dest % 64 ≠ 0 then .next (s1.pathDone 1 fn.val stBadPageCommand none)
    else
      match s.kvTable id with
      | none => .next (s1.pathDone 1 fn.val stKvtNoTable none)
      | some t =>
        if t.ctx ≠ fn.val then .next (s1.pathDone 1 fn.val stKvtNoTable none)
        else if s.kvPendingOn id then .next s
        else
          let out := s.kvReadBytes id t
          if bytes < out.length then .next (s1.pathDone 1 fn.val stLengthBounds none)
          else if !s.cvaMapped fn.val dest out.length then .next (s1.pathDone 1 fn.val stNotMapped none)
          else
            match s1.writeCvaN fn.val none dest out with
            | .ok s2 => .next (s2.pathDone 1 fn.val stOk none)
            | .error e => .next (s1.pathDone 1 fn.val e none)

/-- KV_CREATE (Table 8-5). -/
def execKvCreate (c : Ctx) (g : KvGeometry) (s : State) : Host.Outcome State Fault Refusal :=
  if !s.clocked then .next s else
  .next (s.kvCreate c.val g.kind g.layers g.hkv g.d g.dv).1
/-- KV_EXTEND (Table 8-5). -/
def execKvExtend (table : BitVec 16) (tcode : BitVec 3) (fmt : BitVec 4) (s : State) : Host.Outcome State Fault Refusal :=
  if !s.clocked then .next s else
  .next (s.kvExtend table.toNat tcode.toNat fmt.toNat).1
/-- KV_WRITE (Table 8-5, R341). -/
def execKvWrite (table : BitVec 16) (layer : Nat) (rows : List KvRow) (s : State) : Host.Outcome State Fault Refusal :=
  if !s.clocked then .next s else
  .next (s.kvWrite table.toNat layer rows).1
/-- KV_ADVANCE (Table 8-5). -/
def execKvAdvance (table : BitVec 16) (n : Nat) (s : State) : Host.Outcome State Fault Refusal := if !s.clocked then .next s else .next (s.kvAdvance table.toNat n).1
/-- KV_FORK (Table 8-5). -/
def execKvFork (table : BitVec 16) (kind : Nat) (p : Nat) (s : State) : Host.Outcome State Fault Refusal :=
  if !s.clocked then .next s else
  .next (s.kvFork table.toNat kind p).1
/-- KV_TRUNCATE (Table 8-5). -/
def execKvTruncate (table : BitVec 16) (p : Nat) (s : State) : Host.Outcome State Fault Refusal := if !s.clocked then .next s else .next (s.kvTruncate table.toNat p).1
/-- KV_REPLACE (Table 8-5). -/
def execKvReplace (table : BitVec 16) (span : Nat) (spans : List (Nat × List Nat)) (wait : Bool) (s : State) :
    Host.Outcome State Fault Refusal := if !s.clocked then .next s else .next (s.kvReplace table.toNat span spans wait).1
/-- KV_DESTROY (Table 8-5). -/
def execKvDestroy (table : BitVec 16) (s : State) : Host.Outcome State Fault Refusal := if !s.clocked then .next s else .next (s.kvDestroy table.toNat).1
/-- SPEC_OPEN (R339). -/
def execSpecOpen (table : BitVec 16) (n : Nat) (s : State) : Host.Outcome State Fault Refusal := if !s.clocked then .next s else .next (s.kvSpecOpen table.toNat n).1
/-- COMMIT (R344). -/
def execCommit (table : BitVec 16) (c : Nat) (s : State) : Host.Outcome State Fault Refusal := if !s.clocked then .next s else .next (s.kvCommit table.toNat c).1
/-- ROLLBACK (R345). -/
def execRollback (table : BitVec 16) (s : State) : Host.Outcome State Fault Refusal := if !s.clocked then .next s else .next (s.kvRollback table.toNat).1
/-- EDIT_PENDING_EXECUTE (R334). -/
def execEditPendingExecute (table : BitVec 16) (s : State) : Host.Outcome State Fault Refusal := if !s.clocked then .next s else .next (s.kvExecutePending table.toNat)

end Sys2Proof.Machine
end

