-- ==== Sys2Proof/Machine/Validate.lean ====
section
/-! DEFINITION. Validation of programs and runs (05_graph_contract_and_queues.md R187 to R195, R214 to R217, R222; 06 R226 to R238; 07 R269 to R278, R300): the steps of Table 5-15 in their order, each failure with its status and location. -/

namespace Sys2Proof.Machine

/-- A failure of validation: status, WHERE, index (R214, Table 5-14). -/
structure BadItem where
  status : Status
  loc : Nat
  idx : Nat
  deriving DecidableEq, Repr

/-- The first failing check of a list of (fails, status). -/
def firstFail : List (Bool × Status) → Option Status
  | [] => none
  | (b, st) :: rest => if b then some st else firstFail rest

/-- Header fields (Table 5-1). -/
def hdrCheck (p : List Byte) : Nat := fieldAt p 20 4
def hdrProgramBytes (p : List Byte) : Nat := fieldAt p 16 4
def hdrScratch (p : List Byte) : Nat := fieldAt p 12 4
def hdrMaxRegions (p : List Byte) : Nat := fieldAt p 10 1 / 16
def hdrSections (p : List Byte) : Nat := fieldAt p 8 1
def hdrMajor (p : List Byte) : Nat := fieldAt p 5 1
def hdrMinor (p : List Byte) : Nat := fieldAt p 4 1

/-- Step 3: MAGIC, HEADER_BYTES, reserved header bits. -/
def headerOk (p : List Byte) : Bool :=
  fieldAt p 0 4 == 0x31434751 && fieldAt p 6 2 == 64 && fieldAt p 32 32 == 0 && fieldAt p 11 1 == 0 &&
    fieldAt p 9 1 == 0 && fieldAt p 10 1 % 16 == 0

/-- Versions 1.0, 1.1 and 1.2 are accepted (R222). -/
def versionOk (p : List Byte) : Bool := hdrMajor p == 1 && decide (hdrMinor p ≤ 2)

/-- A section of the table (Table 5-2). -/
structure Section where
  type : Nat
  reserved : Nat
  entryBytes : Nat
  offset : Nat
  bytes : Nat
  count : Nat
  deriving DecidableEq, Repr

def sectionAt (p : List Byte) (i : Nat) : Section :=
  let o := 64 + 16 * i
  ⟨fieldAt p o 1, fieldAt p (o + 1) 1, fieldAt p (o + 2) 2, fieldAt p (o + 4) 4, fieldAt p (o + 8) 4, fieldAt p (o + 12) 4⟩

/-- ENTRY_BYTES by section type (Table 5-3); none for a reserved type. -/
def sectionEntry (t : Nat) : Option Nat :=
  match t with
  | 1 => some 256
  | 2 => some 64
  | 3 | 4 => some 1
  | t => if 0x80 ≤ t ∧ t ≤ 0xFF then some 1 else none

/-- Two byte ranges share a byte. -/
def rangesMeet (a n b m : Nat) : Bool := decide (0 < n) && decide (0 < m) && overlaps a n b m

/-- The checks of one section entry in the order of its row (step 6). [DEDUCED, unsafe, log entry 26] -/
def sectionBad (total count : Nat) (earlier : List Section) (i : Nat) (x : Section) : Option Status :=
  firstFail [
    (decide (total < 64 + 16 * (i + 1)), stLengthBounds),
    (x.reserved != 0, stBadSection),
    (decide (total < x.offset + x.bytes), stLengthBounds),
    (x.offset % 64 != 0, stBadSection),
    (rangesMeet x.offset x.bytes 0 (64 + 16 * count), stBadSection),
    (earlier.any fun y => rangesMeet x.offset x.bytes y.offset y.bytes, stBadSection),
    ((sectionEntry x.type).isNone || (earlier.any fun y => y.type == x.type), stBadSection),
    (sectionEntry x.type != some x.entryBytes, stBadSection),
    (x.bytes != x.count * x.entryBytes, stBadSection)]

/-- Step 6 over the entries. -/
def sectionsCheck (p : List Byte) (count : Nat) : Nat → List Section → Except BadItem (List Section)
  | 0, acc => .ok acc
  | n + 1, acc =>
    let i := acc.length
    let x := sectionAt p i
    match sectionBad p.length count acc i x with
    | some st => .error ⟨st, 2, i⟩
    | none => sectionsCheck p count n (acc ++ [x])

/-- The formats of a blocked layout (Table 7-3). -/
def blockedFormatOk (layout : Nat) (f : Fmt) : Bool :=
  match layout with
  | 1 => f = .bf16 || f = .fp16
  | _ => match f with
    | .fp8e4m3 | .fp8e5m2 | .int8 | .uint8 | .mxfp8e4m3 | .mxfp8e5m2 | .fp4e2m1 | .int4 | .mxfp4 => true
    | _ => false

/-- TB operands of Table 3-1. -/
def tbOperand (f : Fmt) : Bool :=
  match f with
  | .fp32 | .int32 | .uint8 => false
  | _ => true

/-- A tensor has the plane: 0 element, 1 MX scale, 2 metadata, 3 per-channel scale. -/
def hasPlane (t : TDesc) (plane : Nat) : Bool :=
  match plane with
  | 0 => true
  | 1 => (tFmt t).isMx
  | 2 => tSparse t
  | 3 => tScaleMode t == 2
  | _ => false

/-- Base, buffer length, extent and alignment of a plane by its descriptor. -/
def planeOf (t : TDesc) (plane : Nat) : Nat × Nat × Nat × Nat :=
  match plane with
  | 0 => (tBase t, tBufBytes t, tElemExtent t, 64)
  | 1 => (tScaleBase t, tScaleBytes t, tScaleExtent t, 64)
  | 2 => (tMetaBase t, tMetaBytes t, tMetaExtent t, 4)
  | _ => (tCscaleBase t, tCscaleBytes t, tCscaleExtent t, 4)

/-- The planes a tensor has. -/
def planes (t : TDesc) : List Nat := [0, 1, 2, 3].filter (hasPlane t)

/-- The no-overlap condition of R192 for one plane with its row bytes. -/
def strideOverlap (row : Nat) (stored : List Nat) (stride : Nat → Nat) : Bool :=
  (List.range (stored.length - 1)).any fun i =>
    let d := i + 1
    if d = 1 then decide (stride 1 < row) else decide (stride d < (stored[d - 1]?).getD 1 * stride (d - 1))

/-- The field rules of R190 to R192, for a blocked tensor in its blocked shape (R273). The alignment of every base and of META_STRIDE holds whether or not the tensor has that plane. No rule refuses an INT32 tensor with a scale, or a UINT8 one with a per-channel scale (Table 3-1): it is accepted and the scale is applied (R100). [DESIGN CHOICE, unsafe, log entry 82] -/
def tensorFieldsBad (t : TDesc) : Bool :=
  let f := tFmt t
  let outer := (tStored t).length - 1
  let ds := (List.range outer).map (· + 1)
  let kind := tKind t
  let comp := tCompress t
  (tRank t == 0 || decide (6 < tRank t)) || decide (2 < tLayout t) || tScaleMode t == 3 || comp == 3 ||
    (tDims t).any (· == 0) ||
    [0, 1, 2, 3].any (fun p => (planeOf t p).1 % (planeOf t p).2.2.2 != 0) ||
    ds.any (fun d => tStride t d % 16 != 0) ||
    (ds.any fun d => tMetaStride t d % 2 != 0) ||
    (kind != 0 && comp == 0 && ds.any fun d => tStride t d == 0) ||
    (kind != 0 && comp == 0 && f.isMx && ds.any fun d => tScaleStride t d == 0) ||
    (tSparse t && (!tbOperand f || comp != 0 || kind != 0)) ||
    (comp != 0 && (!(f = .bf16 || f = .fp16) || tLayout t != 0 || tScaleMode t != 0 || ds.any fun d => tStride t d != 0)) ||
    (tScaleMode t == 2 && decide ((tStored t).length ≤ tCscaleDim t)) ||
    ((kind == 1 || kind == 2) && comp == 0 &&
      (strideOverlap (tRowBytes t) (tStored t) (tStride t) ||
       (f.isMx && strideOverlap (ceilDiv (tKp t) 32) (tStored t) (tScaleStride t))))

/-- The bounds of one plane at a base and length (R194). -/
def planeBoundsBad (t : TDesc) (plane base len : Nat) : Bool :=
  decide (len < (planeOf t plane).2.2.1) || decide (2 ^ 38 < base + len)

/-- Step 7 for one tensor. [DEDUCED, unsafe, log entry 26] -/
def tensorBad (scratch : Nat) (t : TDesc) : Option Status :=
  firstFail [
    (tReserved t, stBadTensor),
    ((Fmt.ofCode (tFormatCode t)).isNone, stBadFormat),
    ((tLayout t == 1 || tLayout t == 2) && (tRank t != 4 || tStride t 5 != 0 || !blockedFormatOk (tLayout t) (tFmt t)), stBlockMismatch),
    (tensorFieldsBad t, stBadTensor),
    ((planes t).any (fun p => planeBoundsBad t p (planeOf t p).1 (planeOf t p).2.1), stLengthBounds),
    (tKind t == 3 && decide (scratch < tBase t + tBufBytes t), stLengthBounds)]

/-- Table 6-1 and Table 7-1: version since, input counts, output count, attribute bytes. -/
structure OpRow where
  since : Nat
  inMin : Nat
  inMax : Nat
  outMin : Nat
  outMax : Nat
  attr : Nat
  deriving DecidableEq, Repr

def opRow : Nat → Option OpRow
  | 0x0001 => some ⟨0, 2, 4, 1, 1, 4⟩
  | 0x0010 | 0x0011 => some ⟨0, 2, 4, 1, 1, 32⟩
  | 0x0018 | 0x0019 => some ⟨0, 1, 1, 1, 1, 20⟩
  | 0x0020 => some ⟨0, 3, 4, 1, 1, 16⟩
  | 0x0030 => some ⟨0, 3, 3, 1, 1, 4⟩
  | 0x0031 => some ⟨0, 2, 2, 1, 1, 4⟩
  | 0x0032 => some ⟨0, 1, 1, 1, 1, 4⟩
  | 0x0033 => some ⟨1, 3, 3, 1, 1, 8⟩
  | 0x0034 => some ⟨1, 2, 2, 1, 1, 12⟩
  | 0x0040 => some ⟨0, 2, 2, 1, 1, 0⟩
  | 0x0050 => some ⟨0, 1, 1, 2, 2, 8⟩
  | 0x0051 => some ⟨0, 1, 1, 1, 1, 24⟩
  | 0x0052 => some ⟨1, 1, 1, 1, 1, 0⟩
  | 0x0060 => some ⟨0, 1, 1, 1, 1, 8⟩
  | 0x0061 => some ⟨0, 1, 2, 1, 1, 32⟩
  | 0x0070 => some ⟨0, 1, 1, 1, 1, 0⟩
  | 0x0071 => some ⟨0, 1, 1, 1, 1, 4⟩
  | 0x0072 => some ⟨0, 1, 1, 1, 1, 8⟩
  | 0x0073 => some ⟨2, 2, 6, 1, 1, 4⟩
  | 0x0080 => some ⟨0, 1, 6, 1, 2, 8⟩
  | _ => none

/-- A reserved field of an operator record is not 0 (Table 5-5). -/
def opReserved (r : BitVec 512) : Bool := opField r 64 224 != 0 || opField r 32 7 != 0

/-- Step 8 for one operator. -/
def operatorBad (minor : Nat) (tensors : List TDesc) (pool : Nat) (index : Nat) (r : BitVec 512) : Option Status :=
  let kinds (i : Nat) : Nat := tKind ((tensors[i]?).getD 0)
  match opRow (opCode r) with
  | none => if opReserved r then some stBadOperator else some stBadOpcode
  | some row =>
    firstFail [
      (opReserved r, stBadOperator),
      (decide (minor < row.since), stBadOpcode),
      ((opIns r ++ opOuts r).any fun i => decide (tensors.length ≤ i), stBadOperator),
      (decide (opInCount r < row.inMin) || decide (row.inMax < opInCount r) || decide (opOutCount r < row.outMin) ||
        decide (row.outMax < opOutCount r), stBadOperator),
      ((List.range 6).any (fun i => decide (opInCount r ≤ i) && opIn r i != 0) ||
        (decide (opOutCount r < 2) && opOut r 1 != 0), stBadOperator),
      ((opOuts r).any fun i => kinds i == 0, stBadOperator),
      (opAfterValid r && decide (index ≤ opAfter r), stBadOperator),
      (decide (pool < opAttrOffset r + opAttrBytes r), stLengthBounds)]

/-- What step 9 judges of one operator. -/
structure OpCheck where
  r : BitVec 512
  attrs : List Byte
  exprs : List Byte
  exprPool : Bool
  minor : Nat
  ins : List TDesc
  outs : List TDesc

def OpCheck.i (c : OpCheck) (n : Nat) : TDesc := (c.ins[n]?).getD 0
def OpCheck.o (c : OpCheck) (n : Nat) : TDesc := (c.outs[n]?).getD 0
def OpCheck.u32 (c : OpCheck) (o : Nat) : Nat := fieldAt c.attrs o 4
def OpCheck.f32 (c : OpCheck) (o : Nat) : Val := decode32 (BitVec.ofNat 32 (c.u32 o))

/-- The F32 attribute is NaN or infinite (R238). -/
def OpCheck.badF (c : OpCheck) (o : Nat) : Bool := !(c.f32 o).isFinite
/-- The F32 attribute is not a number greater than a bound. -/
def OpCheck.notAbove (c : OpCheck) (o : Nat) (b : Val) : Bool := c.badF o || !(b.lt (c.f32 o))

/-- A format is one of a list. -/
def fmtIn (t : TDesc) (l : List Fmt) : Bool := l.contains (tFmt t)

/-- Extents of a tensor equal a shape. -/
def shapeIs (t : TDesc) (dims : List Nat) : Bool := tDims t == dims

/-- An index or position tensor: INT32 with SCALE_MODE 0 (R234). -/
def badIndex (t : TDesc) : Bool := !(tFmt t = .int32) || tScaleMode t != 0

def plainFloat : List Fmt := [.fp32, .bf16, .fp16]

/-- Attribute checks of step 1 of R230, true when they fail. -/
def attrBad (c : OpCheck) : Bool :=
  let inc := opInCount c.r
  match opCode c.r with
  | 0x0001 => decide (16 ≤ c.u32 0) || inc != 2 + c.u32 0 % 2 + c.u32 0 / 2 % 2
  | 0x0010 | 0x0011 =>
    let g := convGeom c.attrs (c.i 1)
    let out (x lo hi : Nat) : Bool := decide (x < lo) || decide (hi < x)
    let groups := c.u32 24
    decide (64 ≤ c.u32 0) || out g.sx 1 64 || out g.sy 1 64 || out g.dx 1 16384 || out g.dy 1 16384 ||
      out g.pl 0 16384 || out g.pr 0 16384 || out g.pt 0 16384 || out g.pb 0 16384 ||
      c.badF 20 || (c.u32 0 / 16 % 4 != 1 && c.u32 20 != 0) ||
      (if opCode c.r = 0x0010 then groups != 1 else out groups 2 65536) ||
      c.u32 28 != 0 || inc != 2 + c.u32 0 % 2 + c.u32 0 / 2 % 2
  | 0x0018 | 0x0019 =>
    let g := poolGeom c.attrs
    let out (x lo hi : Nat) : Bool := decide (x < lo) || decide (hi < x)
    decide ((if opCode c.r = 0x0019 then 2 else 1) ≤ c.u32 0) || out g.kw 1 64 || out g.kh 1 64 || out g.sx 1 64 || out g.sy 1 64 ||
      decide (g.kw ≤ g.pl) || decide (g.kw ≤ g.pr) || decide (g.kh ≤ g.pt) || decide (g.kh ≤ g.pb)
  | 0x0020 => decide (4 ≤ c.u32 0) || c.badF 4 || c.badF 8 || (c.f32 8).lt Val.zero || c.u32 8 == 0x80000000 ||
      inc != 3 + c.u32 0 / 2 % 2
  | 0x0030 | 0x0031 => c.notAbove 0 Val.zero
  | 0x0032 => decide (2 ≤ c.u32 0)
  | 0x0033 => c.notAbove 0 Val.zero || c.u32 4 == 0 || tDim (c.i 0) 0 % c.u32 4 != 0
  | 0x0034 => c.notAbove 0 Val.one || c.u32 4 % 2 != 0 || decide (c.u32 4 < 2) || decide (tDim (c.i 0) 0 < c.u32 4) || decide (2 ≤ c.u32 8)
  | 0x0050 => c.u32 0 == 0 || decide (1024 < c.u32 0) || decide (2 ≤ c.u32 4)
  | 0x0051 => c.badF 0 || (c.f32 0).lt Val.zero || c.u32 0 == 0x80000000 || decide (256 < c.u32 4) || c.notAbove 8 Val.zero ||
      Val.one.lt (c.f32 8) || c.u32 12 != 0
  | 0x0060 => decide (2 < c.u32 0) || decide (2 ≤ c.u32 4) ||
      (c.u32 0 == 2 && (c.u32 4 != 0 || decide (tDim (c.i 0) 1 < tDim (c.o 0) 1) || decide (tDim (c.i 0) 2 < tDim (c.o 0) 2)))
  | 0x0061 => decide (64 ≤ c.u32 0) || c.u32 0 % 4 == 3 || decide (1 < c.u32 0 / 16 % 4) ||
      [4, 8, 12, 16, 20, 24].any c.badF || c.u32 28 != 0 || inc != (if c.u32 0 / 16 % 4 = 0 then 2 else 1)
  | 0x0071 =>
    let p := c.u32 0
    let r := tRank (c.i 0)
    let js := (List.range r).map fun j => p / 16 ^ j % 16
    !((List.range r).all fun d => js.contains d) || p / 16 ^ r != 0
  | 0x0072 => decide (4 < c.u32 0) || c.u32 4 == 0 || decide (2 ^ tRank (c.i 0) ≤ c.u32 4)
  | 0x0073 => decide (tRank (c.i 0) ≤ c.u32 0)
  | 0x0080 => c.u32 0 % 4 != 0
  | _ => false

/-- The opcode accepts MX inputs (R232). -/
def mxInputs (op : Nat) : Bool := [0x0001, 0x0020, 0x0040, 0x0070, 0x0080, 0x0010, 0x0011, 0x0018, 0x0019].contains op
/-- The opcode accepts MX outputs (R232). -/
def mxOutputs (op : Nat) : Bool := [0x0001, 0x0070, 0x0080, 0x0010, 0x0011].contains op

/-- The formats of a convolution (R277), with UINT8 X judged as BF16, or FP16 when W is FP16. -/
def convPairBad (x w : TDesc) : Bool :=
  let fx := if tFmt x = .uint8 then (if tFmt w = .fp16 then .fp16 else .bf16) else tFmt x
  (pairClass fx (tFmt w)).isNone

/-- Format and operand checks of step 2 of R230. -/
def operandBad (c : OpCheck) : Bool :=
  let op := opCode c.r
  let mxBad := (!mxInputs op && c.ins.any fun t => (tFmt t).isMx) || (!mxOutputs op && c.outs.any fun t => (tFmt t).isMx)
  let u8Out := c.outs.any fun t => tFmt t = .uint8
  let chanBad (t : TDesc) (d : Nat) : Bool := tScaleMode t == 2 && tCscaleDim t != d
  mxBad || u8Out ||
  match op with
  | 0x0001 =>
    ((pairClass (tFmt (c.i 0)) (tFmt (c.i 1))).isNone && !(tFmt (c.i 0) = .fp32 && tFmt (c.i 1) = .fp32)) ||
      chanBad (c.i 0) 1 || chanBad (c.i 1) 1 || (c.ins.drop 2).any fun t => tFmt t != .fp32
  | 0x0010 | 0x0011 =>
    convPairBad (c.i 0) (c.i 1) || tScaleMode (c.i 0) == 2 || chanBad (c.i 1) 3 || (c.ins.drop 2).any fun t => tFmt t != .fp32
  | 0x0020 =>
    !fmtIn (c.i 0) plainFloat || !widens (tFmt (c.i 0)) (tFmt (c.i 1)) || !widens (tFmt (c.i 0)) (tFmt (c.i 2)) ||
      tScaleMode (c.i 1) == 2 || tScaleMode (c.i 2) == 2 || (c.ins.drop 3).any fun t => !fmtIn t [.fp32, .bf16]
  | 0x0030 | 0x0031 | 0x0033 => (c.ins.drop 1).any fun t => !fmtIn t [.fp32, .bf16]
  | 0x0034 => badIndex (c.i 1)
  | 0x0040 => badIndex (c.i 1)
  | 0x0050 => badIndex (c.o 1)
  | 0x0051 => !fmtIn (c.i 0) plainFloat || badIndex (c.o 0)
  | 0x0052 => badIndex (c.o 0)
  | 0x0060 => !fmtIn (c.i 0) [.bf16, .fp16, .fp32, .uint8] || !fmtIn (c.o 0) [.bf16, .fp16, .fp32, .fp8e4m3, .fp8e5m2]
  | 0x0061 => c.ins.any (fun t => !(tFmt t = .uint8) || tScaleMode t != 0) ||
      !fmtIn (c.o 0) [.bf16, .fp16, .fp32, .fp8e4m3, .fp8e5m2]
  | _ => false

/-- PAD_VALUE cannot be converted into the format of X (R282): PAD_VALUE / s overflows, or a scale of 0 makes it infinite. A quotient that is NaN overflows nothing. [DESIGN CHOICE, unsafe, log entry 82] -/
def padRangeBad (c : OpCheck) : Bool :=
  let x := c.i 0
  if c.u32 0 / 16 % 4 = 1 then
    let sc := if tScaleMode x = 1 then decode32 (tTscale x) else Val.one
    match (c.f32 20).divApprox sc, (tFmt x).fp with
    | .nan, _ => false
    | .fin _ m e, some p => p.overflows (p.roundMag .rne m e)
    | .fin n m e, none =>
      let i := (Val.fin n m e).toIntRnd .rne
      decide (i < (tFmt x).intRange.1) || decide ((tFmt x).intRange.2 < i)
    | _, _ => true
  else false

/-- The opcode belongs to the convolution path. -/
def convPath (op : Nat) : Bool := [0x0010, 0x0011, 0x0018, 0x0019].contains op

/-- Layout, compression and sparsity checks of step 3 of R230 (R232, R275). -/
def layoutBad (c : OpCheck) : Bool :=
  let op := opCode c.r
  let all := c.ins ++ c.outs
  let blockedOk := convPath op || [0x0033, 0x0060, 0x0070, 0x0080].contains op
  let inBlocked := c.ins.any fun t => tLayout t != 0
  let outBlocked := c.outs.any fun t => tLayout t != 0
  let compOk := convPath op || op == 0x0070 || op == 0x0080
  let sparseOk (n : Nat) : Bool := n == 1 && (op == 0x0001 || op == 0x0010 || op == 0x0011)
  (!blockedOk && inBlocked) || (!(blockedOk || op == 0x0061) && outBlocked) ||
    ((op == 0x0010 || op == 0x0011) && tLayout (c.i 1) != 0) ||
    (!compOk && all.any fun t => tCompress t != 0) ||
    c.ins.zipIdx.any (fun p => tSparse p.1 && !sparseOk p.2) || c.outs.any tSparse

/-- The output extents of R276 do not fit, or the window exceeds the padded input. -/
def geometryBad (g : ConvGeom) (x y : TDesc) : Bool :=
  outExtent (tDim x 1) g.pl g.pr g.dx g.kw g.sx != some (tDim y 1) ||
    outExtent (tDim x 2) g.pt g.pb g.dy g.kh g.sy != some (tDim y 2)

/-- Shape checks of step 4 of R230: the failing status. -/
def shapeBad (c : OpCheck) : Option Status :=
  let i := c.i
  let o := c.o
  let d (t : TDesc) (n : Nat) : Nat := tDim t n
  let bad (b : Bool) : Option Status := if b then some stBadShape else none
  let same := fun (a b : TDesc) => tDims a == tDims b
  match opCode c.r with
  | 0x0001 =>
    let r := tRank (i 0)
    let outer (t : TDesc) := (tDims t).drop 2
    let biasBad := c.u32 0 % 2 == 1 && !shapeIs (i 2) [d (i 1) 1]
    let qi := if c.u32 0 % 2 = 1 then 3 else 2
    let qBad := c.u32 0 / 2 % 2 == 1 && !shapeIs (i qi) [1]
    bad (decide (r < 2) || tRank (i 1) != r || tRank (o 0) != r || d (i 0) 0 != d (i 1) 0 || outer (i 0) != outer (i 1) ||
      outer (i 0) != outer (o 0) || d (o 0) 0 != d (i 1) 1 || d (o 0) 1 != d (i 0) 1 || biasBad || qBad)
  | 0x0010 | 0x0011 =>
    let g := c.u32 24
    let x := i 0
    let w := i 1
    let y := o 0
    let biasBad := c.u32 0 % 2 == 1 && !shapeIs (i 2) [d y 0]
    let qi := if c.u32 0 % 2 = 1 then 3 else 2
    let qBad := c.u32 0 / 2 % 2 == 1 && !shapeIs (i qi) [1]
    firstFail [
      (tRank x != 4 || tRank w != 4 || tRank y != 4 || d x 0 % g != 0 || d w 3 % g != 0 || d w 0 != d x 0 / g ||
        d y 0 != d w 3 || d y 3 != d x 3 || biasBad || qBad ||
        (((tFmt x).isMx || (tFmt w).isMx) && d w 0 % 32 != 0) || (tSparse w && d w 0 % 4 != 0), stBadShape),
      (geometryBad (convGeom c.attrs w) x y, stConvGeometry)]
  | 0x0018 | 0x0019 =>
    let x := i 0
    let y := o 0
    firstFail [
      (tRank x != 4 || tRank y != 4 || d y 0 != d x 0 || d y 3 != d x 3, stBadShape),
      (geometryBad (poolGeom c.attrs) x y, stConvGeometry)]
  | 0x0020 =>
    let q := i 0
    let k := i 1
    let v := i 2
    let hasBias := c.u32 0 / 2 % 2 == 1
    bad (tRank q != 4 || tRank k != 4 || tRank v != 4 || tRank (o 0) != 4 || d q 0 != d k 0 || d k 1 != d v 1 || d k 2 != d v 2 ||
      d k 3 != d q 3 || d v 3 != d q 3 || d q 2 % d k 2 != 0 || !shapeIs (o 0) [d v 0, d q 1, d q 2, d q 3] ||
      (c.u32 0 % 2 == 1 && decide (d k 1 < d q 1)) || (hasBias && !shapeIs (i 3) [d k 1, d q 1, d q 2, d q 3]))
  | 0x0030 => bad (!same (i 0) (o 0) || !shapeIs (i 1) [d (i 0) 0] || !shapeIs (i 2) [d (i 0) 0])
  | 0x0031 => bad (!same (i 0) (o 0) || !shapeIs (i 1) [d (i 0) 0])
  | 0x0032 => bad (!same (i 0) (o 0))
  | 0x0033 => bad (tRank (i 0) != 4 || !same (i 0) (o 0) || !shapeIs (i 1) [d (i 0) 0] || !shapeIs (i 2) [d (i 0) 0])
  | 0x0034 => bad (tRank (i 0) != 4 || !same (i 0) (o 0) || !shapeIs (i 1) [d (i 0) 1, d (i 0) 3])
  | 0x0040 => bad (tRank (i 0) != 2 || tRank (i 1) != 2 || !shapeIs (o 0) (d (i 0) 0 :: tDims (i 1)))
  | 0x0050 =>
    let want := c.u32 0 :: (tDims (i 0)).drop 1
    bad (!shapeIs (o 0) want || !shapeIs (o 1) want || decide (d (i 0) 0 < c.u32 0))
  | 0x0051 => bad (tRank (i 0) != 2 || !shapeIs (o 0) [1, d (i 0) 1])
  | 0x0052 => bad (!shapeIs (o 0) (1 :: (tDims (i 0)).drop 1))
  | 0x0060 => bad (tRank (i 0) != 4 || tRank (o 0) != 4 || d (i 0) 0 != d (o 0) 0 || d (i 0) 3 != d (o 0) 3)
  | 0x0061 =>
    let y := o 0
    let w := d y 1
    let h := d y 2
    let n := d y 3
    bad (tRank y != 4 || d y 0 != 3 ||
      (if c.u32 0 / 16 % 4 = 0 then !shapeIs (i 0) [w, h, n] || !shapeIs (i 1) [2, w / 2, h / 2, n] || w % 2 != 0 || h % 2 != 0
       else !shapeIs (i 0) [3, w, h, n]))
  | 0x0070 => bad (!same (i 0) (o 0))
  | 0x0071 =>
    bad (tRank (i 0) != tRank (o 0) ||
      !((List.range (tRank (i 0))).all fun j => d (o 0) j == d (i 0) (c.u32 0 / 16 ^ j % 16)))
  | 0x0072 =>
    bad (!shapeIs (o 0) ((tDims (i 0)).zipIdx.map fun p => if bitOf (c.u32 4) p.2 then 1 else p.1))
  | 0x0073 =>
    let ax := c.u32 0
    let others (t : TDesc) := (tDims t).set ax 0
    bad (c.ins.any (fun t => tRank t != tRank (o 0) || others t != others (o 0)) ||
      d (o 0) ax != (c.ins.map fun t => d t ax).sum)
  | 0x0080 => bad (c.ins.any (fun t => !same t (o 0)) || c.outs.any fun t => !same t (o 0))
  | _ => none

/-- Limits of step 5 of R230. -/
def limitBad (c : OpCheck) : Bool :=
  let i := c.i
  let d (t : TDesc) (n : Nat) : Nat := tDim t n
  let above (x l : Nat) : Bool := decide (l < x)
  match opCode c.r with
  | 0x0001 => above (d (i 0) 0) 16777216
  | 0x0010 | 0x0011 =>
    let x := i 0
    let w := i 1
    above (d x 0) 65536 || above (d w 3) 65536 || above (d x 1) 65536 || above (d x 2) 65536 || above (d x 3) 65536 ||
      above (d w 1) 64 || above (d w 2) 64 || above (d w 0 * d w 1 * d w 2) 16777216 ||
      (c.u32 0 / 16 % 4 == 1 && above (d w 1 * d w 2 * d w 3) 262144)
  | 0x0020 =>
    let q := i 0
    let badD (x : Nat) : Bool := x % 16 != 0 || decide (x < 16) || above x 256
    badD (d q 0) || badD (d (i 2) 0) || above (d q 2) 128 || above (d q 1) 1048576 || above (d (i 1) 1) 1048576 ||
      above (c.u32 12) (d (i 1) 1)
  | 0x0030 | 0x0031 | 0x0032 => above (d (i 0) 0) 16777216
  | 0x0050 => above (d (i 0) 0) 16777216
  | 0x0051 => above (d (i 0) 0) 262144 || above (d (i 0) 1) 8192
  | 0x0060 => above (d (i 0) 1) 16384 || above (d (i 0) 2) 16384 || above (d (c.o 0) 1) 16384 || above (d (c.o 0) 2) 16384
  | _ => false

/-- The expression check of step 6 of R230. -/
def exprBad (c : OpCheck) : Option Status :=
  if opCode c.r = 0x0080 then
    if !c.exprPool || decide (c.exprs.length < c.u32 0 + c.u32 4) then some stLengthBounds
    else if exprOk ((c.exprs.drop (c.u32 0)).take (c.u32 4)) c.minor (opInCount c.r) (opOutCount c.r) (tRank (c.o 0)) then none
    else some stBadExpr
  else none

/-- The in-place rule of step 7 of R230 (R237). -/
def inPlaceBad (c : OpCheck) : Bool :=
  !(opCode c.r == 0x0080 || opCode c.r == 0x0034) && (opIns c.r).any fun i => (opOuts c.r).contains i

/-- Step 9 for one operator, in the order of R230 and R300. -/
def operatorRuleBad (c : OpCheck) : Option Status :=
  let row := (opRow (opCode c.r)).getD ⟨0, 0, 0, 0, 0, 0⟩
  let conv := opCode c.r == 0x0010 || opCode c.r == 0x0011
  match firstFail [
    (opAttrBytes c.r != row.attr || (opAttrBytes c.r != 0 && opAttrOffset c.r % 4 != 0), stBadAttr),
    (attrBad c, stBadAttr),
    (operandBad c, stBadOperand),
    (conv && padRangeBad c, stPadValueRange),
    (layoutBad c, stBadLayout)] with
  | some st => some st
  | none =>
    match shapeBad c with
    | some st => some st
    | none =>
      if limitBad c then some stOpLimit
      else
        match exprBad c with
        | some st => some st
        | none => if inPlaceBad c then some stInPlace else none

/-- The first failing item of a list, at its index. -/
def firstBad {α : Type} (loc : Nat) (f : Nat → α → Option Status) : Nat → List α → Option BadItem
  | _, [] => none
  | i, x :: xs =>
    match f i x with
    | some st => some ⟨st, loc, i⟩
    | none => firstBad loc f (i + 1) xs

/-- The bytes of a section, or none when the program has no such section. -/
def sectionBytes (p : List Byte) (secs : List Section) (type : Nat) : Option (List Byte) :=
  (secs.find? fun x => x.type == type).map fun x => (p.drop x.offset).take x.bytes

/-- Fixed-size records of a section. -/
def recordsOf (w : Nat) (n : Nat) (bs : List Byte) : List (BitVec w) :=
  (chunks n (bs.length / n + 1) bs).map fun c => BitVec.ofNat w (leNat c)

/-- Steps 3 to 9 of Table 5-15 on the copied bytes of a program: the failure, or the program (without its frames). [DEDUCED, unsafe, log entry 26] -/
def validateProgram (p : List Byte) (entryBytes : Nat) (gen : BitVec 16) : Except BadItem Program :=
  if !headerOk p then .error ⟨stBadHeader, 1, 0⟩
  else if !versionOk p then .error ⟨stBadVersion, 1, 0⟩
  else if hdrProgramBytes p ≠ entryBytes then .error ⟨stLengthBounds, 1, 0⟩
  else if crc32c (p.take 20 ++ [0, 0, 0, 0] ++ p.drop 24) ≠ hdrCheck p then .error ⟨stBadCheck, 1, 0⟩
  else if hdrSections p = 0 ∨ 16 < hdrSections p then .error ⟨stBadSection, 1, 0⟩
  else
    match sectionsCheck p (hdrSections p) (hdrSections p) [] with
    | .error e => .error e
    | .ok secs =>
      match sectionBytes p secs 1, sectionBytes p secs 2 with
      | some tb, some ob =>
        let tensors : List TDesc := recordsOf 2048 256 tb
        let ops : List (BitVec 512) := recordsOf 512 64 ob
        let attrs := (sectionBytes p secs 3).getD []
        let exprs := (sectionBytes p secs 4).getD []
        let scratch := hdrScratch p
        match firstBad 3 (fun _ t => tensorBad scratch t) 0 tensors with
        | some e => .error e
        | none =>
          match firstBad 4 (operatorBad (hdrMinor p) tensors attrs.length) 0 ops with
          | some e => .error e
          | none =>
            let mk (r : BitVec 512) : OpCheck :=
              { r := r, attrs := (attrs.drop (opAttrOffset r)).take (opAttrBytes r), exprs := exprs
                exprPool := (sectionBytes p secs 4).isSome, minor := hdrMinor p
                ins := (opIns r).map fun i => (tensors[i]?).getD 0
                outs := (opOuts r).map fun i => (tensors[i]?).getD 0 }
            match firstBad 4 (fun _ r => operatorRuleBad (mk r)) 0 ops with
            | some e => .error e
            | none => .ok ⟨tensors, ops, attrs, exprs, scratch, hdrMaxRegions p, hdrMinor p, [], 0, false, gen⟩
      | _, _ => .error ⟨stBadSection, 2, hdrSections p⟩

/-- A binding entry (Table 5-8): reserved fields clean, and the binding. -/
def bindingOf (b : Nat) : Bool × Binding :=
  (bitsOf b 255 192 == 0 && bitsOf b 63 18 == 0, ⟨bitsOf b 15 0, bitsOf b 17 16, bitsOf b 127 64, bitsOf b 191 128⟩)

/-- Step 12 for one binding, with the ones before it. [DEDUCED, unsafe, log entry 26] -/
def bindingBad (p : Program) (earlier : List Binding) (clean : Bool) (b : Binding) : Option Status :=
  let t := (p.tensors[b.tensor]?).getD 0
  firstFail [
    (!clean, stBadBinding),
    (decide (p.tensors.length ≤ b.tensor), stBadBinding),
    (!hasPlane t b.plane, stBadBinding),
    (earlier.any fun e => e.tensor == b.tensor && e.plane == b.plane, stBadBinding),
    (b.addr % (planeOf t b.plane).2.2.2 != 0, stBadBinding),
    (planeBoundsBad t b.plane b.addr b.len, stLengthBounds),
    (tKind t == 3, stBadBinding)]

/-- Step 12 over a binding table. -/
def bindingsCheck (p : Program) : List Nat → List Binding → Except BadItem (List Binding)
  | [], acc => .ok acc
  | x :: xs, acc =>
    let c := bindingOf x
    match bindingBad p acc c.1 c.2 with
    | some st => .error ⟨st, 5, acc.length⟩
    | none => bindingsCheck p xs (acc ++ [c.2])

/-- Base and buffer length of a plane in a run (R199, R215): its binding, else its descriptor; a SCRATCH tensor lies in the run's scratch. -/
def planeRun (p : Program) (bs : List Binding) (scratch tid plane : Nat) : Nat × Nat :=
  let t := (p.tensors[tid]?).getD 0
  match bs.find? fun b => b.tensor == tid && b.plane == plane with
  | some b => (b.addr, b.len)
  | none =>
    if tKind t = 3 ∧ plane = 0 then (scratch + tBase t, tBufBytes t)
    else ((planeOf t plane).1, (planeOf t plane).2.1)

/-- A tensor as a run sees it. -/
def viewOf (p : Program) (bs : List Binding) (scratch tid : Nat) : TView :=
  let b (plane : Nat) : Nat := (planeRun p bs scratch tid plane).1
  ⟨(p.tensors[tid]?).getD 0, b 0, b 1, b 2, b 3⟩

/-- Step 14: every plane of every tensor lies in mapped pages. -/
def State.unmappedTensor (s : State) (c : Nat) (p : Program) (bs : List Binding) (scratch : Nat) : Option BadItem :=
  firstBad 3 (fun tid t => if (planes t).all (fun pl =>
      let r := planeRun p bs scratch tid pl
      s.cvaMapped c r.1 r.2) then none else some stNotMapped) 0 p.tensors

end Sys2Proof.Machine
end

