-- ==== Sys2Proof/Machine/Entries.lean ====
section
/-! DEFINITION. The commands of the queues and the ring entries NOP to WAIT (05_graph_contract_and_queues.md R198 to R217). -/

namespace Sys2Proof.Machine

/-- SQ_TAIL (R206). -/
def execSqTail (fn : Fn) (q : Qn) (value : BitVec 16) (s : State) : Host.Outcome State Fault Refusal :=
  s.doorbell fn.val (0x10 * q.val) (.sqTail fn q value) fun s => s.sqTailWrite fn.val q.val value.toNat

/-- CQ_HEAD (R206, R209). -/
def execCqHead (fn : Fn) (q : Qn) (value : BitVec 16) (s : State) : Host.Outcome State Fault Refusal :=
  s.doorbell fn.val (0x10 * q.val + 4) (.cqHead fn q value) fun s => s.cqHeadWrite fn.val q.val value.toNat

/-- QUEUE_ENABLE (R204, R210). -/
def execQueueEnable (fn : Fn) (q : Qn) (irqEn : Bool) (s : State) : Host.Outcome State Fault Refusal :=
  s.regWrite fn.val (0x220014 + 0x40 * q.val) true (.queueEnable fn q irqEn) fun s => s.setQueue fn.val q.val ((s.queue fn.val q.val).start irqEn)

/-- QUEUE_DISABLE (R210). -/
def execQueueDisable (fn : Fn) (q : Qn) (irqEn : Bool) (s : State) : Host.Outcome State Fault Refusal :=
  s.regWrite fn.val (0x220014 + 0x40 * q.val) false (.queueDisable fn q irqEn) fun s => s.queueStop fn.val q.val irqEn

/-- RING_ENTRY_FETCH (R202). -/
def execRingEntryFetch (fn : Fn) (q : Qn) (s : State) : Host.Outcome State Fault Refusal := if !s.unitsRun then .next s else .next (s.fetchEntry fn.val q.val)

/-- A tray that does not act for a mirrored context writes no record of its completed work; its refusals and faults are still reported (R610, R621). [DEDUCED, unsafe, log entry 47] -/
def State.recordOpen (s : State) (fn q : Nat) : Bool :=
  s.mayRun fn || (match (s.queue fn q).held with | r :: _ => r.bits.extractLsb' 80 16 != 0 | [] => true)

/-- COMPLETION_RECORD_WRITE (R208, R209). -/
def execCompletionRecordWrite (fn : Fn) (q : Qn) (s : State) : Host.Outcome State Fault Refusal :=
  if !s.unitsRun || !s.recordOpen fn.val q.val then .next s else .next (s.writeRecord fn.val q.val)

/-- An entry of this TYPE starts when it is the ring's next (R202). -/
def State.entryStart (s : State) (fn q ty : Nat) (f : State → QEntry → State) : Host.Outcome State Fault Refusal :=
  if !s.unitsRun then .next s else
  match s.nextEntry fn q ty with
  | none => .next s
  | some e => .next (f s e)

/-- NOP (R198). -/
def execNop (fn : Fn) (q : Qn) (s : State) : Host.Outcome State Fault Refusal :=
  s.entryStart fn.val q.val 0x00 fun s e => s.runEntry fn.val q.val e stOk 0

/-- Take `n` frames of 4 KiB for the copy of a program (R200). [DESIGN CHOICE, unsafe, log entry 24] -/
def State.takeCopyFrames (s : State) (c : Nat) : Nat → List Nat → Option (State × List Nat)
  | 0, acc => some (s, acc.reverse)
  | n + 1, acc =>
    match s.takeFrame (.ctx c (s.ctx c).gen) none 0 1 false with
    | none => none
    | some (s', f) => State.takeCopyFrames s' c n (f :: acc)

/-- Store the copy's bytes in its frames. -/
def storeFrames (m : Mem) : List Nat → List Byte → Mem
  | [], _ => m
  | f :: fs, bs => storeFrames (m.writeN (f * granule) (bs.take granule)) fs (bs.drop granule)

/-- The key of a handle of a context. -/
def progKey (c h : Nat) : Nat := c * 1024 + h

/-- A handle that is free for a context: the free choice where it is free, else the lowest (the spec does not say which handle a LOAD returns). [DESIGN CHOICE, unsafe, log entry 24; DESIGN CHOICE, unsafe, log entry 84] -/
def State.freeHandle (s : State) (c : Nat) : Option Nat :=
  let f := s.pick 0 % 1024
  if (s.progs.look (progKey c f)).isNone then some f
  else (s.progs.freeFrom 1024 (progKey c 0)).map (· - progKey c 0)

/-- LOAD, steps 2 to 10 of Table 5-15: status, RESULT, state. [DESIGN CHOICE, unsafe, log entry 24] -/
def State.loadProgram (s : State) (c : Nat) (cva bytes : Nat) : State × Status × BitVec 32 :=
  let bad (st : Status) (r : BitVec 32) : State × Status × BitVec 32 := (s, st, r)
  if bytes < 64 ∨ 2 ^ 28 < bytes ∨ 2 ^ 38 < cva + bytes then bad stLengthBounds (whereResult 0 0)
  else
    match s.readCvaN c none cva bytes with
    | none => bad (s.readFault c cva bytes) (whereResult 0 0)
    | some p =>
      match validateProgram p bytes (s.ctx c).gen with
      | .error e => bad e.status (whereResult e.loc e.idx)
      | .ok prog =>
        let n := ceilDiv bytes granule
        match s.freeHandle c with
        | none => bad stHandleLimit (whereResult 0 0)
        | some h =>
          if !s.quotaOk c n 0 then bad stQuotaExceeded (whereResult 0 0)
          else
            match s.draw.takeCopyFrames c n [] with
            | none => bad stNoMemory (whereResult 0 0)
            | some (s1, fs) =>
              ({ s1 with hbm := storeFrames s1.hbm fs p, progs := s1.progs.put (progKey c h) { prog with frames := fs } },
                stOk, BitVec.ofNat 32 h)

/-- LOAD (R200, R214). -/
def execLoad (fn : Fn) (q : Qn) (s : State) : Host.Outcome State Fault Refusal :=
  s.entryStart fn.val q.val 0x01 fun s e =>
    let r := (s.startEntry fn.val q.val e.id .running).loadProgram fn.val (entField e.raw 448 64) (entField e.raw 416 32)
    r.1.completeEntry fn.val q.val e.id r.2.1 r.2.2

/-- The frames of a program's copy are freed. -/
def State.freeProgram (s : State) (key : Nat) : State :=
  match s.progs.look key with
  | none => s
  | some p => p.frames.foldl State.unref { s with progs := s.progs.del key }

/-- UNLOAD (Table 5-18): the copy is freed after the last run that uses it. -/
def execUnload (fn : Fn) (q : Qn) (s : State) : Host.Outcome State Fault Refusal :=
  s.entryStart fn.val q.val 0x03 fun s e =>
    let h := entField e.raw 224 16
    let key := progKey fn.val h
    match if h < 1024 then s.progs.look key else none with
    | some p =>
      if p.unloaded then s.runEntry fn.val q.val e stBadHandle (whereResult 0 0)
      else if p.users = 0 then (s.freeProgram key).runEntry fn.val q.val e stOk 0
      else { s with progs := s.progs.put key { p with unloaded := true } }.runEntry fn.val q.val e stOk 0
    | none => s.runEntry fn.val q.val e stBadHandle (whereResult 0 0)

/-- Steps 11 to 14 of Table 5-15 for a RUN: the failure with RESULT, or the bindings. -/
def State.runCheck (s : State) (c : Nat) (raw : BitVec 512) : Except (Status × BitVec 32) (List Binding) :=
  let h := entField raw 224 16
  let count := entField raw 240 16
  let bind := entField raw 256 64
  let scratch := entField raw 384 64
  let sbytes := entField raw 320 64
  match if h < 1024 then s.progs.look (progKey c h) else none with
  | none => .error (stBadHandle, whereResult 0 0)
  | some p =>
    if p.unloaded then .error (stBadHandle, whereResult 0 0)
    else if 256 < count then .error (stLengthBounds, whereResult 0 0)
    else if 2 ^ 38 < bind + 32 * count then .error (stLengthBounds, whereResult 0 0)
    else
      match s.readCvaN c none bind (32 * count) with
      | none => .error (s.readFault c bind (32 * count), whereResult 0 0)
      | some bs =>
        match bindingsCheck p ((chunks 32 count bs).map leNat) [] with
        | .error e => .error (e.status, whereResult e.loc e.idx)
        | .ok bl =>
          if sbytes < p.scratch ∨ 2 ^ 38 < scratch + sbytes then .error (stLengthBounds, whereResult 6 0)
          else
            match s.unmappedTensor c p bl scratch with
            | some e => .error (e.status, whereResult e.loc e.idx)
            | none => if s.cvaMapped c scratch sbytes then .ok bl else .error (stNotMapped, whereResult 6 0)

/-- What RUN is answered: the refusal of a faulted tray (R704) or for want of the lease (R610), before steps 11 to 14. -/
def State.runJudge (s s1 : State) (c : Nat) (raw : BitVec 512) : Except (Status × BitVec 32) (List Binding) :=
  if s.integ.persistent.isSome then .error (stJobFault, 0)
  else if !s.mayRun c then .error (stLeaseLost, 0)
  else s1.runCheck c raw

/-- RUN (R214, R163): steps 11 to 14, admission, and the job that waits for placement. -/
def execRun (fn : Fn) (q : Qn) (s : State) : Host.Outcome State Fault Refusal :=
  s.entryStart fn.val q.val 0x02 fun s e =>
    let s1 := s.startEntry fn.val q.val e.id .running
    match s.runJudge s1 fn.val e.raw with
    | .error r => s1.completeEntry fn.val q.val e.id r.1 r.2
    | .ok bl =>
      let h := progKey fn.val (entField e.raw 224 16)
      let a := s1.admitWork fn.val
      let n := ((s1.progs.look h).map fun p => p.operators.length).getD 0
      let j : Job :=
        { ctx := fn.val, gen := (s1.ctx fn.val).gen, q := q.val, entry := e.id, prog := h, bindings := bl
          scratch := entField e.raw 384 64, priority := entField e.raw 216 3, deadline := entField e.raw 448 64, bell := e.bell
          seq := a.2, placed := false, regions := [], ops := List.replicate n .waiting, numFlags := 0, fault := none, index := none
          once := false, inputs := none, started := 0, energy := 0, padT := [] }
      let s2 := a.1
      { s2 with
        jobs := s2.jobs.put s2.nextId j, nextId := s2.nextId + 1
        progs := s2.progs.modAt h fun p => { p with users := p.users + 1 } }

/-- PAGE_ENTRY (R198): the record goes to the page manager. -/
def execPageEntry (fn : Fn) (q : Qn) (s : State) : Host.Outcome State Fault Refusal :=
  s.entryStart fn.val q.val 0x04 fun s e =>
    (s.startEntry fn.val q.val e.id .running).pageSubmit (.ring fn.val q.val) (e.raw.extractLsb' 256 256)

/-- Test the WAIT of one ring (R203). -/
def State.testWait (s : State) (fn q : Nat) : State :=
  match s.waitingEntry fn q with
  | none => s
  | some e => if s.waitMet fn e then s.completeEntry fn q e.id stOk 0 else s

/-- SIGNAL (R203): one 8-byte store, then every WAIT of the context is tested. -/
def execSignal (fn : Fn) (q : Qn) (s : State) : Host.Outcome State Fault Refusal :=
  s.entryStart fn.val q.val 0x05 fun s e =>
    let cva := entField e.raw 448 64
    let s1 :=
      if !s.cvaMapped fn.val cva 8 then s.runEntry fn.val q.val e stNotMapped 0
      else
        match s.writeCvaN fn.val none cva (leBytes 8 (entField e.raw 384 64)) with
        | .ok s' => s'.runEntry fn.val q.val e stOk 0
        | .error st => s.runEntry fn.val q.val e st 0
    (List.range 8).foldl (fun s k => s.testWait fn.val k) s1

/-- WAIT (R203): it starts, and tests ADDR from then on. -/
def execWait (fn : Fn) (q : Qn) (s : State) : Host.Outcome State Fault Refusal :=
  s.entryStart fn.val q.val 0x06 fun s e => s.startEntry fn.val q.val e.id .waiting

/-- WAIT_TEST (R203). -/
def execWaitTest (dt : Nat) (fn : Fn) (q : Qn) (s : State) : Host.Outcome State Fault Refusal :=
  if !s.clocked then .next s else
  .next ((s.elapse dt).testWait fn.val q.val)

/-- WAIT_TIMEOUT (R203): TIMEOUT is non-zero and has passed. -/
def execWaitTimeout (dt : Nat) (fn : Fn) (q : Qn) (s0 : State) : Host.Outcome State Fault Refusal :=
  if !s0.clocked then .next (s0.elapse dt) else
  let s := s0.elapse dt
  match s.waitingEntry fn.val q.val with
  | none => .next s
  | some e =>
    let t := entField e.raw 320 64
    if t ≠ 0 ∧ e.start + t ≤ s.now then .next (s.completeEntry fn.val q.val e.id stWaitTimeout 0) else .next s

end Sys2Proof.Machine
end

