-- ==== Sys2Proof/Machine/Activity.lean ====
section
/-! DEFINITION. What the tensor blocks and lowering engines of a region do for an operator as the event counters see it (02 R55 to R57, 07 R285 to R291, 16 R633, R634) and the energy model counts it (14 R575), and the use of a region's SRAM (04 R172). -/

namespace Sys2Proof.Machine

/-- TB `i` of a region takes no placement (R692, R694): it is disabled, quarantined for the region's present band, or under test. -/
def State.tbOff (s : State) (r i : Nat) : Bool :=
  bitOf (s.integ.disabled.valAt 0 r) i || bitOf (s.integ.quarantine.valAt 0 (r * 32 + i)) (s.bandOf r) ||
    (match s.integ.windows.look r with | some w => w.block == i | none => false)

/-- The TBs of some regions that are in placement. -/
def State.workingTbs (s : State) (regions : List Nat) : List Nat :=
  regions.flatMap fun r => (regionBlocks r).filter fun id => id / 32 % 8 == 0 && !s.tbOff r (id % 32)

/-- Divide a number over places by free choices (R126: the split over TBs is not fixed). [DEDUCED, unsafe, log entry 83] -/
def splitFree (pick : Nat → Nat) : Nat → Nat → List Nat → List (Nat × Nat)
  | _, _, [] => []
  | _, n, [b] => [(b, n)]
  | i, n, b :: bs => let x := pick i % (n + 1); (b, x) :: splitFree pick (i + 1) (n - x) bs

/-- `n` events over blocks that share them freely: each block with its number. -/
def State.shares (s : State) (key : Nat) (blocks : List Nat) (n : Nat) : List (Nat × Nat) :=
  splitFree (fun i => s.pick (2 ^ 52 + key * 2 ^ 12 + i)) 0 n blocks

/-- Count `n` events of a block source over blocks that share them freely. -/
def State.countSplit (s : State) (source key : Nat) (blocks : List Nat) (ctx : Option Nat) (n : Nat) : State :=
  (s.shares key blocks n).foldl (fun s x => s.count source (some x.1) ctx x.2) s

/-- Who holds a compute region, as energy is attributed (R576): the job, or the step in flight that runs in it; nobody where neither does. -/
def State.energyHolder (s : State) (r : Nat) : Option EnergyHolder :=
  match (s.regions.valAt .reset r).holder with
  | .free => none
  | .job id => (s.jobs.look id).bind fun j => if h : j.ctx < 16 then some (.job ⟨j.ctx, h⟩ id) else none
  | .serving c =>
    match s.serving.steps.look c with
    | some st => if h : c < 16 then (if st.regions.contains r then some (.step ⟨c, h⟩ st.seq) else none) else none
    | none => none

/-- One more use of a region joins those of the interval that have the same holder, region, set point and band. -/
def mergeUse (k : RegionUse) : List RegionUse → List RegionUse
  | [] => [k]
  | x :: xs =>
    if x.holder = k.holder ∧ x.region = k.region ∧ x.mv = k.mv ∧ x.band = k.band then
      { x with ns := x.ns + k.ns, tb := (List.range 9).map fun i => x.tb.getD i 0 + k.tb.getD i 0 } :: xs
    else x :: mergeUse k xs

/-- A compute region runs for `ns` nanoseconds, or its TBs complete handshakes, for its holder at its present set point and band (R575). [DEDUCED, safe, log entry 59] -/
def State.useRegion (s : State) (r ns : Nat) (tb : List Nat) : State :=
  { s with limits := { s.limits with use := mergeUse ⟨s.energyHolder r, r, s.vcompOf r, s.bandOf r, ns, tb⟩ s.limits.use } }

/-- Handshakes of one rate class and kind, as the energy model counts them: at their place among the nine. -/
def useOfKind (cls kind n : Nat) : List Nat := (List.range 9).map fun i => if i = 3 * cls + kind then n else 0

/-- The place of a rate class in Table 3-12. -/
def rateClass : PairClass → Nat
  | .two => 0
  | .one => 1
  | .half => 2

/-- TBs complete handshakes of a rate class and kind: sources 0x10 to 0x12 (Table 16-4), and the energy model (Table 14-5). -/
def State.countKind (s : State) (key cls kind : Nat) (blocks : List Nat) (ctx : Option Nat) (n : Nat) : State :=
  (s.shares (3 * key + kind) blocks n).foldl (fun s x => s.useRegion (x.1 / 256) 0 (useOfKind cls kind x.2))
    (s.countSplit (0x10 + kind) (3 * key + kind) blocks ctx n)

/-- Count cell handshakes over the TBs of some regions (Table 16-4, 0x10 to 0x12). -/
def State.countHandshakes (s : State) (key : Nat) (regions : List Nat) (ctx : Option Nat) (pair : Option PairClass) (h : Handshakes) : State :=
  let l := s.workingTbs regions
  let cls := (pair.map rateClass).getD 1
  ((s.countKind key cls 0 l ctx h.general).countKind key cls 1 l ctx h.narrow).countKind key cls 2 l ctx h.zero

/-- A row tile runs in one of the job's regions, whose LE lowers its rows (R289): its handshakes, lowered bytes and omitted taps (Table 16-4, 0x40, 0x41). [DEDUCED, unsafe, log entry 83] -/
def State.countTile (s : State) (regions : List Nat) (ctx : Option Nat) (pair : Option PairClass) (x : TileWork × Nat) : State :=
  let r := (regions[s.pick (2 ^ 51 + x.2) % regions.length]?).getD 0
  let le := some (r * 256 + 96)
  ((s.countHandshakes x.2 [r] ctx pair x.1.hs).count 0x40 le ctx x.1.lowered).count 0x41 le ctx x.1.omitted

/-- Groups of a convolution operator. -/
def convGroups (code : Nat) (e : OpEnv) : Nat := if code = 0x0010 then 1 else e.u32 24

/-- The regions' block SRAM is divided for a convolution (R172, R287). -/
def State.divideSram (s : State) (regions : List Nat) (d : SramDivision) : State :=
  regions.foldl (fun s r => s.modRegion r fun x => { x with division := some d }) s

/-- What an operator makes the TBs and LEs of its regions count, and how its block SRAM is divided meanwhile. [DEDUCED, unsafe, log entry 83] -/
def State.operatorWork (s : State) (regions : List Nat) (ctx : Option Nat) (code : Nat) (e : OpEnv) : State :=
  match code with
  | 0x0001 => (s.countHandshakes 0 regions ctx (pairClass (tFmt (e.inp 0).t) (tFmt (e.inp 1).t)) (matmulHandshakes e)).draw
  | 0x0010 | 0x0011 =>
    let c := convSpec e (convGroups code e)
    let s1 := s.divideSram regions (convDivision c.pair c.sparse)
    ((convTiles e c.groups).zipIdx.foldl (fun s x => s.countTile regions ctx (some c.pair) x) s1).draw
  | _ => s

end Sys2Proof.Machine
end

