-- ==== Sys2Proof/Machine/OperatorRows.lean ====
section
/-! DEFINITION. The operator commands (06_operator_catalogue.md, 07_convolution_path.md): an issued operator of a running job computes its outputs from the tensors of its run. -/

namespace Sys2Proof.Machine

/-- The environment of an operator of a job. -/
def State.opEnv (s : State) (j : Job) (p : Program) (op : Nat) (r : BitVec 512) : OpEnv :=
  { s := s, a := ⟨j.ctx, some j.seq⟩, rnd := opRnd r, sat := opSat r
    attrs := (p.attrs.drop (opAttrOffset r)).take (opAttrBytes r), exprs := p.exprs
    ins := (opIns r).map (viewOf p j.bindings j.scratch), outs := (opOuts r).map (viewOf p j.bindings j.scratch), padT := j.padT.look op }

/-- The tables T that a run forms at its start (R283): of each constant-mode convolution whose weights no operator of the program writes; the others are formed from the weights when the convolution runs (R284). [DEDUCED, unsafe, log entry 83] -/
def State.formTables (s : State) (j : Job) (p : Program) : Store (List (Option (BitVec 32 × NumFlags))) :=
  p.operators.zipIdx.filterMap fun x =>
    let code := opCode x.1
    let e := s.opEnv j p x.2 x.1
    if (code = 0x0010 ∨ code = 0x0011) ∧ e.u32 0 / 16 % 4 = 1 ∧ (p.operators.all fun r => !(opOuts r).contains (opIn x.1 1)) = true
    then some (x.2, padTable e (convGroups code e)) else none

/-- What computing operator `op` does to its job: flags are sticky (R131), poison ends it with JOB_FAULT (R36, R164), a page failure with that status (R162), an index outside its table is remembered (R252). [DESIGN CHOICE, unsafe, log entry 81] -/
def Job.computed (j : Job) (op : Nat) (flags : NumFlags) (poison : Bool) (fail : Option Status) (outside : Bool) : Job :=
  let j1 := { j with ops := j.ops.set op .computed, numFlags := j.numFlags ||| flags }
  let j2 := if outside then { j1 with index := some (min op (j1.index.getD op)) } else j1
  match fail with
  | some st => j2.failAt st op
  | none => if poison then j2.failAt stJobFault op else j2

/-- The passes beyond the first that an ATTENTION operator takes (R325): ⌈r / 16⌉ − 1 for each key–value head of each batch entry, r query heads sharing one. -/
def attentionPasses (e : OpEnv) : Nat :=
  let hkv := e.dim 1 2
  e.dim 0 3 * hkv * (ceilDiv (e.dim 0 2 / hkv) 16 - 1)

/-- An issued operator with this opcode computes its outputs. -/
def State.opRun (s : State) (job op code : Nat) (f : OpEnv → OpResult) : Host.Outcome State Fault Refusal :=
  if !s.clocked then .next s else
  match s.jobs.look job with
  | none => .next s
  | some j =>
    match s.progs.look j.prog with
    | none => .next s
    | some p =>
      match j.ops[op]?, p.operators[op]? with
      | some ph, some r =>
        if ph = .issued ∧ opCode r = code ∧ j.fault = none ∧ s.issues j.regions = true then
          let e := s.opEnv j p op r
          let res := f e
          let outside := code == 0x0040 && gatherOut e
          let passes := if code = 0x0020 then attentionPasses e else 0
          let s1 := { (res.state.draw.bumpBy 0x630008 passes).operatorWork j.regions (some j.ctx) code e with jobs := s.jobs.put job (j.computed op res.flags res.poison res.fail outside) }
          .next (if res.poison then s1.slackStop 3 else s1)
        else .next s
      | _, _ => .next s

/-- MATMUL (R239 to R242). -/
def execMatmul (job : Nat) (op : Nat) (s : State) : Host.Outcome State Fault Refusal := s.opRun job op 0x0001 opMatmul

/-- CONV2D (R279 to R284). -/
def execConv2d (job : Nat) (op : Nat) (s : State) : Host.Outcome State Fault Refusal := s.opRun job op 0x0010 (fun e => convolve e 1)

/-- CONV2D_GROUPED (R290, R291). -/
def execConv2dGrouped (job : Nat) (op : Nat) (s : State) : Host.Outcome State Fault Refusal := s.opRun job op 0x0011 (fun e => convolve e (e.u32 24))

/-- MAXPOOL2D (R294). -/
def execMaxpool2d (job : Nat) (op : Nat) (s : State) : Host.Outcome State Fault Refusal := s.opRun job op 0x0018 opMaxPool

/-- AVGPOOL2D (R295). -/
def execAvgpool2d (job : Nat) (op : Nat) (s : State) : Host.Outcome State Fault Refusal := s.opRun job op 0x0019 opAvgPool

/-- ATTENTION (R243 to R246). -/
def execAttention (job : Nat) (op : Nat) (s : State) : Host.Outcome State Fault Refusal := s.opRun job op 0x0020 opAttention

/-- LAYERNORM (R247). -/
def execLayernorm (job : Nat) (op : Nat) (s : State) : Host.Outcome State Fault Refusal := s.opRun job op 0x0030 opLayerNorm

/-- RMSNORM (R247). -/
def execRmsnorm (job : Nat) (op : Nat) (s : State) : Host.Outcome State Fault Refusal := s.opRun job op 0x0031 opRmsNorm

/-- SOFTMAX (R249). -/
def execSoftmax (job : Nat) (op : Nat) (s : State) : Host.Outcome State Fault Refusal := s.opRun job op 0x0032 opSoftmax

/-- GROUPNORM (R248). -/
def execGroupnorm (job : Nat) (op : Nat) (s : State) : Host.Outcome State Fault Refusal := s.opRun job op 0x0033 opGroupNorm

/-- ROPE (R250). -/
def execRope (job : Nat) (op : Nat) (s : State) : Host.Outcome State Fault Refusal := s.opRun job op 0x0034 opRope

/-- EMBED_GATHER (R251, R252). -/
def execEmbedGather (job : Nat) (op : Nat) (s : State) : Host.Outcome State Fault Refusal := s.opRun job op 0x0040 opEmbedGather

/-- TOPK (R257). -/
def execTopk (job : Nat) (op : Nat) (s : State) : Host.Outcome State Fault Refusal := s.opRun job op 0x0050 opTopK

/-- SAMPLE (R259): its rows join the sampler's queue, from which SAMPLER_ROW draws them (R229). -/
def execSample (job : Nat) (op : Nat) (s : State) : Host.Outcome State Fault Refusal :=
  if !s.clocked then .next s else
  match s.jobs.look job with
  | none => .next s
  | some j =>
    match s.progs.look j.prog with
    | none => .next s
    | some p =>
      match j.ops[op]?, p.operators[op]? with
      | some ph, some r =>
        if ph = .issued ∧ opCode r = 0x0051 ∧ j.fault = none ∧ s.issues j.regions = true then
          .next { s with
            jobs := s.jobs.put job { j with ops := j.ops.set op .sampling }
            serving := { s.serving with rows := s.serving.rows ++ (List.range (sampleRows (s.opEnv j p op r))).map fun b => .sample job op b } }
        else .next s
      | _, _ => .next s

/-- The sampler draws one row of a SAMPLE (R229, R259); the operator is computed with its last row. A row of a job that has gone or has failed is dropped. -/
def State.sampleRow (s : State) (job op row : Nat) : State :=
  match s.jobs.look job with
  | none => s
  | some j =>
    match s.progs.look j.prog with
    | none => s
    | some p =>
      match j.ops[op]?, p.operators[op]? with
      | some ph, some r =>
        if ph = .sampling ∧ j.fault = none then
          let e := s.opEnv j p op r
          let res := opSampleRow e row
          let j1 := j.computed op res.flags res.poison res.fail false
          let phase : OpPhase := if row + 1 = sampleRows e then .computed else .sampling
          let s1 := { res.state.draw with jobs := s.jobs.put job { j1 with ops := j1.ops.set op phase } }
          if res.poison then s1.slackStop 3 else s1
        else s
      | _, _ => s

/-- ARGMAX (R258). -/
def execArgmax (job : Nat) (op : Nat) (s : State) : Host.Outcome State Fault Refusal := s.opRun job op 0x0052 opArgmax

/-- RESIZE (R260, R261). -/
def execResize (job : Nat) (op : Nat) (s : State) : Host.Outcome State Fault Refusal := s.opRun job op 0x0060 opResize

/-- COLOR_CONVERT (R262, R263). -/
def execColorConvert (job : Nat) (op : Nat) (s : State) : Host.Outcome State Fault Refusal := s.opRun job op 0x0061 opColorConvert

/-- CONVERT (R253). -/
def execConvert (job : Nat) (op : Nat) (s : State) : Host.Outcome State Fault Refusal := s.opRun job op 0x0070 opConvert

/-- TRANSPOSE (R254). -/
def execTranspose (job : Nat) (op : Nat) (s : State) : Host.Outcome State Fault Refusal := s.opRun job op 0x0071 opTranspose

/-- REDUCE (R256). -/
def execReduce (job : Nat) (op : Nat) (s : State) : Host.Outcome State Fault Refusal := s.opRun job op 0x0072 opReduce

/-- CONCAT (R255). -/
def execConcat (job : Nat) (op : Nat) (s : State) : Host.Outcome State Fault Refusal := s.opRun job op 0x0073 opConcat

/-- MAP (R264 to R266). -/
def execMap (job : Nat) (op : Nat) (s : State) : Host.Outcome State Fault Refusal := s.opRun job op 0x0080 opMap

end Sys2Proof.Machine
end

