-- ==== Sys2Proof/Machine/ServingModel.lean ====
section
/-! DEFINITION. What a serving step computes (09_serving_engine.md R349 to R352, R390; 08 R319 to R323, R329): a model's program is run over the step's tokens, with walks in place of the keys and values of its ATTENTION operators. -/

namespace Sys2Proof.Machine

/-- A field of a 1024-bit descriptor. -/
def dField (r : BitVec 1024) (lo n : Nat) : Nat := (r.extractLsb' lo n).toNat

/-- The index of the outermost dimension. -/
def tOuter (t : TDesc) : Nat := tRank t - 1

/-- A descriptor with the extent of its outermost dimension replaced (R350). -/
def tWithOuter (t : TDesc) (n : Nat) : TDesc :=
  let lo := 128 + 32 * tOuter t
  (t &&& ~~~((0xFFFFFFFF : TDesc) <<< lo)) ||| (BitVec.ofNat 2048 (n % 2 ^ 32) <<< lo)

/-- The base of a plane of a step tensor in engine-owned scratch (R350). -/
def scratchBase (tid plane : Nat) : Nat := (tid + 1) * 2 ^ 44 + plane * 2 ^ 42

/-- A tensor as a step of `n` tokens sees it: a step tensor in engine-owned scratch, any other where its descriptor places it (R350). -/
def stepView (p : Program) (m : Model) (n tid : Nat) : TView :=
  if m.steps.contains tid then
    ⟨tWithOuter ((p.tensors[tid]?).getD 0) n, scratchBase tid 0, scratchBase tid 1, scratchBase tid 2, scratchBase tid 3⟩
  else viewOf p [] (2 ^ 43) tid

/-- A token of a step: member, position in its sequence, token. -/
structure StepToken where
  member : StepMember
  pos : Nat
  tok : BitVec 32

/-- The tokens of a step in row order (R328). [DEDUCED, unsafe, log entry 48] -/
def stepTokens (ms : List StepMember) : List StepToken :=
  ms.flatMap fun m => m.tokens.zipIdx.map fun t => ⟨m, m.start + t.2, t.1⟩

/-- Regions that a context holds for serving (R353). -/
def State.servingRegions (s : State) (c : Nat) : List Nat :=
  (List.range 6).filter fun r => (s.regions.valAt .reset r).holder = .serving c

/-- The regions held for serving on which a step may run: their arbiters grant (R37 step 1, R39). -/
def State.stepRegions (s : State) (c : Nat) : List Nat := (s.servingRegions c).filter s.granting

/-- The function of each opcode but ATTENTION and MATMUL. -/
def opByCode : Nat → OpEnv → OpResult
  | 0x0010 => fun e => convolve e 1
  | 0x0011 => fun e => convolve e (e.u32 24)
  | 0x0018 => opMaxPool
  | 0x0019 => opAvgPool
  | 0x0030 => opLayerNorm
  | 0x0031 => opRmsNorm
  | 0x0032 => opSoftmax
  | 0x0033 => opGroupNorm
  | 0x0034 => opRope
  | 0x0040 => opEmbedGather
  | 0x0050 => opTopK
  | 0x0051 => opSample
  | 0x0052 => opArgmax
  | 0x0060 => opResize
  | 0x0061 => opColorConvert
  | 0x0070 => opConvert
  | 0x0071 => opTranspose
  | 0x0072 => opReduce
  | 0x0073 => opConcat
  | 0x0080 => opMap
  | _ => fun e => e.start

/-- How a running step stands. -/
structure StepRun where
  s : State
  flags : NumFlags
  poison : Bool
  fail : Option Status
  /-- Members whose WRITE could not be performed, with the status. -/
  failed : List (Nat × Status)
  /-- The next layer. -/
  layer : Nat

/-- The request of a member. -/
def State.request (s : State) (i : Nat) : Option Request := s.serving.requests.look i
def State.setRequest (s : State) (i : Nat) (r : Request) : State := { s with serving := { s.serving with requests := s.serving.requests.put i r } }
def State.modRequest (s : State) (i : Nat) (f : Request → Request) : State :=
  { s with serving := { s.serving with requests := s.serving.requests.modAt i f } }

/-- The adapter generation that a request uses. -/
def State.adapterOf (s : State) (r : Request) : Option AdapterGen :=
  if dField r.desc 392 1 = 0 then none
  else s.serving.adapters.vals.find? fun a => a.ctx == r.ctx && a.handle == dField r.desc 393 8 && a.gen == r.adapterGen

/-- An element of A as an adapter target takes it: its element value with its block scale, before any tensor scale, since the term joins the accumulator before step 2 of R119. -/
def adapterElem (e : OpEnv) (idx : List Nat) : Val :=
  match e.s.elem e.a (e.inp 0) idx, e.s.tapScale e.a (e.inp 0) idx with
  | .val v, some b => v.mul (e8m0Val b)
  | _, _ => Val.zero

/-- The partial sum of an adapter target for one output element of its MATMUL (R390). Where A is poison the output is poison anyway. -/
def adapterTerm (e : OpEnv) (idx : List Nat) (t : AdapterTarget) : Acc :=
  let k := e.dim 0 0
  let n := idx.headD 0
  let bf (c : Option (BitVec 16)) : Val := (Fmt.bf16).elemVal (c.getD 0).toNat
  let inner (j : Nat) : Acc :=
    freeFpSum (e.pick (2 ^ 20 + j)) ((List.range k).map fun x => (adapterElem e (x :: idx.drop 1)).mul (bf t.la[x + k * j]?))
  let inners := (List.range t.rank).map inner
  let outer := freeFpSum (e.pick (2 ^ 21 + n)) (inners.zipIdx.map fun x => x.1.1.mul (bf t.lb[x.2 + t.rank * n]?))
  let r := fmul (decode32 t.alpha) outer.1
  (r.1, inners.foldl (fun f x => f ||| x.2) (outer.2 ||| r.2))

/-- Keys and values of a token, head by head, from the K and V inputs of an ATTENTION operator; none is poison. -/
def kvRowOf (e : OpEnv) (hkv d dv row : Nat) : Option KvRow :=
  let codes (i n : Nat) : Option (List (BitVec 32)) :=
    (allReads ((List.range (hkv * n)).map fun x => e.rd i [x % n, 0, x / n, row])).map fun r => r.1.map encode32
  match codes 1 d, codes 2 dv with
  | some k, some v => some ⟨k, v⟩
  | _, _ => none

/-- One output row element of paged attention (R245, R319, R320, R329): token `tk`, query element row, head h, value element el. -/
def pagedAttend (e : OpEnv) (s : State) (table layer : Nat) (hkv d : Nat) (spec : Bool) (tk : StepToken) (idx : List Nat) : Read :=
  let el := idx.headD 0
  let i := (idx[1]?).getD 0
  let h := (idx[2]?).getD 0
  let b := (idx[3]?).getD 0
  let hq := e.dim 0 2
  let g := h * hkv / hq
  let scale := if e.u32 4 = 0 then rootScale d else e.f32 4
  let hasBias := e.u32 0 / 2 % 2 == 1
  let pick := e.pick (linearIdx (tDims (e.out 0).t) idx)
  match s.kvTable table, allReads ((List.range d).map fun x => e.rd 0 [x, i, h, b]) with
  | some t, some (qv, qf) =>
    let keys := (List.range (tk.pos + 1)).filter fun j => !maskedAt true (e.u32 12) tk.pos j 0 0
    let pageOf (j : Nat) : Option (KvPage × Nat) := (t.locate layer j spec).bind fun l => (s.kvPage l.1).map fun p => (p, l.2)
    let score (j : Nat) : Read :=
      match pageOf j with
      | none => none
      | some (p, o) =>
        if s.kvLost p o true g then none else
        let ks := (List.range d).map fun x => s.kvRead p o true g x
        let raw := scoreSum (fun n => pick (n + (j + 1) * 2 ^ 32)) (kvPageGroup p.fmt) (qv.map fun v => (v, 0)) ks
        let bias : Read := if hasBias then e.rd 3 [j, i, h, b] else some (Val.zero, 0)
        bias.map fun bv =>
          let r := finishScore scale (e.f32 8) (if hasBias then some bv.1 else none) raw.1
          (r.1, bv.2 ||| raw.2 ||| r.2)
    let value (j : Nat) : Read := (pageOf j).bind fun x =>
      if s.kvLost x.1 x.2 false g then none
      else
        let r := s.kvRead x.1 x.2 false g el
        let p := fmul r.1 r.2.1
        some (p.1, r.2.2 ||| p.2)
    match allReads (keys.map score), allReads (keys.map value) with
    | some (ss, sf), some (vs, vf) => let r := attendRow pick ss vs; some (r.1, qf ||| sf ||| vf ||| r.2)
    | _, _ => none
  | _, _ => none

/-- Which table a step of a model reads and writes for a request: the draft table in a draft step, else the request's own. -/
def stepTable (draft : Bool) (q : Request) : Nat := if draft then q.draftTable.getD q.table else q.table

/-- The walk of a token's step reads the overlay (R341): a verification step opened one on the request's table, a draft step of a speculative step one on the draft table. -/
def readsOverlay (draft spec : Bool) (m : StepMember) : Bool := if draft then spec else !m.drafts.isEmpty

/-- The WRITE of one member's keys and values in the current layer (Table 8-5): one edit for its tokens of the step. -/
def StepRun.writeMember (a : StepRun) (e : OpEnv) (m : Model) (toks : List StepToken) (draft : Bool) (req : Nat) : StepRun :=
  let mine := toks.zipIdx.filter fun y => y.1.member.req == req
  let rows := mine.map fun y => kvRowOf e m.hkv m.d m.dv y.2
  match a.s.request req, mine with
  | some q, y :: _ =>
    if rows.any Option.isNone then { a with poison := true }
    else
      let k := a.s.kvWriteEdit (stepTable draft q) a.layer y.1.pos (rows.filterMap id)
      if k.2 = stOk then { a with s := k.1 } else { a with failed := a.failed ++ [(req, k.2)] }
  | _, _ => a

/-- One operator of the program runs over the step (R350, R351). [DEDUCED, unsafe, log entry 48] -/
def stepOperator (ctx seq : Nat) (m : Model) (p : Program) (toks : List StepToken) (draft spec : Bool) (r : StepRun) (x : BitVec 512 × Nat) : StepRun :=
  let rec' := x.1
  let n := toks.length
  let e : OpEnv :=
    { s := r.s, a := ⟨16 + ctx, some seq⟩, rnd := opRnd rec', sat := opSat rec'
      attrs := (p.attrs.drop (opAttrOffset rec')).take (opAttrBytes rec'), exprs := p.exprs
      ins := (opIns rec').map (stepView p m n), outs := (opOuts rec').map (stepView p m n), padT := none }
  let done (o : OpResult) (r : StepRun) : StepRun :=
    { r with s := o.state.draw.operatorWork (r.s.stepRegions ctx) (some ctx) (opCode rec') e, flags := r.flags ||| o.flags, poison := r.poison || o.poison, fail := r.fail.orElse fun _ => o.fail }
  if opCode rec' = 0x0020 then
    let w := (toks.map fun y => y.member.req).eraseDups.foldl (fun a req => StepRun.writeMember a e m toks draft req) r
    let f : ElemFn := fun idx =>
      match toks[(idx[3]?).getD 0]? with
      | none => some (Val.zero, 0)
      | some tk =>
        if w.failed.any fun y => y.1 == tk.member.req then some (Val.zero, 0)
        else
          match w.s.request tk.member.req with
          | none => some (Val.zero, 0)
          | some q => pagedAttend e w.s (stepTable draft q) r.layer m.hkv m.d (readsOverlay draft spec tk.member) tk idx
    let e' := { e with s := w.s }
    { done (e'.write 0 f e'.start) w with layer := r.layer + 1 }
  else if opCode rec' = 0x0001 then
    let extra (idx : List Nat) : List Acc :=
      if draft then []
      else
        match toks[(idx.getLast?).getD 0]? with
        | none => []
        | some tk =>
          match (r.s.request tk.member.req).bind r.s.adapterOf with
          | none => []
          | some a => (a.targets.filter fun t => t.op == x.2).map (adapterTerm e idx)
    done (matmulWith e extra) r
  else done (opByCode (opCode rec') e) r

/-- Run a model's program over a step's tokens: the state with keys, values and the program's own outputs written, without the scratch; flags, poison and failures; and the logits of each row in FP32 codes. [DEDUCED, unsafe, log entry 48] -/
def State.runModel (s : State) (ctx seq : Nat) (m : Model) (p : Program) (ms : List StepMember) (draft spec : Bool) :
    StepRun × List (Option (List (BitVec 32))) :=
  let toks := stepTokens ms
  let n := toks.length
  let a : Access := ⟨16 + ctx, some seq⟩
  let row (idx : List Nat) : Option StepToken := toks[(idx.getLast?).getD 0]?
  let start : OpResult := ⟨s, 0, false, none⟩
  let r1 := s.storeIndex a (stepView p m n m.tokensIn) (fun i => some ((row i).elim 0 fun t => t.tok.toInt)) start
  let r2 := if m.posIn = 0xFFFF then r1
    else r1.state.storeIndex a (stepView p m n m.posIn) (fun i => some ((row i).elim 0 fun t => (t.pos : Int))) r1
  let run := p.operators.zipIdx.foldl (stepOperator ctx seq m p toks draft spec) ⟨r2.state, 0, false, none, [], 0⟩
  let lv := stepView p m n m.logitsOut
  let logits := (List.range n).map fun k =>
    (allReads ((List.range m.vocab).map fun t => run.s.readF32 a lv [t, k])).map fun r => r.1.map encode32
  let clean := { run.s with hbm := run.s.hbm.filter fun c => decide (c.1 < 2 ^ 40) }
  ({ run with s := clean }, logits)

end Sys2Proof.Machine
end

