-- ==== Sys2Proof/Machine/Serving.lean ====
section
/-! DEFINITION. The serving engine: models, customers, requests, budgets, steps and streams (09_serving_engine.md R349 to R373). -/

namespace Sys2Proof.Machine

def State.model (s : State) (c slot : Nat) : Option Model := s.serving.models.look (c * 4 + slot)
def State.customer (s : State) (c n : Nat) : Option Customer := s.serving.customers.look (c * 1024 + n)
def State.setCustomer (s : State) (c n : Nat) (x : Customer) : State :=
  { s with serving := { s.serving with customers := s.serving.customers.put (c * 1024 + n) x } }
def State.stream (s : State) (c n : Nat) : Option Stream := s.serving.streams.look (c * 256 + n)
def State.setStream (s : State) (c n : Nat) (x : Stream) : State :=
  { s with serving := { s.serving with streams := s.serving.streams.put (c * 256 + n) x } }

/-- Fields of the request descriptor (Table 9-3). -/
def reqSeed (d : BitVec 1024) : Nat := dField d 960 64
def reqFreqPen (d : BitVec 1024) : Val := decode32 (d.extractLsb' 928 32)
def reqPresPen (d : BitVec 1024) : Val := decode32 (d.extractLsb' 896 32)
def reqRepPen (d : BitVec 1024) : Val := decode32 (d.extractLsb' 864 32)
def reqTopP (d : BitVec 1024) : Val := decode32 (d.extractLsb' 832 32)
def reqTemperature (d : BitVec 1024) : Val := decode32 (d.extractLsb' 800 32)
def reqStop (d : BitVec 1024) (i : Nat) : Nat := dField d (768 - 32 * i) 32
def reqDeadline (d : BitVec 1024) : Nat := dField d 608 64
def reqPromptCva (d : BitVec 1024) : Nat := dField d 544 64
def reqPromptBytes (d : BitVec 1024) : Nat := dField d 512 32
def reqPromptTokens (d : BitVec 1024) : Nat := dField d 480 32
def reqMaxNew (d : BitVec 1024) : Nat := dField d 448 32
def reqTag (d : BitVec 1024) : Nat := dField d 416 32
def reqCustomer (d : BitVec 1024) : Nat := dField d 406 10
def reqPriority (d : BitVec 1024) : Nat := dField d 403 3
def reqModel (d : BitVec 1024) : Nat := dField d 401 2
def reqAdapter (d : BitVec 1024) : Nat := dField d 393 8
def reqAdapterValid (d : BitVec 1024) : Bool := d.getLsbD 392
def reqStream (d : BitVec 1024) : Nat := dField d 384 8
def reqTopK (d : BitVec 1024) : Nat := dField d 375 9
def reqDraftLen (d : BitVec 1024) : Nat := dField d 371 4
def reqSpecSource (d : BitVec 1024) : Nat := dField d 369 2
def reqStopCount (d : BitVec 1024) : Nat := dField d 366 3
def reqPenalizePrompt (d : BitVec 1024) : Bool := d.getLsbD 365
def reqNoWait (d : BitVec 1024) : Bool := d.getLsbD 364
def reqNoPrefix (d : BitVec 1024) : Bool := d.getLsbD 363

/-- Live requests of a context: index and entry. -/
def State.requestsOf (s : State) (c : Nat) : List (Nat × Request) := s.serving.requests.filter fun e => e.2.ctx == c

/-- The live request of a context that holds a tag. -/
def State.requestByTag (s : State) (c tag : Nat) : Option (Nat × Request) := (s.requestsOf c).find? fun e => reqTag e.2.desc == tag

/-- Requests are ended or changed in place at a key. -/
def State.completeRefs (s : State) (l : List EntryRef) (st : Status) : State :=
  l.foldl (fun s e => s.completeEntry e.fn e.q e.id st 0) s

/-- Refill of a token bucket (R362). -/
def Customer.refilled (c : Customer) (now : Nat) : Customer :=
  let gain := c.refill * 1024 * (now - c.last) + c.carry
  { c with carry := gain % 10 ^ 9, level := min (c.burst * 1024 : Int) (c.level + (gain / 10 ^ 9 : Nat)), last := now }

/-- A charge of positions (R362). -/
def Customer.charged (c : Customer) (positions now : Nat) : Customer :=
  let r := c.refilled now
  { r with level := r.level - (positions * 1024 : Nat) }

/-- CUSTOMER_SET (R364). A BURST of 0 is outside Table 9-2. -/
def State.customerSet (s : State) (c n refill burst : Nat) : State :=
  let now := s.tideNat
  match s.customer c n with
  | none => s.setCustomer c n ⟨refill, burst, (burst * 1024 : Nat), 0, now⟩
  | some x =>
    let r := x.refilled now
    s.setCustomer c n { r with refill := refill, burst := burst, level := min r.level (burst * 1024 : Nat) }

/-- The sequence of a request: its prompt followed by its delivered tokens (R384, R389). -/
def Request.sequence (r : Request) : List (BitVec 32) := r.prompt ++ r.out

/-- LENGTH of a request: the committed positions of its table. -/
def State.reqLength (s : State) (r : Request) : Nat := ((s.kvTable r.table).map (·.length)).getD 0

/-- Unconsumed records of a stream (R372). -/
def Stream.used (x : Stream) : Nat := (x.tail + 2 ^ x.order - x.head) % 2 ^ x.order

/-- The largest output of a request's next step (R372). -/
def Request.maxOut (r : Request) : Nat := if r.state = .decode then reqDraftLen r.desc + 1 else 1

/-- Records that a request may still write from what is under way. -/
def State.reserved (s : State) (i : Nat) (r : Request) : Nat :=
  if r.inFlight || (s.serving.rows.any fun x => x.isOf i) then r.maxOut + 1
  else if !r.drawn.isEmpty then r.drawn.length + 1
  else if r.endDue then 1 else 0

/-- Stream space left for new steps (R372). -/
def State.streamSpace (s : State) (c n : Nat) : Nat :=
  match s.stream c n with
  | none => 0
  | some x =>
    let held := ((s.requestsOf c).map fun e => if reqStream e.2.desc = n then s.reserved e.1 e.2 else 0).sum
    2 ^ x.order - 1 - (x.used + held)

/-- A customer's level is above zero now (R361). -/
def State.budgetOk (s : State) (r : Request) : Bool :=
  match s.customer r.ctx (reqCustomer r.desc) with
  | some c => decide (0 < (c.refilled s.tideNat).level)
  | none => false

/-- The request could be issued a step but for budget, stream space and memory (R365). -/
def State.reqReady (s : State) (i : Nat) (r : Request) : Bool :=
  (r.state = .waiting || r.state = .prefill || r.state = .decode) && !r.inFlight && !r.cancelPending && r.drawn.isEmpty &&
    !(s.serving.rows.any fun x => x.isOf i) && !s.kvPendingOn r.table && !(r.draftTable.any s.kvPendingOn)

/-- Startable (R365). -/
def State.startable (s : State) (i : Nat) (r : Request) : Bool :=
  s.reqReady i r && s.budgetOk r && decide (r.maxOut + 1 ≤ s.streamSpace r.ctx (reqStream r.desc))

/-- WAIT_REASON of a request now (Table 9-4, R361, R372). -/
def State.waitOf (s : State) (i : Nat) (r : Request) : Status :=
  if !s.reqReady i r then 0
  else if !s.budgetOk r then stBudgetWait
  else if s.streamSpace r.ctx (reqStream r.desc) < r.maxOut + 1 then stStreamFull
  else if r.noMemSince.isSome then stNoMemory
  else 0

/-- The Tide at which a bucket's level is above zero again (R362), if its refill ever brings it there. -/
def Customer.positiveAt (x : Customer) : Option Nat :=
  if 0 < x.level then some x.last
  else if x.refill = 0 then none
  else some (x.last + ceilDiv (((1 - x.level).toNat) * 10 ^ 9 - x.carry) (x.refill * 1024))

/-- Tide nanoseconds that a request has waited for its customer's budget and that are not counted yet (0x6400.09). -/
def State.budgetWaited (s : State) (r : Request) : Nat :=
  match r.budgetSince with
  | none => 0
  | some t => min s.tideNat (((s.customer r.ctx (reqCustomer r.desc)).bind Customer.positiveAt).getD s.tideNat) - t

/-- The wait reasons of a context's requests are brought up to date, and their budget waits are counted (0x6400.09). [DEDUCED, unsafe, log entry 48] -/
def State.refreshWaits (s : State) (c : Nat) : State :=
  (s.requestsOf c).foldl (fun s e =>
    let w := s.waitOf e.1 e.2
    (s.bumpBy 0x640009 (s.budgetWaited e.2)).setRequest e.1
      { e.2 with waitReason := w, budgetSince := if w = stBudgetWait then some s.tideNat else none }) s

/-- Some request of the context is startable. -/
def State.anyStartable (s : State) (c : Nat) : Bool := (s.requestsOf c).any fun e => s.startable e.1 e.2

/-- Remember when a request of the context was last startable (R353). -/
def State.noteIdle (s : State) (c : Nat) : State :=
  if s.anyStartable c then { s with serving := { s.serving with idleSince := s.serving.idleSince.put c s.now } } else s

/-- The scheduler's key (R365): lexicographic. -/
def State.reqKey (s : State) (r : Request) : List Nat :=
  let p := reqPriority r.desc
  let d := reqDeadline r.desc
  let last := s.serving.lastCustomer.valAt 1023 (r.ctx * 8 + p)
  [7 - p, if d = 0 then 2 ^ 64 else d, (reqCustomer r.desc + 2048 - last - 1) % 1024, r.admitTide]

/-- Lexicographic order. -/
def lexLt : List Nat → List Nat → Bool
  | a :: as, b :: bs => decide (a < b) || (a == b && lexLt as bs)
  | [], _ :: _ => true
  | _, [] => false

/-- Insert in key order. -/
def insertBy {α : Type} (lt : α → α → Bool) (x : α) : List α → List α
  | [] => [x]
  | y :: ys => if lt x y then x :: y :: ys else y :: insertBy lt x ys

/-- Sort by an order, stable. -/
def sortBy {α : Type} (lt : α → α → Bool) (l : List α) : List α := l.foldl (fun acc x => insertBy lt x acc) []

/-- Startable requests in key order. [DEDUCED, unsafe, log entry 48] -/
def State.keyOrder (s : State) (c : Nat) : List (Nat × Request) :=
  sortBy (fun a b => lexLt (s.reqKey a.2) (s.reqKey b.2)) ((s.requestsOf c).filter fun e => s.startable e.1 e.2)

/-- A request ends (Table 9-6): at once, or after its step when one is in flight. -/
def Request.ended (r : Request) (st : Status) (reason : Nat) (withRecord : Bool) : Request :=
  if r.inFlight then { r with state := .draining, cancelPending := true, status := st, endReason := reason, endDue := withRecord }
  else { r with state := .ending, status := st, endReason := reason, endDue := withRecord, drawn := [], waitReason := 0, budgetSince := none }

/-- The mirror record of an end: REQ_TAG, STATUS, END_REASON (R615); a request that only drains has not ended. -/
def State.mirrorEnd (s : State) (r : Request) : State :=
  if r.state = .ending then s.mirror r.ctx 3 (beData [(4, reqTag r.desc), (2, r.status.toNat), (1, r.endReason)]) else s

/-- The mirror record of an admission (R615): descriptor, ADMIT_TIDE, ADAPTER_GEN, prompt. -/
def State.mirrorAdmit (s : State) (r : Request) : State :=
  s.mirror r.ctx 1 (leBytes 128 r.desc.toNat ++ beData [(8, r.admitTide), (4, r.adapterGen)] ++ r.prompt.flatMap fun t => beBytes 4 t.toNat)

/-- The mirror record of drawn tokens (R615): REQ_TAG, INDEX of the first, resulting DELIVERED, tokens; their stream records wait for its acknowledgement (R616). -/
def State.mirrorTokens (s : State) (i : Nat) : State :=
  match s.request i with
  | none => s
  | some r =>
    if s.mirrors r.ctx && !r.drawn.isEmpty then
      let s1 := s.mirror r.ctx 2 (beData [(4, reqTag r.desc), (4, r.delivered), (4, r.delivered + r.drawn.length)] ++ r.drawn.flatMap fun t => beBytes 4 t.toNat)
      { s1 with pair := { s1.pair with need := s1.pair.need.setAt 0 i s1.pair.mirrorSent } }
    else { s with pair := { s.pair with need := s.pair.need.del i } }

/-- The digest of an adapter: its targets and matrices (R615, R618). -/
def AdapterGen.digest (a : AdapterGen) : List Byte :=
  sha512 (a.targets.flatMap fun t => leBytes 4 t.op ++ leBytes 4 t.rank ++ leBytes 4 t.alpha.toNat ++ (t.la ++ t.lb).flatMap fun w => leBytes 2 w.toNat)

/-- The mirror record of an adapter at its load or retire (R615): handle, generation, whether current, digest. -/
def State.mirrorAdapter (s : State) (a : AdapterGen) (current : Bool) : State :=
  s.mirror a.ctx 4 (beData [(2, a.handle), (4, a.gen), (1, if current then 1 else 0)] ++ a.digest)

/-- The mirror record of the prefix roots of a context (R615): generation, model slot, adapter handle and generation of each. -/
def State.mirrorRoots (s : State) (c : Nat) : State :=
  let roots := s.serving.nodes.vals.filter fun n => n.parent.isNone && n.ctx == c
  s.mirror c 5 (roots.flatMap fun n => beData [(2, n.gen.toNat), (1, n.model), (2, n.adapter), (4, n.adapterGen)])

/-- End a request; one that is cancelled counts when it reaches ENDING (0x6400.02). -/
def State.endRequest (s : State) (i : Nat) (st : Status) (reason : Nat) (withRecord : Bool) : State :=
  match s.request i with
  | none => s
  | some r =>
    let s1 := (s.bumpBy 0x640009 (s.budgetWaited r)).setRequest i { r.ended st reason withRecord with budgetSince := none }
    let s2 := { s1 with serving := { s1.serving with rows := s1.serving.rows.filter fun x => !x.isOf i } }
    let s3 := s2.mirrorEnd (r.ended st reason withRecord)
    if reason = 4 ∧ r.inFlight = false then s3.bump 0x640002 else s3

/-- KEY_HASH of a node (Table 9-8): CRC-32C over PARENT and TOKENS. -/
def prefixHash (parent : Nat) (toks : List (BitVec 32)) : Nat :=
  crc32c (leBytes 4 parent ++ toks.flatMap fun t => leBytes 4 t.toNat)

/-- KEY_HASH of a root (Table 9-8): CRC-32C over OWNER_CTX, OWNER_GEN, MODEL, ADAPTER and ADAPTER_GEN, each in the whole bytes it needs. [DESIGN CHOICE, unsafe, log entry 85] -/
def rootHash (c : Nat) (gen : BitVec 16) (model adapter agen : Nat) : Nat :=
  crc32c (leBytes 1 c ++ leBytes 2 gen.toNat ++ leBytes 1 model ++ leBytes 1 adapter ++ leBytes 2 agen)

/-- The bucket of a node (R380). -/
def prefixBucket (hash : Nat) : Nat := hash % 2 ^ 21

def State.setNode (s : State) (i : Nat) (n : PrefixNode) : State := { s with serving := { s.serving with nodes := s.serving.nodes.put i n } }
def State.modNode (s : State) (i : Nat) (f : PrefixNode → PrefixNode) : State :=
  { s with serving := { s.serving with nodes := s.serving.nodes.modAt i f } }

/-- Bucket search (R381): the first node from `i` on along NEXT that is wanted. -/
def State.bucketSearch (s : State) (want : PrefixNode → Bool) : Nat → Option Nat → Option Nat
  | _, none => none
  | 0, _ => none
  | fuel + 1, some i =>
    match s.serving.nodes.look i with
    | none => none
    | some n => if want n then some i else State.bucketSearch s want fuel n.next

/-- Bucket search from the head of a hash's bucket. -/
def State.nodeByHash (s : State) (hash : Nat) (want : PrefixNode → Bool) : Option Nat :=
  s.bucketSearch want s.serving.nodes.length (s.serving.buckets.look (prefixBucket hash))

/-- The prefix index: the root of a request's combination (R380). -/
def State.prefixRoot (s : State) (c : Nat) (gen : BitVec 16) (model adapter agen : Nat) : Option Nat :=
  s.nodeByHash (rootHash c gen model adapter agen) fun n =>
    n.parent.isNone && n.ctx == c && n.gen == gen && n.model == model && n.adapter == adapter && n.adapterGen == agen

/-- The child of a node with these tokens: a bucket search (R381), tokens compared exactly. -/
def State.prefixChild (s : State) (node : Nat) (toks : List (BitVec 32)) : Option Nat :=
  s.nodeByHash (prefixHash node toks) fun n => n.parent == some node && n.tokens == toks

/-- Lookup (R381): the nodes matched from a node on, at most `fuel`, while at least one position stays. -/
def State.prefixWalk (s : State) (p : List (BitVec 32)) : Nat → Nat → Nat → List Nat
  | 0, _, _ => []
  | fuel + 1, node, d =>
    if 16 * (d + 1) + 1 ≤ p.length then
      match s.prefixChild node ((p.drop (16 * d)).take 16) with
      | none => []
      | some ch => ch :: State.prefixWalk s p fuel ch (d + 1)
    else []

/-- A node enters at the head of its bucket. -/
def State.linkNode (s : State) (i : Nat) (n : PrefixNode) : State :=
  let b := prefixBucket n.hash
  let s1 := s.setNode i { n with next := s.serving.buckets.look b }
  { s1 with serving := { s1.serving with buckets := s1.serving.buckets.put b i } }

/-- A node leaves its bucket and the index. -/
def State.unlinkNode (s : State) (i : Nat) (n : PrefixNode) : State :=
  let b := prefixBucket n.hash
  let head := s.serving.buckets.look b
  let buckets := if head = some i then (match n.next with | some x => s.serving.buckets.put b x | none => s.serving.buckets.del b) else s.serving.buckets
  { s with serving := { s.serving with
    buckets := buckets
    nodes := (s.serving.nodes.del i).mapVals fun _ x => if x.next = some i then { x with next := n.next } else x } }

/-- A node goes: it leaves its bucket, its parent loses a child, and its table goes with the last node that names it (R383). -/
def State.dropNode (s : State) (i : Nat) : State :=
  match s.serving.nodes.look i with
  | none => s
  | some n =>
    let s1 := s.unlinkNode i n
    let s2 := match n.parent with
      | some p => s1.modNode p fun x => { x with children := x.children - 1 }
      | none => s1
    match n.table with
    | some t => if s2.serving.nodes.vals.any fun x => x.table == some t then s2 else (s2.kvDestroy t).1
    | none => s2

/-- Evict a node (R383); the partner hears of a root that goes (R615). -/
def State.evictNode (s : State) (i : Nat) : State :=
  match s.serving.nodes.look i with
  | none => s
  | some n => if n.parent.isNone then (s.dropNode i).mirrorRoots n.ctx else s.dropNode i

/-- The leaf that eviction takes: no children, no pins, oldest LAST_USE, of this context (R383). [DESIGN CHOICE, unsafe, log entry 85] -/
def State.prefixLeaf (s : State) (c : Nat) : Option Nat :=
  let leaves := s.serving.nodes.filter fun e => e.2.ctx == c && e.2.children == 0 && e.2.pins == 0
  (leaves.foldl (fun (best : Option (Nat × PrefixNode)) e => match best with
    | none => some e
    | some b => if e.2.lastUse < b.2.lastUse then some e else some b) none).map (·.1)

/-- Do an allocation, evicting up to `fuel` leaves while it fails for memory or quota (R383). What was evicted stays so when the allocation fails in the end. -/
def State.withEviction {α : Type} (c : Nat) (f : State → State × Status × α) : Nat → State → State × Status × α
  | 0, s => f s
  | fuel + 1, s =>
    let a := f s
    if a.2.1 = stNoMemory ∨ a.2.1 = stQuotaExceeded then
      match s.prefixLeaf c with
      | none => (s, a.2)
      | some l => State.withEviction c f fuel (s.evictNode l)
    else a

/-- Do a serving allocation of a context, evicting its leaves while it fails for memory or quota (R383). -/
def State.evicting {α : Type} (s : State) (c : Nat) (f : State → State × Status × α) : State × Status × α :=
  State.withEviction c f s.serving.nodes.length s

/-- A KV edit among them. -/
def State.evictingEdit (s : State) (c : Nat) (f : State → State × Status) : State × Status :=
  let a := s.evicting c fun s => let x := f s; (x.1, x.2, ())
  (a.1, a.2.1)

/-- A node slot, evicting a leaf of the context when none is free (R380, R383). -/
def State.prefixSlot (s : State) (c : Nat) : Option (State × Nat) :=
  match s.serving.nodes.freeFrom 2097151 0 with
  | some i => some (s, i)
  | none =>
    match s.prefixLeaf c with
    | none => none
    | some l => some (s.evictNode l, l)

/-- A fork in progress holds a node, or releases it (PINS, Table 9-8). -/
def State.pinNode (s : State) (i : Nat) : State := s.modNode i fun x => { x with pins := x.pins + 1 }
def State.unpinNode (s : State) (i : Nat) : State := s.modNode i fun x => { x with pins := x.pins - 1 }

/-- Add one node per complete 16-token chunk of the prompt beyond the deepest node, all naming a table (R382 step 2). The deepest node is held meanwhile. -/
def State.addNodes (s : State) (r : Request) (table : Nat) : Nat → Nat → Nat → State
  | 0, _, _ => s
  | n + 1, parent, d =>
    match (s.pinNode parent).prefixSlot r.ctx with
    | none => s
    | some (s1, i) =>
      let toks := (r.prompt.drop (16 * d)).take 16
      let node : PrefixNode :=
        { tokens := toks, lastUse := s1.tideNat, table := some table, parent := some parent, depth := d + 1
          children := 0, pins := 0, adapter := 0, adapterGen := 0, gen := r.gen, ctx := r.ctx, model := reqModel r.desc
          hash := prefixHash parent toks, next := none }
      let s2 := ((s1.unpinNode parent).linkNode i node).modNode parent fun x => { x with children := x.children + 1 }
      State.addNodes s2 r table n i (d + 1)

/-- The adapter handle of a request in the prefix index: 0 without one. -/
def Request.rootAdapter (r : Request) : Nat := if reqAdapterValid r.desc then reqAdapter r.desc else 0

/-- The root of a combination of context, generation, model slot, adapter handle and adapter generation, made when there is none (R380); and whether it was made. -/
def State.ensureRoot (s : State) (c : Nat) (gen : BitVec 16) (model adapter agen : Nat) : Option (State × Nat × Bool) :=
  match s.prefixRoot c gen model adapter agen with
  | some n => some (s, n, false)
  | none => (s.prefixSlot c).map fun x =>
      let root : PrefixNode :=
        { tokens := [], lastUse := x.1.tideNat, table := none, parent := none, depth := 0, children := 0, pins := 0
          adapter := adapter, adapterGen := agen, gen := gen, ctx := c, model := model
          hash := rootHash c gen model adapter agen, next := none }
      (x.1.linkNode x.2 root, x.2, true)

/-- Insertion after a prefill row for one request (R382): the table is forked at the last multiple of 16 of its LENGTH, and the prompt's chunks beyond the deepest node get nodes. -/
def State.prefixInsert (s : State) (i : Nat) : State :=
  match s.request i with
  | none => s
  | some r =>
    let len := s.reqLength r
    let chunks := min len r.prompt.length / 16
    if reqNoPrefix r.desc || s.dictVal 0x310004 == 0 || chunks == 0 then s
    else
      match s.ensureRoot r.ctx r.gen (reqModel r.desc) r.rootAdapter r.adapterGen with
      | none => s
      | some (s0, root, made) =>
        let s1 := if made then s0.mirrorRoots r.ctx else s0
        let path := s1.prefixWalk (r.prompt ++ [0]) chunks root 0
        let deepest := (path.getLast?).getD root
        if chunks ≤ path.length then s
        else
          let k := (s1.pinNode deepest).evicting r.ctx fun s => s.kvFork r.table 1 (16 * (len / 16))
          let s2 := k.1.unpinNode deepest
          if k.2.1 = stOk then s2.addNodes r k.2.2 (chunks - path.length) deepest path.length else s2

/-- Lookup and reuse at admission (R381). -/
def State.prefixReuse (s : State) (r : Request) : State × Nat :=
  if reqNoPrefix r.desc || s.dictVal 0x310004 == 0 then (s, 0)
  else
    match s.prefixRoot r.ctx r.gen (reqModel r.desc) r.rootAdapter r.adapterGen with
    | none => (s, 0)
    | some root =>
      let path := s.prefixWalk r.sequence 65536 root 0
      let s1 := path.foldl (fun s n => s.modNode n fun x => { x with lastUse := s.tideNat }) s
      match (path.getLast?).bind fun n => (s1.serving.nodes.look n).bind fun x => x.table with
      | none => (s1, 0)
      | some t =>
        let f := s1.kvForkInto t r.table (16 * path.length)
        if f.2 = stOk then (f.1.bumpBy 0x640005 (16 * path.length), 16 * path.length) else (s1, 0)

/-- The drafts that the prefix index gives (R384): tokens along a unique chain of children. -/
def State.chainTokens (s : State) : Nat → Nat → List (BitVec 32)
  | 0, _ => []
  | fuel + 1, node =>
    match s.serving.nodes.filter fun e => e.2.parent == some node with
    | [e] => e.2.tokens ++ State.chainTokens s fuel e.1
    | _ => []

/-- Drafts from the prefix index for a request (R384). -/
def State.prefixDrafts (s : State) (r : Request) : List (BitVec 32) :=
  let q := r.sequence
  let full := q.length / 16
  let rest := q.drop (16 * full)
  match s.prefixRoot r.ctx r.gen (reqModel r.desc) r.rootAdapter r.adapterGen with
  | none => []
  | some root =>
    let path := s.prefixWalk (q ++ [0]) full root 0
    if path.length ≠ full then []
    else
      let last := (path.getLast?).getD root
      match (s.serving.nodes.filter fun e => e.2.parent == some last && e.2.tokens.take rest.length == rest).head? with
      | none => []
      | some e => (e.2.tokens.drop rest.length ++ s.chainTokens 8 e.1).take (reqDraftLen r.desc)

/-- The token counts of a request's sampler slots (R374). -/
def countTokens (m : Store Nat) (l : List (BitVec 32)) : Store Nat :=
  l.foldl (fun m t => m.updAt 0 (tokenSlot t.toNat) fun n => min 65535 (n + 1)) m

/-- The adapter generation that is current for a handle (R391). -/
def State.currentAdapter (s : State) (c h : Nat) : Option (Nat × AdapterGen) :=
  (s.serving.adapters.filter fun e => e.2.ctx == c && e.2.handle == h && e.2.current).head?

/-- A FP32 field lies in a closed range. -/
def inRange (v lo hi : Val) : Bool := lo.le v && v.le hi

/-- Step 2 of R357 that needs no model. -/
def descFieldsOk (d : BitVec 1024) : Bool :=
  let n (k : Nat) : Val := Val.ofNat k
  inRange (reqFreqPen d) (n 16).neg (n 16) && inRange (reqPresPen d) (n 16).neg (n 16) && inRange (reqRepPen d) (n 1) (n 16) &&
    Val.zero.lt (reqTopP d) && (reqTopP d).le (n 1) &&
    (d.extractLsb' 800 32 == 0 || inRange (reqTemperature d) (.fin false 1 (-10)) (n 16)) &&
    reqPromptCva d % 4 == 0 && decide (1 ≤ reqPromptTokens d) && decide (1 ≤ reqMaxNew d) && decide (reqMaxNew d ≤ 1048576) &&
    decide (reqTopK d ≤ 256) && decide (reqDraftLen d ≤ 8) && decide (reqSpecSource d ≤ 2) && decide (reqStopCount d ≤ 4) &&
    ((reqSpecSource d == 0) == (reqDraftLen d == 0))

/-- Checks 1 to 13 of R357: the first refusal, or the prompt. [DEDUCED, unsafe, log entry 49] -/
def State.submitCheck (s : State) (c cva : Nat) : Except Status (BitVec 1024 × Model × List (BitVec 32)) :=
  match s.readCvaN c none cva 128 with
  | none => .error (s.readFault c cva 128)
  | some bs =>
    let d : BitVec 1024 := BitVec.ofNat 1024 (leNat bs)
    let model := (s.model c (reqModel d)).bind fun m => if m.leaving.isSome then none else some m
    let tokensBad := match model with | some m => decide (m.maxContext - 1 < reqPromptTokens d) | none => false
    if dField d 0 363 ≠ 0 || !descFieldsOk d || tokensBad then .error stBadRequest
    else
      match model with
      | none => .error stNoModel
      | some m =>
        let n := reqPromptTokens d
        let adapterOk := !reqAdapterValid d || (match s.currentAdapter c (reqAdapter d) with
          | some a => a.2.model == reqModel d
          | none => false)
        let streamOk := match s.stream c (reqStream d) with | some x => x.closing.isNone | none => false
        if reqSpecSource d = 1 ∧ m.draft.isNone then .error stSpecUnavailable
        else if (s.customer c (reqCustomer d)).isNone then .error stNoCustomer
        else if !streamOk then .error stNoStream
        else if !adapterOk then .error stNoAdapter
        else if reqPromptBytes d < 4 * n ∨ 2 ^ 38 < reqPromptCva d + reqPromptBytes d then .error stLengthBounds
        else
          match s.readCvaN c none (reqPromptCva d) (4 * n) with
          | none => .error (s.readFault c (reqPromptCva d) (4 * n))
          | some pb =>
            let prompt : List (BitVec 32) := (chunks 4 n pb).map fun b => BitVec.ofNat 32 (leNat b)
            if prompt.any fun t => decide (m.vocab ≤ t.toNat) then .error stBadToken
            else if (s.requestByTag c (reqTag d)).isSome then .error stTagInUse
            else if s.dictVal (0x311001 + c) ≤ (s.requestsOf c).length ∨ 8192 ≤ s.serving.requests.length then .error stTableFull
            else if reqNoWait d && !(match s.customer c (reqCustomer d) with
                | some x => decide (0 < (x.refilled s.tideNat).level)
                | none => false) then .error stBudgetWait
            else .ok (d, m, prompt)

/-- Step 14 of R357: the prompt copy and the KV table. -/
def State.submitAlloc (s : State) (c : Nat) (m : Model) (prompt : List (BitVec 32)) : State × Status × (List Nat × Nat) :=
  let n := ceilDiv (4 * prompt.length) granule
  if !s.quotaOk c n 0 then (s, stQuotaExceeded, ([], 0))
  else
    match s.takeCopyFrames c n [] with
    | none => (s, stNoMemory, ([], 0))
    | some (s1, fs) =>
      let k := s1.kvCreate c 0 m.layers m.hkv m.d m.dv
      if k.2.1 ≠ stOk then (s, k.2.1, ([], 0))
      else ({ k.1 with hbm := storeFrames k.1.hbm fs (prompt.flatMap fun t => leBytes 4 t.toNat) }, stOk, (fs, k.2.2))

/-- SUBMIT (R357, R358, R381): the status, and the state with the admitted request. -/
def State.submitRequest (s : State) (c cva : Nat) : State × Status :=
  match s.submitCheck c cva with
  | .error e => (s, e)
  | .ok (d, m, prompt) =>
    let a := s.evicting c fun s => s.submitAlloc c m prompt
    match s.serving.requests.freeFrom 8192 0 with
    | none => (s, stTableFull)
    | some i =>
      if a.2.1 ≠ stOk then (a.1, a.2.1)
      else
        let agen := if reqAdapterValid d then ((s.currentAdapter c (reqAdapter d)).map fun x => x.2.gen).getD 0 else 0
        let r : Request :=
          { ctx := c, gen := (s.ctx c).gen, desc := d, state := .waiting, admitTide := s.tideNat, delivered := 0, prefixHit := 0
            specProposed := 0, specAccepted := 0, energy := 0, table := a.2.2.2, draftTable := none, adapterGen := agen, status := 0
            waitReason := 0, restarts := 0, mixedKv := false, deadlineMissed := false, cancelPending := false, forced := false
            resumed := false, inFlight := false, endReason := 0, prompt := prompt, frames := a.2.2.1, out := []
            counts := if reqPenalizePrompt d then countTokens [] prompt else [], drawn := [], endDue := false, noMemSince := none
            budgetSince := none, cancels := [] }
        let p := a.1.prefixReuse r
        ((((p.1.setRequest i { r with prefixHit := p.2 }).mirrorAdmit r).bump 0x640001).refreshWaits c, stOk)

/-- A request table entry as REQ_READ writes it (Table 9-4): ENERGY as the last step left it (R578); TABLE reads 0 once its table is destroyed. [DESIGN CHOICE, unsafe, log entry 85] -/
def State.requestWord (s : State) (r : Request) : Nat :=
  let d := r.desc
  let b (x : Bool) (i : Nat) : Nat := if x then 2 ^ i else 0
  let st := match r.state with | .waiting => 1 | .prefill => 2 | .decode => 3 | .draining => 4 | .ending => 5
  dField d 800 224 * 2 ^ 800 + (encode32 (round32 ((Val.ofNat r.energy).divApprox (Val.ofNat 1000000)))).toNat * 2 ^ 768 +
    reqDeadline d * 2 ^ 704 + r.admitTide * 2 ^ 640 + reqTag d * 2 ^ 608 + r.delivered * 2 ^ 576 + reqMaxNew d * 2 ^ 544 +
    r.prefixHit * 2 ^ 512 + r.specProposed * 2 ^ 480 + r.specAccepted * 2 ^ 448 + s.reqLength r * 2 ^ 427 +
    reqPromptTokens d * 2 ^ 406 + r.table % 65536 * 2 ^ 390 + r.draftTable.getD 0xFFFF * 2 ^ 374 + r.adapterGen * 2 ^ 358 +
    reqAdapter d * 2 ^ 350 + reqCustomer d * 2 ^ 340 + r.gen.toNat * 2 ^ 324 + r.ctx % 16 * 2 ^ 320 + r.status.toNat * 2 ^ 304 +
    r.waitReason.toNat * 2 ^ 288 + reqTopK d * 2 ^ 279 + reqStream d * 2 ^ 271 + reqPriority d * 2 ^ 268 + reqModel d * 2 ^ 266 +
    reqDraftLen d * 2 ^ 262 + reqSpecSource d * 2 ^ 260 + reqStopCount d * 2 ^ 257 + r.restarts * 2 ^ 254 +
    b (reqAdapterValid d) 253 + b (reqPenalizePrompt d) 252 + b (reqNoPrefix d) 251 + b r.mixedKv 250 + b r.deadlineMissed 249 +
    b r.cancelPending 248 + b r.resumed 247 + b r.inFlight 246 + r.endReason * 2 ^ 243 + st * 2 ^ 239 + dField d 672 128

/-- The step list and shapes of a model descriptor (R350, R352): none is BAD_MODEL. -/
def modelOf (p : Program) (d : BitVec 1024) (prog : Nat) (list : List Nat) : Option Model :=
  let t (i : Nat) : TDesc := (p.tensors[i]?).getD 0
  let tokensIn := dField d 944 16
  let posIn := dField d 928 16
  let logits := dField d 912 16
  let vocab := dField d 960 32
  let layers := dField d 800 16
  let fmt := dField d 796 4
  let attn := p.operators.filter fun r => opCode r == 0x0020
  let qkv (r : BitVec 512) : Nat × Nat × Nat × Nat := (tDim (t (opIn r 1)) 2, tDim (t (opIn r 1)) 0, tDim (t (opIn r 2)) 0, tFormatCode (t (opIn r 0)))
  match attn with
  | [] => none
  | a :: _ =>
    let g := qkv a
    let q := (Fmt.ofCode g.2.2.2).getD .fp32
    let sMax := tDim (t tokensIn) (tOuter (t tokensIn))
    let ok :=
      decide (16 ≤ dField d 992 32) && decide (dField d 992 32 ≤ 1048576) && decide (2 ≤ vocab) && decide (vocab ≤ 262144) &&
        decide (1 ≤ layers) && decide (layers ≤ 512) && decide (fmt ≤ 5) && decide (dField d 793 3 ≤ 6) &&
        decide (1 ≤ dField d 786 4) && decide (dField d 786 4 ≤ 6) && dField d 0 786 == 0 &&
        list.contains tokensIn && (posIn == 0xFFFF || list.contains posIn) && list.contains logits &&
        list.all (fun i => decide (i < p.tensors.length) && (tensorBad p.scratch (tWithOuter (t i) sMax)).isNone) &&
        tFmt (t tokensIn) = .int32 && (posIn == 0xFFFF || tFmt (t posIn) = .int32) && fmtIn (t logits) plainFloat &&
        attn.length == layers && attn.all (fun r => qkv r == g) && widens q (kvFmt fmt) && kvGeomOk layers g.1 g.2.1 g.2.2.1 &&
        tDims (t logits) == [vocab, sMax] && decide (256 ≤ sMax)
    if ok then some
      { prog := prog, maxContext := dField d 992 32, vocab := vocab, tokensIn := tokensIn, posIn := posIn, logitsOut := logits
        steps := list, layers := layers, kvFmt := fmt, kvTcode := dField d 793 3
        draft := if dField d 790 1 = 1 then some (dField d 791 2) else none, regions := dField d 786 4, hkv := g.1, d := g.2.1, dv := g.2.2.1
        qFmt := g.2.2.2, sMax := sMax, leaving := none, desc := d }
    else none

/-- MODEL_BIND (R349, R352). [DEDUCED, unsafe, log entry 49] -/
def State.modelBind (s : State) (c slot cva : Nat) : State × Status :=
  if (s.model c slot).isSome then (s, stModelBusy)
  else
    match s.readCvaN c none cva 128 with
    | none => (s, s.readFault c cva 128)
    | some bs =>
      let d : BitVec 1024 := BitVec.ofNat 1024 (leNat bs)
      let h := progKey c (dField d 896 16)
      let count := dField d 880 16
      match if dField d 896 16 < 1024 then s.progs.look h else none with
      | none => (s, stBadHandle)
      | some p =>
        if p.unloaded then (s, stBadHandle)
        else if count = 0 ∨ 256 < count then (s, stBadModel)
        else
          match s.readCvaN c none (dField d 816 64) (2 * count) with
          | none => (s, s.readFault c (dField d 816 64) (2 * count))
          | some lb =>
            match modelOf p d h ((chunks 2 count lb).map leNat) with
            | none => (s, stBadModel)
            | some m =>
              ({ s with
                serving := { s.serving with models := s.serving.models.put (c * 4 + slot) m }
                progs := s.progs.put h { p with users := p.users + 1 } }, stOk)

/-- A user of a program ends; an unloaded program goes with its last user (Table 5-18). -/
def State.dropUser (s : State) (key : Nat) : State :=
  match s.progs.look key with
  | none => s
  | some p =>
    let p1 := { p with users := p.users - 1 }
    let s1 := { s with progs := s.progs.put key p1 }
    if p1.unloaded ∧ p1.users = 0 then s1.freeProgram key else s1

end Sys2Proof.Machine
end

