-- ==== Sys2Proof/Machine/ServingRows.lean ====
section
/-! DEFINITION. The serving commands (09_serving_engine.md): ring entries 0x10 to 0x19, steps, the sampler and the streams. -/

namespace Sys2Proof.Machine

/-- MODEL_BIND (R352). -/
def execModelBind (fn : Fn) (q : Qn) (s : State) : Host.Outcome State Fault Refusal :=
  s.entryStart fn.val q.val 0x10 fun s e =>
    let r := s.modelBind fn.val (entField e.raw 224 2) (entField e.raw 448 64)
    r.1.runEntry fn.val q.val e r.2 0

/-- MODEL_UNBIND (R354): it completes at MODEL_UNBIND_DONE. -/
def execModelUnbind (fn : Fn) (q : Qn) (s : State) : Host.Outcome State Fault Refusal :=
  s.entryStart fn.val q.val 0x11 fun s e =>
    let slot := entField e.raw 224 2
    match s.model fn.val slot with
    | none => s.runEntry fn.val q.val e stNoModel 0
    | some m =>
      if m.leaving.isSome then s.runEntry fn.val q.val e stNoModel 0
      else
        let s1 := s.startEntry fn.val q.val e.id .running
        { s1 with serving := { s1.serving with
            models := s1.serving.models.put (fn.val * 4 + slot) { m with leaving := some ⟨fn.val, q.val, e.id⟩ } } }

/-- MODEL_UNBIND_DONE (R354). -/
def execModelUnbindDone (c : Ctx) (slot : Fin 4) (s : State) : Host.Outcome State Fault Refusal :=
  if !s.clocked then .next s else
  match s.model c.val slot.val with
  | none => .next s
  | some m =>
    match m.leaving with
    | none => .next s
    | some e =>
      let named := (s.requestsOf c.val).any fun r => reqModel r.2.desc == slot.val
      let flying := match s.serving.steps.look c.val with | some x => x.model == slot.val | none => false
      if named || flying then .next s
      else
        let s1 := { s with serving := { s.serving with models := s.serving.models.del (c.val * 4 + slot.val) } }
        .next ((s1.dropUser m.prog).completeEntry e.fn e.q e.id stOk 0)

/-- CUSTOMER_SET (R364). [DEDUCED, unsafe, log entry 49] -/
def execCustomerSet (fn : Fn) (q : Qn) (s : State) : Host.Outcome State Fault Refusal :=
  s.entryStart fn.val q.val 0x12 fun s e =>
    let burst := entField e.raw 448 32
    if burst = 0 then s.runEntry fn.val q.val e stBadEntry 0
    else
      ((s.noteIdle fn.val).customerSet fn.val (entField e.raw 224 10) (entField e.raw 480 32) burst).runEntry fn.val q.val e stOk 0

/-- SUBMIT (R357, R358). -/
def execSubmit (fn : Fn) (q : Qn) (s : State) : Host.Outcome State Fault Refusal :=
  s.entryStart fn.val q.val 0x13 fun s e =>
    match s.workRefusal fn.val with
    | some st => s.runEntry fn.val q.val e st 0
    | none =>
      let r := s.submitRequest fn.val (entField e.raw 448 64)
      r.1.runEntry fn.val q.val e r.2 0

/-- CANCEL (R388): it completes when the end record is written; at once where none is to be written any more (R373). -/
def execCancel (fn : Fn) (q : Qn) (s : State) : Host.Outcome State Fault Refusal :=
  s.entryStart fn.val q.val 0x14 fun s e =>
    match s.requestByTag fn.val (entField e.raw 480 32) with
    | none => s.runEntry fn.val q.val e stReqStale 0
    | some (i, r) =>
      if (r.state = .ending ∨ r.cancelPending = true) ∧ r.endDue = false then s.runEntry fn.val q.val e stOk 0
      else
        let s1 := ((s.noteIdle fn.val).startEntry fn.val q.val e.id .running).modRequest i fun r =>
          { r with cancels := r.cancels ++ [⟨fn.val, q.val, e.id⟩] }
        if r.state = .ending ∨ r.cancelPending = true then s1 else s1.endRequest i stOk 4 true

/-- The requests that pin a generation. -/
def State.pinned (s : State) (a : AdapterGen) : List Nat :=
  ((s.requestsOf a.ctx).filter fun e => reqAdapterValid e.2.desc && reqAdapter e.2.desc == a.handle && e.2.adapterGen == a.gen).map (·.1)

/-- Forced replacement (R392): every request pinned to the former generation ends as cancelled with ADAPTER_FORCED. -/
def State.forceOut (s : State) (a : AdapterGen) : State :=
  (s.pinned a).foldl (fun s i =>
    match s.request i with
    | some r => if r.state = .ending ∨ r.cancelPending = true then s else (s.modRequest i fun r => { r with forced := true }).endRequest i stAdapterForced 4 true
    | none => s) s

/-- An adapter entry completes now, or waits for the former generation when FORCE = 1 (R392). -/
def State.adapterFinish (s : State) (fn q : Nat) (e : QEntry) (force : Bool) (former : Option (Nat × AdapterGen)) : State :=
  match force, former with
  | true, some (i, a) =>
    let s1 := (s.forceOut a).startEntry fn q e.id .running
    { s1 with serving := { s1.serving with adapters := s1.serving.adapters.modAt i fun x => { x with waiters := x.waiters ++ [⟨fn, q, e.id⟩] } } }
  | _, _ => s.runEntry fn q e stOk 0

/-- One target record of an adapter (R390): the status that refuses it, or the target. -/
def State.readTarget (s : State) (c : Nat) (p : Program) (bs : List Byte) : Except Status AdapterTarget :=
  let op := fieldAt bs 0 4
  let rank := fieldAt bs 4 1
  let la := fieldAt bs 12 8
  let lb := fieldAt bs 20 8
  match p.operators[op]? with
  | none => .error stBadAdapter
  | some r =>
    let a := (p.tensors[opIn r 0]?).getD 0
    let b := (p.tensors[opIn r 1]?).getD 0
    if opCode r ≠ 0x0001 ∨ (tFmt a).isInt = true ∨ rank = 0 ∨ 64 < rank ∨ fieldAt bs 5 3 ≠ 0 ∨ fieldAt bs 28 4 ≠ 0 then .error stBadAdapter
    else
      match s.readCvaN c none la (2 * tDim a 0 * rank), s.readCvaN c none lb (2 * rank * tDim b 1) with
      | some x, some y =>
        let codes (l : List Byte) : List (BitVec 16) := (chunks 2 l.length l).map fun w => BitVec.ofNat 16 (leNat w)
        .ok ⟨op, rank, BitVec.ofNat 32 (fieldAt bs 8 4), codes x, codes y⟩
      | none, _ => .error (s.readFault c la (2 * tDim a 0 * rank))
      | _, none => .error (s.readFault c lb (2 * rank * tDim b 1))

/-- All target records. -/
def State.readTargets (s : State) (c : Nat) (p : Program) : List (List Byte) → Except Status (List AdapterTarget)
  | [] => .ok []
  | b :: bs =>
    match s.readTarget c p b, s.readTargets c p bs with
    | .error e, _ => .error e
    | _, .error e => .error e
    | .ok t, .ok ts => .ok (t :: ts)

/-- The pages of a new adapter generation, and the generation, current for its handle (R391). -/
def State.adapterAlloc (s : State) (c h model : Nat) (ts : List AdapterTarget) : State × Status × Unit :=
  let bytes := (ts.map fun t => 2 * (t.la.length + t.lb.length)).sum
  let frames := ceilDiv bytes granule
  match s.serving.adapters.freeFrom 256 0 with
  | none => (s, stAdapterLimit, ())
  | some i =>
    if !s.quotaOk c frames 0 then (s, stQuotaExceeded, ())
    else
      match s.takeCopyFrames c frames [] with
      | none => (s, stNoMemory, ())
      | some (s1, fs) =>
        let key := c * 256 + h
        let last := s1.serving.adapterLast.valAt 0 key
        let gen := if last = 65535 then 1 else last + 1
        let olds := s1.serving.adapters.mapVals fun _ a => if a.ctx = c ∧ a.handle = h then { a with current := false } else a
        let content := ts.flatMap fun t => (t.la ++ t.lb).flatMap fun w => leBytes 2 w.toNat
        ({ s1 with
          hbm := storeFrames s1.hbm fs content
          serving := { s1.serving with
            adapters := olds.put i ⟨c, h, gen, model, true, ts, fs, []⟩
            adapterLast := s1.serving.adapterLast.setAt 0 key gen } }, stOk, ())

/-- ADAPTER_LOAD (R390): the state with the new generation and OK, or the refusal. Leaves are evicted while its pages are not to be had (R383). -/
def State.adapterLoad (s : State) (c h cva : Nat) : State × Status :=
  match s.readCvaN c none cva 64 with
  | none => (s, s.readFault c cva 64)
  | some hd =>
    let v := leNat hd
    let model := v % 4
    let n := bitsOf v 25 16
    if n = 0 ∨ 512 < n ∨ bitsOf v 15 2 ≠ 0 ∨ bitsOf v 511 26 ≠ 0 then (s, stBadAdapter)
    else
      match (s.model c model).bind fun m => s.progs.look m.prog with
      | none => (s, stNoModel)
      | some p =>
        match s.readCvaN c none (cva + 64) (32 * n) with
        | none => (s, s.readFault c (cva + 64) (32 * n))
        | some tb =>
          match s.readTargets c p (chunks 32 n tb) with
          | .error e => (s, e)
          | .ok ts => s.evictingEdit c fun s => let x := s.adapterAlloc c h model ts; (x.1, x.2.1)

/-- ADAPTER_LOAD (R390 to R392). -/
def execAdapterLoad (fn : Fn) (q : Qn) (s : State) : Host.Outcome State Fault Refusal :=
  s.entryStart fn.val q.val 0x15 fun s e =>
    let h := entField e.raw 224 8
    let a := s.adapterLoad fn.val h (entField e.raw 448 64)
    if a.2 ≠ stOk then a.1.runEntry fn.val q.val e a.2 0
    else
      let s2 := match a.1.currentAdapter fn.val h with | some (_, x) => a.1.mirrorAdapter x true | none => a.1
      s2.adapterFinish fn.val q.val e (e.raw.getLsbD 232) (s.currentAdapter fn.val h)

/-- ADAPTER_RETIRE (R391, R392). -/
def execAdapterRetire (fn : Fn) (q : Qn) (s : State) : Host.Outcome State Fault Refusal :=
  s.entryStart fn.val q.val 0x16 fun s e =>
    let h := entField e.raw 224 8
    match s.currentAdapter fn.val h with
    | none => s.runEntry fn.val q.val e stNoAdapter 0
    | some (i, a) =>
      ({ s with serving := { s.serving with adapters := s.serving.adapters.put i { a with current := false } } }.mirrorAdapter a false).adapterFinish
        fn.val q.val e (e.raw.getLsbD 232) (some (i, a))

/-- A generation is freed with its prefix roots and all their nodes (R391, R383). -/
def State.freeAdapter (s : State) (i : Nat) (a : AdapterGen) : State :=
  let s1 := a.frames.foldl State.unref { s with serving := { s.serving with adapters := s.serving.adapters.del i } }
  let roots := (s1.serving.nodes.filter fun e => e.2.parent.isNone && e.2.ctx == a.ctx && e.2.adapter == a.handle && e.2.adapterGen == a.gen).map (·.1)
  let grow (l : List Nat) : List Nat := (s1.serving.nodes.filter fun e => match e.2.parent with
    | some p => l.contains p
    | none => l.contains e.1).map (·.1)
  -- the nodes under the roots: as many rounds as the index is deep
  let all := Nat.rec (motive := fun _ => List Nat) roots (fun _ l => roots ++ grow l) s1.serving.nodes.length
  ((s1.serving.nodes.keys.reverse.filter all.contains).foldl State.dropNode s1).mirrorRoots a.ctx

/-- ADAPTER_FORCE_DONE (R392). -/
def execAdapterForceDone (gen : Fin 256) (s : State) : Host.Outcome State Fault Refusal :=
  if !s.clocked then .next s else
  match s.serving.adapters.look gen.val with
  | none => .next s
  | some a =>
    if a.current || a.waiters.isEmpty || !(s.pinned a).isEmpty then .next s
    else .next ((s.freeAdapter gen.val a).completeRefs a.waiters stOk)

/-- ADAPTER_GEN_FREE (R391). -/
def execAdapterGenFree (gen : Fin 256) (s : State) : Host.Outcome State Fault Refusal :=
  if !s.clocked then .next s else
  match s.serving.adapters.look gen.val with
  | none => .next s
  | some a =>
    if a.current || !a.waiters.isEmpty || !(s.pinned a).isEmpty then .next s else .next (s.freeAdapter gen.val a)

/-- STREAM_OPEN (R369). ORDER outside 4 to 16 or a VECTOR that is neither 0 nor 8 to 31 is outside Table 9-2. [DEDUCED, unsafe, log entry 49] -/
def execStreamOpen (fn : Fn) (q : Qn) (s : State) : Host.Outcome State Fault Refusal :=
  s.entryStart fn.val q.val 0x17 fun s e =>
    let n := entField e.raw 224 8
    let order := entField e.raw 232 5
    let vector := entField e.raw 240 5
    if order < 4 ∨ 16 < order ∨ (vector ≠ 0 ∧ vector < 8) then s.runEntry fn.val q.val e stBadEntry 0
    else if (s.stream fn.val n).isSome then s.runEntry fn.val q.val e stStreamBusy 0
    else (s.setStream fn.val n ⟨entField e.raw 448 64, order, vector, 0, 0, true, true, none⟩).runEntry fn.val q.val e stOk 0

/-- STREAM_CLOSE (Table 9-2): it completes at STREAM_CLOSE_DONE. -/
def execStreamClose (fn : Fn) (q : Qn) (s : State) : Host.Outcome State Fault Refusal :=
  s.entryStart fn.val q.val 0x18 fun s e =>
    let n := entField e.raw 224 8
    match s.stream fn.val n with
    | none => s.runEntry fn.val q.val e stNoStream 0
    | some x =>
      if x.closing.isSome then s.runEntry fn.val q.val e stNoStream 0
      else (s.startEntry fn.val q.val e.id .running).setStream fn.val n { x with closing := some ⟨fn.val, q.val, e.id⟩ }

/-- STREAM_CLOSE_DONE: no request names the stream (Table 9-9: those requests are FREE). -/
def execStreamCloseDone (c : Ctx) (stream : StreamNo) (s : State) : Host.Outcome State Fault Refusal :=
  if !s.clocked then .next s else
  match (s.stream c.val stream.val).bind fun x => x.closing with
  | none => .next s
  | some e =>
    if (s.requestsOf c.val).any fun r => reqStream r.2.desc == stream.val then .next s
    else
      .next ({ s with serving := { s.serving with streams := s.serving.streams.del (c.val * 256 + stream.val) } }.completeEntry e.fn e.q e.id stOk 0)

/-- REQ_READ (R359). -/
def execReqRead (fn : Fn) (q : Qn) (s : State) : Host.Outcome State Fault Refusal :=
  s.entryStart fn.val q.val 0x19 fun s e =>
    match s.requestByTag fn.val (entField e.raw 192 32) with
    | none => s.runEntry fn.val q.val e stReqStale 0
    | some (i, _) =>
      let s1 := s.refreshWaits fn.val
      let dest := entField e.raw 448 64
      match s1.request i with
      | none => s.runEntry fn.val q.val e stReqStale 0
      | some r =>
        if 2 ^ 38 < dest + 128 then s1.runEntry fn.val q.val e stLengthBounds 0
        else if !s1.cvaMapped fn.val dest 128 then s1.runEntry fn.val q.val e stNotMapped 0
        else
          match s1.draw.writeCvaN fn.val none dest (leBytes 128 (s1.requestWord r)) with
          | .ok s2 => s2.runEntry fn.val q.val e stOk 0
          | .error st => s1.runEntry fn.val q.val e st 0

/-- A region is free for work (R218): in service, its V_lo within 900 mV (R566), held by nothing. -/
def State.regionFree (s : State) (r : Nat) : Bool :=
  let x := s.regions.valAt .reset r
  x.phase = .inService && x.holder = .free && !s.voltageOut r

/-- The free regions in the order in which the scheduler takes them: a free choice (R218 does not say which). -/
def State.freeRegions (s : State) : List Nat :=
  let k := s.pick 0 % 6
  (List.range 6).map (fun i => (i + k) % 6) |>.filter s.regionFree

/-- The uses of the 24 pool banks of a region that is placed: a free assignment among the uses of R172. [DEDUCED, unsafe, log entry 83] -/
def State.bankUses (s : State) (r : Nat) : List BankUse :=
  (List.range 24).map fun b => match s.pick (2 ^ 53 + 32 * r + b) % 4 with
    | 0 => .free
    | 1 => .tiles
    | 2 => .kv
    | _ => .work

/-- Give regions to a holder whose data they then hold (R173). [DEDUCED, unsafe, log entry 49] -/
def State.holdRegions (s : State) (l : List Nat) (h : RegionHolder) (c : Nat) : State :=
  l.foldl (fun s r => s.modRegion r fun x => { x with holder := h, sram := some c, banks := s.bankUses r, division := none }) s

/-- The largest REGIONS of a context's bound models. -/
def State.servingWant (s : State) (c : Nat) : Nat :=
  ((s.serving.models.filter fun e => e.1 / 4 == c).map fun e => e.2.regions).foldl max 0

/-- SERVING_REGIONS_TAKE (R353). -/
def execServingRegionsTake (c : Ctx) (s : State) : Host.Outcome State Fault Refusal :=
  if s.ctxRunning c.val && s.computeOpen then
    let n := s.servingWant c.val - (s.servingRegions c.val).length
    let l := s.freeRegions.take n
    if l.isEmpty then .next s
    else
      let s1 := s.draw.holdRegions l (.serving c.val) c.val
      .next { s1 with serving := { s1.serving with idleSince := s1.serving.idleSince.put c.val s1.now } }
  else .next s

/-- SERVING_REGIONS_RETURN (R353): nothing startable for 1 ms, or the context has stopped running; never under a step. -/
def execServingRegionsReturn (dt : Nat) (c : Ctx) (s0 : State) : Host.Outcome State Fault Refusal :=
  if !s0.clocked then .next (s0.elapse dt) else
  let s := s0.elapse dt
  let idle := !s.anyStartable c.val && decide (s.serving.idleSince.valAt 0 c.val + 1000000 ≤ s.now)
  if (s.serving.steps.look c.val).isNone && (idle || !s.ctxRunning c.val) then
    .next ((s.servingRegions c.val).foldl (fun s r => s.modRegion r fun x => { x with holder := .free }) s)
  else .next s

/-- Every page of the walk widens to the query format (R322); and whether one differs from it (R323). -/
def State.walkFormats (s : State) (m : Model) (table : Nat) : Bool × Bool :=
  match s.kvTable table with
  | none => (true, false)
  | some t =>
    let fmts := (spanSlots t.spans ++ (t.overlay.toList.flatMap fun o => o.entries.map (·.slot))).filterMap fun i => (s.kvPage i).map (·.fmt)
    let q := (Fmt.ofCode m.qFmt).getD .fp32
    (fmts.all fun f => widens q (kvFmt f), fmts.any fun f => kvFmt f != q)

/-- The sampler's parameters of a request (R375). -/
def Request.params (r : Request) : DrawParams :=
  ⟨reqTemperature r.desc, reqTopK r.desc, reqTopP r.desc, reqRepPen r.desc, reqFreqPen r.desc, reqPresPen r.desc⟩

/-- The distribution of R375 for a row: kept tokens with their probabilities in FP32. -/
def drawDist (p : DrawParams) (count : Nat → Nat) (ls : List Val) : List (Nat × BitVec 32) :=
  let live := liveLogits p count ls
  let infs := live.filter fun q => q.2 == .inf false
  let ws : List (Nat × Val) :=
    if !infs.isEmpty then infs.map fun q => (q.1, Val.one)
    else if p.temperature.isZero then ((argmaxOf live).toList.map fun q => (q.1, Val.one))
    else keptWeights p live
  let sum := weightSum ws
  ws.map fun q => (q.1, encode32 (fdiv q.2 sum).1)

/-- ROLLBACK of every open overlay of a request (R387, R389). -/
def State.rollbackAll (s : State) (r : Request) : State :=
  let open' (s : State) (t : Nat) : State :=
    match (s.kvTable t).bind fun x => x.overlay.map fun o => (x, o) with
    | some (x, o) => s.kvCancelOverlay t x o
    | none => s
  let s1 := open' s r.table
  match r.draftTable with | some t => open' s1 t | none => s1

/-- A DRAINING request whose step is over reaches ENDING (Table 9-6); its drawn tokens are dropped. -/
def State.drained (s : State) (i : Nat) (r : Request) : State :=
  let r1 := { r with state := .ending, drawn := [] }
  let s1 := (s.setRequest i r1).mirrorEnd r1
  if r.endReason = 4 then s1.bump 0x640002 else s1

/-- One member of a faulted step (R389). With its table destroyed for the last time it keeps none. -/
def State.faultRequest (s : State) (i : Nat) : State :=
  match s.request i with
  | none => s
  | some r =>
    let s1 := s.rollbackAll r
    let r1 := { r with inFlight := false }
    if r.cancelPending then s1.drained i r1
    else
      let s2 := (s1.kvDestroy r.table).1
      let s3 := match r.draftTable with | some t => (s2.kvDestroy t).1 | none => s2
      let n := r.restarts + 1
      let old := s.kvTable r.table
      let r2 := { r1 with restarts := n, table := 65536, draftTable := none }
      if n < 3 then
        let k := s3.kvCreate r.ctx 0 ((old.map (·.layers)).getD 1) ((old.map (·.hkv)).getD 1) ((old.map (·.d)).getD 16) ((old.map (·.dv)).getD 16)
        let r3 := { r2 with state := .waiting, resumed := true, table := if k.2.1 = stOk then k.2.2 else 65536 }
        let p := k.1.prefixReuse r3
        (p.1.setRequest i { r3 with prefixHit := p.2 }).bump 0x64000A
      else (s3.setRequest i { r2 with resumed := true }).endRequest i stJobFault 5 true

/-- last_customer after a step (R365): the customer of the first member of each priority, in key order. -/
def State.turnCustomers (s : State) (c : Nat) (ms : List StepMember) : State :=
  let reqs := ms.filterMap fun m => s.request m.req
  let firsts := (List.range 8).filterMap fun p => (reqs.find? fun r => reqPriority r.desc == p).map fun r => (p, reqCustomer r.desc)
  { s with serving := { s.serving with
      lastCustomer := firsts.foldl (fun m x => m.setAt 1023 (c * 8 + x.1) x.2) s.serving.lastCustomer } }

/-- A formed step is issued: admission (R163), COMMAND_STEP (R635). `order`: its members in key order (R365). [DEDUCED, unsafe, log entry 48] -/
def State.issueStep (s : State) (c : Nat) (kind : StepKind) (model : Nat) (order ms : List StepMember) : State :=
  if ms.isEmpty then s
  else
    let a := s.admitWork c
    let begun := ((a.1.workStarts.commandStep c).count 0xC2 none (some c) 1).strand servingSchedulerId 0x24 (some c) ms.length
    let s1 := begun.turnCustomers c order
    let since := s1.serving.sincePrefill.valAt 0 c
    { s1 with serving := { s1.serving with
        steps := s1.serving.steps.put c ⟨kind, model, ms, a.2, s1.stepRegions c⟩
        sincePrefill := s1.serving.sincePrefill.setAt 0 c (if kind = .prefill then 0 else since + 1) } }

/-- The most drafts that a request's next step verifies: from the prefix index (R384), or DRAFT_LEN from its draft model, as far as MAX_CONTEXT leaves room (R379); none for an ordinary step. -/
def State.draftCount (s : State) (r : Request) : Nat :=
  let room := (((s.model r.ctx (reqModel r.desc)).map (·.maxContext)).getD 0) - s.reqLength r - 1
  if r.state ≠ .decode then 0
  else if reqSpecSource r.desc = 2 then min room (s.prefixDrafts r).length
  else if reqSpecSource r.desc = 1 then min room (reqDraftLen r.desc) else 0

/-- What the drafts of a speculative step came to (R385 step 1): tokens with their draft distributions; whether a page of another format than the draft model's query was read (R323); the positions the draft model computed under the overlay; and the status that stopped it. -/
structure DraftRun where
  s : State
  tokens : List (BitVec 32)
  dists : List (List (Nat × BitVec 32))
  mixed : Bool
  steps : Nat
  fail : Option Status

/-- The draft table of a request, created on its first use with the draft model's geometry (Table 9-4 DRAFT_TABLE). -/
def State.draftTable (s : State) (i : Nat) (r : Request) (m : Model) : State × Except Status Nat :=
  match r.draftTable with
  | some t => (s, .ok t)
  | none =>
    let k := s.kvCreate r.ctx 2 m.layers m.hkv m.d m.dv
    if k.2.1 = stOk then (k.1.modRequest i fun r => { r with draftTable := some k.2.2 }, .ok k.2.2) else (s, .error k.2.1)

/-- Passes beyond the first for one member and layer of a model's step (R325). -/
def extraPasses (m : Model) (p : Program) : Nat :=
  let q := (p.operators.find? fun r => opCode r == 0x0020).map fun r => tDim ((p.tensors[opIn r 0]?).getD 0) 2
  m.hkv * (ceilDiv (q.getD 0 / m.hkv) 16 - 1)

/-- One single-position step of the draft model at a position (R385 step 1), a walk of the draft table (R332): the logits of the position, or the status with which the step fails. -/
def State.draftStep (d : DraftRun) (i seq table : Nat) (r : Request) (m : Model) (p : Program) (pos : Nat) (tok : BitVec 32) (spec : Bool) :
    DraftRun × List (BitVec 32) :=
  let s := d.s
  match s.kvTable table with
  | none => ({ d with fail := some stKvtNoTable }, [])
  | some t =>
    let w := s.walkFormats m table
    if !w.1 then ({ d with fail := some stKvFormat }, [])
    else
      let k := s.kvCapture table t 1
      let run := k.1.runModel r.ctx seq m p [⟨i, pos, [tok], [], [], 0, 0, 0⟩] true spec
      let d1 := { d with s := (run.1.s.kvRelease k.2).bumpBy 0x630008 (m.layers * extraPasses m p), mixed := d.mixed || w.2 }
      match run.1.poison, run.1.fail, run.1.failed.head?, (run.2[0]?).getD none with
      | true, _, _, _ => ({ d1 with fail := some stJobFault }, [])
      | _, some st, _, _ => ({ d1 with fail := some st }, [])
      | _, _, some f, _ => ({ d1 with fail := some f.2 }, [])
      | _, _, _, none => ({ d1 with fail := some stJobFault }, [])
      | _, _, _, some row => (d1, row)

/-- The draft table is brought up to the request's LENGTH; these positions are not charged (R363 counts only the drafts). -/
def State.draftCatchUp (d : DraftRun) (i seq table : Nat) (r : Request) (m : Model) (p : Program) (upTo : Nat) : Nat → DraftRun
  | 0 => d
  | fuel + 1 =>
    let len := ((d.s.kvTable table).map (·.length)).getD upTo
    if upTo ≤ len then d
    else
      let c := d.s.evictingEdit r.ctx fun s => s.kvCover table m.kvTcode m.kvFmt (len + 1) 65537
      if c.2 ≠ stOk then { d with s := c.1, fail := some c.2 }
      else
        let a := State.draftStep { d with s := c.1 } i seq table r m p len ((r.sequence[len]?).getD 0) false
        if a.1.fail.isSome then a.1
        else State.draftCatchUp { a.1 with s := (a.1.s.kvAdvance table 1).1 } i seq table r m p upTo fuel

/-- Draw `k` drafts with the draft model under its overlay (R385 step 1, lane 2); a row of which every logit is excluded ends the drafts. -/
def State.drawDrafts (d : DraftRun) (i seq table : Nat) (r : Request) (m : Model) (p : Program) : Nat → Nat → BitVec 32 → DraftRun
  | 0, _, _ => d
  | k + 1, pos, tok =>
    let a := State.draftStep d i seq table r m p pos tok true
    let d1 := { a.1 with steps := d.steps + 1 }
    if d1.fail.isSome then d1
    else
      let cnt := countTokens r.counts d.tokens
      let ls := a.2.map decode32
      match drawToken r.params (fun x => cnt.valAt 0 x) (uniform (reqSeed r.desc) (r.delivered + d.tokens.length) 2) ls with
      | none => d1
      | some t =>
        State.drawDrafts { d1 with tokens := d.tokens ++ [BitVec.ofNat 32 t], dists := d.dists ++ [drawDist r.params (fun x => cnt.valAt 0 x) ls] }
          i seq table r m p k (pos + 1) (BitVec.ofNat 32 t)

/-- The drafts of a speculative step, at most `k`: from the prefix index with q = 1, or from the draft model (R385 step 1). -/
def State.stepDrafts (s : State) (i : Nat) (r : Request) (k seq : Nat) : DraftRun :=
  let d : DraftRun := ⟨s, [], [], false, 0, none⟩
  if reqSpecSource r.desc = 2 then
    let ds := (s.prefixDrafts r).take k
    { d with tokens := ds, dists := ds.map fun d => [(d.toNat, oneF32)] }
  else
    match ((s.model r.ctx (reqModel r.desc)).bind fun m => m.draft).bind fun slot => s.model r.ctx slot with
    | none => d
    | some dm =>
      match s.progs.look dm.prog with
      | none => d
      | some p =>
        let a := s.draftTable i r dm
        match a.2 with
        | .error st => { d with s := a.1, fail := some st }
        | .ok table =>
          let len := a.1.reqLength r
          let c := State.draftCatchUp { d with s := a.1 } i seq table r dm p len (len + 1)
          if c.fail.isSome then c
          else
            let o := c.s.evictingEdit r.ctx fun s => s.kvSpecOpen table k
            if o.2 ≠ stOk then { c with s := o.1, fail := some o.2 }
            else State.drawDrafts { c with s := o.1 } i seq table r dm p k len ((r.sequence[len]?).getD 0)

/-- Each of some requests joins a step that is being formed, one after another: one is startable only while its level and its stream's space still allow it (R361, R363, R372). -/
def State.joinEach {α : Type} (s : State) (req : α → Nat) (join : State → α → State × Option StepMember) : List α → State × List StepMember
  | [] => (s, [])
  | x :: rest =>
    let ok := match s.request (req x) with | some r => s.startable (req x) r | none => false
    let a := if ok then join s x else (s, none)
    let b := State.joinEach a.1 req join rest
    (b.1, a.2.toList ++ b.2)

/-- A request waits for memory (R383). -/
def State.waitMemory (s : State) (i : Nat) : State :=
  s.modRequest i fun r => { r with waitReason := stNoMemory, noMemSince := some (r.noMemSince.getD s.now) }

/-- A request enters a step of `n` positions from its LENGTH: charge (R361), format check (R322, R323), walk (R332). None: it is not in the step. -/
def State.enterStep (s : State) (i n charged : Nat) (drafts : List (BitVec 32)) (dists : List (List (Nat × BitVec 32))) (mixed : Bool)
    (m : Model) : State × Option StepMember :=
  match s.request i with
  | none => (s, none)
  | some r =>
    match s.kvTable r.table, s.customer r.ctx (reqCustomer r.desc) with
    | some t, some cu =>
      let s1 := s.setCustomer r.ctx (reqCustomer r.desc) (cu.charged charged s.tideNat)
      let w := s1.walkFormats m r.table
      if !w.1 then (((s1.rollbackAll r).endRequest i stKvFormat 5 true).bump 0x630002, none)
      else
        let k := s1.kvCapture r.table t n
        let differs := mixed || w.2
        let s2 := if differs then k.1.bump 0x630003 else k.1
        let toks := ((r.sequence ++ drafts).drop t.length).take n
        (s2.setRequest i { r with
            inFlight := true, waitReason := 0, noMemSince := none, budgetSince := none, mixedKv := r.mixedKv || differs
            state := if r.state = .waiting then .prefill else r.state },
          some ⟨i, t.length, toks, drafts, dists, k.2, 0, charged⟩)
    | _, _ => (s, none)

/-- A request whose re-admission found no table gets one (R389). -/
def State.ensureTable (s : State) (i : Nat) (m : Model) : State :=
  match s.request i with
  | none => s
  | some r =>
    if (s.kvTable r.table).isSome then s
    else
      let k := s.kvCreate r.ctx 0 m.layers m.hkv m.d m.dv
      if k.2.1 = stOk then k.1.modRequest i fun r => { r with table := k.2.2 } else s

/-- A request joins a step without drafts: pages for its `n` positions (R383), then the step. [DESIGN CHOICE, unsafe, log entry 85] -/
def State.joinPlain (s0 : State) (i n charged : Nat) (mixed : Bool) (m : Model) : State × Option StepMember :=
  let s := s0.ensureTable i m
  match s.request i with
  | none => (s, none)
  | some r =>
    let cover := s.evictingEdit r.ctx fun s => s.kvCover r.table m.kvTcode m.kvFmt (s.reqLength r + n) 65537
    if cover.2 ≠ stOk then (cover.1.waitMemory i, none) else cover.1.enterStep i n charged [] [] mixed m

/-- A step that a draft model computes for a request faults or is refused: with JOB_FAULT as R389 says, with KV_FORMAT as R322 does; where pages or table space are lacking the request waits (R383). The positions it computed are charged (R387). -/
def State.draftFault (s : State) (i charged : Nat) (st : Status) : State :=
  match s.request i with
  | none => s
  | some r =>
    let s1 := match s.customer r.ctx (reqCustomer r.desc) with
      | some cu => s.setCustomer r.ctx (reqCustomer r.desc) (cu.charged charged s.tideNat)
      | none => s
    if st = stJobFault then (s1.faultRequest i).slackStop 3
    else if st = stKvFormat then ((s1.rollbackAll r).endRequest i st 5 true).bump 0x630002
    else (s1.rollbackAll r).waitMemory i

/-- A request joins a decode step with up to `k` drafts to verify (R385 steps 1 and 2): drafts, overlay, then the step. Its main spans stay as they are until COMMIT (R346). Without a draft its step is an ordinary one (R384). -/
def State.joinDecode (s : State) (i k : Nat) (m : Model) : State × Option StepMember :=
  match s.request i with
  | none => (s, none)
  | some r =>
    if k = 0 then s.joinPlain i 1 1 false m
    else
      let d := s.stepDrafts i r k s.pm.order
      match d.fail with
      | some st => (d.s.draftFault i d.steps st, none)
      | none =>
        let n := d.tokens.length
        if n = 0 then (match d.s.request i with | some x => d.s.rollbackAll x | none => d.s).joinPlain i 1 (1 + d.steps) d.mixed m
        else
          let o := d.s.evictingEdit r.ctx fun s => s.kvSpecOpen r.table (n + 1)
          if o.2 ≠ stOk then ((match o.1.request i with | some x => o.1.rollbackAll x | none => o.1).waitMemory i, none)
          else o.1.enterStep i (n + 1) (n + 1 + d.steps) d.tokens d.dists d.mixed m

/-- Of requests in key order, those that can share a step: for each adapter handle only one generation (R391). [DESIGN CHOICE, unsafe, log entry 85] -/
def sameGenerations (l : List (Nat × Request)) : List (Nat × Request) :=
  l.foldl (fun acc e =>
    let clash (x : Request) : Bool := reqAdapterValid x.desc && reqAdapterValid e.2.desc && reqAdapter x.desc == reqAdapter e.2.desc && x.adapterGen != e.2.adapterGen
    if acc.any fun x => clash x.2 then acc else acc ++ [e]) []

/-- The context may be issued a step now (R353, R354). -/
def State.mayStep (s : State) (c : Nat) : Bool :=
  s.ctxRunning c && s.computeOpen && s.agentIssues 7 && s.mayServe c && (s.serving.steps.look c).isNone && !(s.stepRegions c).isEmpty

/-- Cut requests sorted by LENGTH into batch groups of at most 64 within PAD_LIMIT (R366): index with group. [DESIGN CHOICE, unsafe, log entry 85] -/
def cutGroups (pad : Nat) : List (Nat × Nat) → Nat → Nat → Nat → List (Nat × Nat)
  | [], _, _, _ => []
  | (i, len) :: rest, g, n, first =>
    if n = 0 then (i, g) :: cutGroups pad rest g 1 len
    else if n < 64 ∧ len ≤ first + pad then (i, g) :: cutGroups pad rest g (n + 1) first
    else (i, g + 1) :: cutGroups pad rest (g + 1) 1 len

/-- The members of a decode step in key order with the drafts each may verify: up to `count` members and `space` positions in all (R366). -/
def State.decodePlan (s : State) : Nat → Nat → List (Nat × Request) → List (Nat × Nat)
  | 0, _, _ => []
  | _, _, [] => []
  | count + 1, space, (i, r) :: rest =>
    let k := s.draftCount r
    if space < k + 1 then [] else (i, k) :: State.decodePlan s count (space - (k + 1)) rest

/-- The members of a decode step sorted by LENGTH, with their batch groups (R366). L_max is the greatest LENGTH in a group here. -/
def groupMembers (pad : Nat) (ms : List StepMember) : List StepMember :=
  let sorted := sortBy (fun a b => decide (a.start < b.start)) ms
  (sorted.zip (cutGroups pad (sorted.map fun m => (m.req, m.start)) 0 0 0)).map fun x => { x.1 with group := x.2.2 }

/-- Form and issue a decode step (R366, R385): speculative when some member verifies drafts. -/
def State.issueDecode (s : State) (c : Nat) (spec : Bool) : State :=
  let order := s.keyOrder c
  let decodes := order.filter fun e => e.2.state = .decode
  let prefills := order.any fun e => e.2.state != .decode
  let turn := !prefills || decide (s.serving.sincePrefill.valAt 0 c < s.dictVal 0x310003)
  match decodes with
  | [] => s
  | (_, r0) :: _ =>
    match s.model c (reqModel r0.desc) with
    | none => s
    | some m =>
      let plan := s.decodePlan 256 m.sMax (sameGenerations (decodes.filter fun e => reqModel e.2.desc == reqModel r0.desc))
      if s.mayStep c && turn && (plan.any fun x => decide (0 < x.2)) == spec then
        let j := s.joinEach (·.1) (fun s x => s.joinDecode x.1 x.2 m) plan
        let kind : StepKind := if j.2.any fun x => !x.drafts.isEmpty then .spec else .decode
        (j.1.issueStep c kind (reqModel r0.desc) j.2 (groupMembers (s.dictVal 0x310001) j.2)).refreshWaits c
      else s

/-- DECODE_STEP_ISSUE (R366, R367): the next decode step has no drafts to verify. -/
def execDecodeStepIssue (dt : Nat) (c : Ctx) (s0 : State) : Host.Outcome State Fault Refusal :=
  .next ((((s0.elapse dt).noteIdle c.val).refreshWaits c.val).issueDecode c.val false)

/-- SPEC_STEP_ISSUE (R366, R385 steps 1 to 3): the next decode step verifies drafts of some of its members. -/
def execSpecStepIssue (dt : Nat) (c : Ctx) (s0 : State) : Host.Outcome State Fault Refusal :=
  .next ((((s0.elapse dt).noteIdle c.val).refreshWaits c.val).issueDecode c.val true)

/-- The contributions of a prefill row in key order (R367): index, positions, charged positions. A re-admitted request is not charged (R389). -/
def State.prefillPlan (s : State) (chunk : Nat) : Nat → Nat → List (Nat × Request) → List (Nat × Nat × Nat)
  | _, _, [] => []
  | count, space, (i, r) :: rest =>
    let n := min (min (r.sequence.length - s.reqLength r) chunk) space
    if count = 0 ∨ n = 0 then []
    else (i, n, if r.resumed then 0 else n) :: State.prefillPlan s chunk (count - 1) (space - n) rest

/-- PREFILL_ROW_ISSUE (R367). -/
def execPrefillRowIssue (dt : Nat) (c : Ctx) (s0 : State) : Host.Outcome State Fault Refusal :=
  let s := ((s0.elapse dt).noteIdle c.val).refreshWaits c.val
  let order := s.keyOrder c.val
  let prefills := order.filter fun e => e.2.state != .decode
  let decodes := order.any fun e => e.2.state = .decode
  let turn := !decodes || decide (s.dictVal 0x310003 ≤ s.serving.sincePrefill.valAt 0 c.val)
  match prefills with
  | [] => .next s
  | (_, r0) :: _ =>
    match s.model c.val (reqModel r0.desc) with
    | none => .next s
    | some m =>
      if s.mayStep c.val && turn then
        let members := sameGenerations (prefills.filter fun e => reqModel e.2.desc == reqModel r0.desc)
        let plan := s.prefillPlan (s.dictVal 0x310002) 256 (min 16384 m.sMax) members
        let j := s.joinEach (·.1) (fun s x => s.joinPlain x.1 x.2.1 x.2.2 false m) plan
        .next ((j.1.issueStep c.val .prefill (reqModel r0.desc) j.2 j.2).refreshWaits c.val)
      else .next s

/-- Pad positions of a decode step (R330, R331) over its groups, for one layer. [DESIGN CHOICE, unsafe, log entry 85] -/
def padPositions (ms : List StepMember) : Nat :=
  let len (m : StepMember) : Nat := m.start + m.tokens.length
  (ms.map fun m => ((ms.filter fun y => y.group == m.group).map len).foldl max 0 - len m).sum

/-- The AEs of some regions. -/
def aesOf (regions : List Nat) : List Nat := regions.flatMap fun r => [r * 256 + 64, r * 256 + 65]

/-- What `layers` layers of a step of context `c` add to the attention counters: pad positions of its groups (R331), which its AEs count (Table 16-4, 0x33), passes beyond the first of its members (R325). -/
def State.ranLayers (s : State) (c : Nat) (m : Model) (p : Program) (st : ServingStep) (layers : Nat) : State :=
  let pad := if st.kind = .prefill then 0 else layers * padPositions st.members
  ((s.bumpBy 0x630001 pad).countSplit 0x33 0 (aesOf st.regions) (some c) pad).draw.bumpBy 0x630008 (st.members.length * layers * extraPasses m p)

/-- A step of which it is not known how far it had come: it has run some of its layers, a free number. [DESIGN CHOICE, unsafe, log entry 85] -/
def State.ranSome (s : State) (c : Nat) (st : ServingStep) : State :=
  match (s.model c st.model).bind fun m => (s.progs.look m.prog).map fun p => (m, p) with
  | none => s
  | some (m, p) => s.draw.ranLayers c m p st (s.pick 0 % (m.layers + 1))

/-- The ENERGY of a request is brought up to date after each step (R578): the energy of the interval still open is free, and is split by the positions charged (R576). -/
def State.stepEnergy (s : State) (st : ServingStep) : State :=
  let total := (st.members.map (·.charged)).sum
  if total = 0 then s
  else st.members.foldl (fun a m => a.modRequest m.req fun r => { r with energy := r.energy + Config.openDiv (s.pick 0 * m.charged) total }) s.draw

/-- The step of a context is over: walks released, admission ended. -/
def State.closeStep (s : State) (c : Nat) (st : ServingStep) : State :=
  let s1 := st.members.foldl (fun s m => s.kvRelease m.walk) (s.stepEnergy st)
  { s1 with serving := { s1.serving with steps := s1.serving.steps.del c } }.discharge c st.seq

/-- A step faults with JOB_FAULT (R389): each of its members is handled. -/
def State.faultMembers (s : State) (c : Nat) (st : ServingStep) : State :=
  (st.members.map (·.req)).foldl State.faultRequest (s.closeStep c st)

/-- A step that is in flight faults with JOB_FAULT (R389). -/
def State.faultStep (s : State) (c : Nat) : State :=
  match s.serving.steps.look c with
  | none => s
  | some st => (s.ranSome c st).faultMembers c st

/-- SERVING_STEP_FAULT (R389). -/
def execServingStepFault (dt : Nat) (c : Ctx) (s0 : State) : Host.Outcome State Fault Refusal :=
  if !s0.clocked then .next (s0.elapse dt) else
  .next ((s0.elapse dt).faultStep c.val)

/-- One member of a completed step (R360, R387, R388): a cancelled one ends as cancelled whatever its step came to (R392); else its table advances and its logits go to the sampler. -/
def State.finishMember (s : State) (failed : List (Nat × Status)) (logits : List (Option (List (BitVec 32)))) (m : StepMember) : State :=
  match s.request m.req with
  | none => s
  | some r =>
    let r1 := { r with inFlight := false }
    if r.cancelPending then (s.rollbackAll r).drained m.req r1
    else
      match failed.find? fun f => f.1 == m.req with
      | some f => ((s.rollbackAll r).setRequest m.req r1).endRequest m.req f.2 5 true
      | none =>
        let rows : List (List (BitVec 32)) := logits.map fun x => x.getD []
        let queue (s : State) (l : LogitRows) : State := { s with serving := { s.serving with rows := s.serving.rows ++ [.request l] } }
        if !m.drafts.isEmpty then queue (s.setRequest m.req r1) ⟨m.req, rows, m.drafts, m.dists⟩
        else
          let s1 := (s.kvAdvance r.table m.tokens.length).1
          let whole := decide (r.sequence.length ≤ m.start + m.tokens.length)
          let s2 := s1.setRequest m.req { r1 with state := if whole then .decode else r1.state }
          if whole then queue s2 ⟨m.req, rows.drop (rows.length - 1), [], []⟩ else s2

/-- Members with their slices of the logit rows. -/
def sliceRows {α : Type} : List StepMember → List α → List (StepMember × List α)
  | [], _ => []
  | m :: ms, l => (m, l.take m.tokens.length) :: sliceRows ms (l.drop m.tokens.length)

/-- Does a member's logits slice that will be used hold poison? -/
def rowsPoisoned (s : State) (x : StepMember × List (Option (List (BitVec 32)))) : Bool :=
  match s.request x.1.req with
  | none => false
  | some r =>
    if !x.1.drafts.isEmpty then x.2.any Option.isNone
    else decide (r.sequence.length ≤ x.1.start + x.1.tokens.length) && ((x.2.getLast?).getD none).isNone

/-- SERVING_STEP_COMPLETE (R360, R351, R382): the step's keys and values are stored, its tables advance, its logits are due for drawing, and a prefill row enters the prefix index. -/
def execServingStepComplete (dt : Nat) (c : Ctx) (s0 : State) : Host.Outcome State Fault Refusal :=
  if !s0.clocked then .next (s0.elapse dt) else
  let s := s0.elapse dt
  match s.serving.steps.look c.val with
  | none => .next s
  | some st =>
    match (s.model c.val st.model).bind fun m => (s.progs.look m.prog).map fun p => (m, p) with
    | none => .next (s.faultStep c.val)
    | some (m, p) =>
      if !s.issues st.regions then .next s else
      let run := s.runModel c.val st.seq m p st.members false true
      let slices := sliceRows st.members run.2
      if run.1.poison || slices.any (rowsPoisoned s) then .next (((s.ranLayers c.val m p st m.layers).faultMembers c.val st).slackStop 3)
      else
        let failed := run.1.failed ++ (match run.1.fail with | some f => st.members.map fun x => (x.req, f) | none => [])
        let s1 := slices.foldl (fun s x => s.finishMember failed x.2 x.1) run.1.s
        let s2 := (s1.closeStep c.val st).ranLayers c.val m p st m.layers
        let s3 := if st.kind = .prefill then st.members.foldl (fun s x => s.prefixInsert x.req) s2 else s2
        .next (s3.refreshWaits c.val)

/-- The outcome of testing drafts (R386): accepted drafts, the further token (none: NO_TOKEN), and whether a draft was rejected. -/
structure Acceptance where
  accepted : List (BitVec 32)
  further : Option (BitVec 32)
  rejected : Bool

/-- Probability of a token in a distribution. -/
def probOf (d : List (Nat × BitVec 32)) (t : Nat) : Val := ((d.find? fun x => x.1 == t).map fun x => decode32 x.2).getD Val.zero

/-- The further token after a rejection: drawn with u(0) from the normalised max(0, p − q) (R386). -/
def residualDraw (p q : List (Nat × BitVec 32)) (u : Val) : Option Nat :=
  let ws := (p.map fun x => (x.1, (fsub (decode32 x.2) (probOf q x.1)).1)).filter fun x => Val.zero.lt x.2
  runningPick (fmul u (weightSum ws)).1 Val.zero ws

/-- DRAFT_ACCEPT (R386). -/
def acceptDrafts (r : Request) : List (BitVec 32) → List (List (Nat × BitVec 32)) → List (List (BitVec 32)) → List (BitVec 32) → Acceptance
  | [], _, rows, acc =>
    let cnt := countTokens r.counts acc
    let t := drawToken r.params (fun x => cnt.valAt 0 x) (uniform (reqSeed r.desc) (r.delivered + acc.length) 0) (((rows.head?).getD []).map decode32)
    ⟨acc, t.map (BitVec.ofNat 32), false⟩
  | d :: ds, qs, rows, acc =>
    let cnt := countTokens r.counts acc
    let ls := ((rows.head?).getD []).map decode32
    let idx := r.delivered + acc.length
    let p := drawDist r.params (fun x => cnt.valAt 0 x) ls
    let q := (qs.head?).getD []
    if r.params.temperature.isZero then
      match drawToken r.params (fun x => cnt.valAt 0 x) (uniform (reqSeed r.desc) idx 0) ls with
      | none => ⟨acc, none, true⟩
      | some t => if d.toNat = t then acceptDrafts r ds qs.tail rows.tail (acc ++ [d]) else ⟨acc, some (BitVec.ofNat 32 t), true⟩
    else if p.isEmpty then ⟨acc, none, true⟩
    else
      let ratio := (fdiv (probOf p d.toNat) (probOf q d.toNat)).1
      if (uniform (reqSeed r.desc) idx 1).le ratio then acceptDrafts r ds qs.tail rows.tail (acc ++ [d])
      else ⟨acc, (residualDraw p q (uniform (reqSeed r.desc) idx 0)).map (BitVec.ofNat 32), true⟩

/-- The sampler takes the logits of a request (R375, R385 steps 4 and 5, R386): they give its token or tokens; a speculative step is committed. -/
def State.sampleRequest (s : State) (x : LogitRows) : State :=
  match s.request x.req with
  | none => s
  | some r =>
    if x.drafts.isEmpty then
      let ls := ((x.rows.head?).getD []).map decode32
      match drawToken r.params (fun k => r.counts.valAt 0 k) (uniform (reqSeed r.desc) r.delivered 0) ls with
      | none => s.endRequest x.req stNoToken 5 true
      | some t => (s.setRequest x.req { r with drawn := [BitVec.ofNat 32 t] }).mirrorTokens x.req
    else
      let a := acceptDrafts r x.drafts x.dists x.rows []
      let n := a.accepted.length
      let k := s.evictingEdit r.ctx fun s => s.kvCommit r.table (n + 1)
      if k.2 ≠ stOk then (k.1.rollbackAll r).endRequest x.req k.2 5 true
      else
        let s2 := match r.draftTable with
          | some t =>
            let y := k.1.evictingEdit r.ctx fun s => s.kvCommit t (min (n + 1) x.drafts.length)
            if y.2 = stOk then y.1 else (y.1.kvRollback t).1
          | none => k.1
        let proposed := n + (if a.rejected then 2 else 0)
        let r1 := { r with specProposed := r.specProposed + proposed, specAccepted := r.specAccepted + n, drawn := a.accepted ++ a.further.toList }
        let s3 := (((s2.setRequest x.req r1).mirrorTokens x.req).bumpBy 0x640007 proposed).bumpBy 0x640008 n
        match a.further with
        | some _ => s3
        | none => s3.endRequest x.req stNoToken 5 true

/-- SAMPLER_ROW: the sampler takes the oldest entry of its queue, whole (R229, R378). -/
def execSamplerRow (s : State) : Host.Outcome State Fault Refusal :=
  if !s.clocked then .next s else
  match s.serving.rows with
  | [] => .next s
  | x :: rest =>
    let s1 := { s with serving := { s.serving with rows := rest } }
    match x with
    | .request l => .next (s1.sampleRequest l)
    | .sample job op row => .next (s1.sampleRow job op row)

/-- A stream record (Table 9-7) without PHASE. -/
def streamRecord (tide : Nat) (r : Request) (tok index : Nat) (st : Status) (reason : Nat) (last : Bool) : Nat :=
  let b (x : Bool) (i : Nat) : Nat := if x then 2 ^ i else 0
  tide * 2 ^ 192 + reqTag r.desc * 2 ^ 160 + tok * 2 ^ 128 + index * 2 ^ 96 + st.toNat * 2 ^ 80 + reason * 2 ^ 72 +
    b r.mixedKv 71 + b r.deadlineMissed 70 + b r.resumed 69 + b last 1

/-- The requests of a stream that have a record due. -/
def State.streamDue (s : State) (c n : Nat) : List (Nat × Request) :=
  (s.requestsOf c).filter fun e => reqStream e.2.desc == n && !e.2.inFlight && (!e.2.drawn.isEmpty || (e.2.state = .ending && e.2.endDue))

/-- The stream's ring could not be written (R373): every request of the stream ends without an end record, and the stream is closed. A STREAM_CLOSE that waits goes on waiting until those requests are FREE (Table 9-9). -/
def State.streamLost (s : State) (c n : Nat) (st : Status) : State :=
  let s1 := ((s.requestsOf c).filter fun e => reqStream e.2.desc == n).foldl (fun s e =>
    let s2 :=
      if e.2.state = .ending then s.setRequest e.1 { e.2 with endDue := false, drawn := [] }
      else s.endRequest e.1 st 5 false
    match s2.request e.1 with
    | some r => ((s2.setRequest e.1 { r with cancels := [] }).completeRefs r.cancels stOk)
    | none => s2) s
  match s1.stream c n with
  | none => s1
  | some x =>
    if x.closing.isSome then s1 else { s1 with serving := { s1.serving with streams := s1.serving.streams.del (c * 256 + n) } }

/-- A delivered token changes the request: DELIVERED and the counts (R373, R374), then the ends of Table 9-6. -/
def State.deliver (s : State) (i : Nat) (r : Request) (t : BitVec 32) (rest : List (BitVec 32)) (m : Option Model) : State :=
  let r1 := { r with delivered := r.delivered + 1, out := r.out ++ [t], counts := countTokens r.counts [t], drawn := rest }
  let stop := (List.range (reqStopCount r.desc)).any fun k => reqStop r.desc k == t.toNat
  let s1 := (s.setRequest i r1).bump 0x640004
  if stop then s1.endRequest i stOk 1 true
  else if reqMaxNew r.desc ≤ r1.delivered then s1.endRequest i stOk 2 true
  else if rest.isEmpty && (match m with | some m => decide (m.maxContext < s.reqLength r + 1) | none => false) then s1.endRequest i stOk 3 true
  else s1

/-- STREAM_RECORD_WRITE (R370 to R373): the next due record of the stream; which request's comes first is a free choice. [DEDUCED, unsafe, log entry 49] -/
def execStreamRecordWrite (c : Ctx) (stream : StreamNo) (s : State) : Host.Outcome State Fault Refusal :=
  if !s.unitsRun then .next s else
  if !s.mayServe c.val then .next s else
  match s.stream c.val stream.val, (s.streamDue c.val stream.val).filter fun e => s.mirrorCovers e.1 with
  | some x, e0 :: es =>
    let due := e0 :: es
    let e := (due[s.pick 0 % due.length]?).getD e0
    let s0 := (s.noteIdle c.val).draw
    if 2 ^ x.order - 1 ≤ x.used then .next s
    else
      let r := e.2
      let word := match r.drawn with
        | t :: _ => streamRecord s.tideNat r t.toNat r.delivered 0 0 false
        | [] => streamRecord s.tideNat r 0xFFFFFFFF r.delivered r.status r.endReason true
      let bytes := leBytes 32 (word + (if x.phase then 1 else 0))
      let cva := x.ring + x.tail * 32
      if !s0.cvaMapped c.val cva 32 then .next (s0.streamLost c.val stream.val stNotMapped)
      else
        match s0.writeCvaN c.val none cva bytes with
        | .error st => .next (s0.streamLost c.val stream.val st)
        | .ok s1 =>
          let tail := (x.tail + 1) % 2 ^ x.order
          let raise := x.vector != 0 && x.armed
          let s2 := s1.setStream c.val stream.val { x with
            tail := tail, phase := if tail = 0 then !x.phase else x.phase, armed := if raise then false else x.armed }
          let s3 := if raise then s2.emit (.msix c.val x.vector) else s2
          match r.drawn with
          | t :: rest => .next (s3.deliver e.1 r t rest (s.model c.val (reqModel r.desc)))
          | [] => .next ((s3.setRequest e.1 { r with endDue := false, cancels := [] }).completeRefs r.cancels stOk)
  | _, _ => .next s

/-- STREAM_HEAD (R371). -/
def execStreamHead (fn : Fn) (stream : StreamNo) (value : BitVec 16) (s : State) : Host.Outcome State Fault Refusal :=
  s.doorbell fn.val (0x1000 + 4 * stream.val) (.streamHead fn stream value) fun s =>
    match s.stream fn.val stream.val with
    | none => s
    | some x => if 2 ^ x.order ≤ value.toNat then s
      else (s.setStream fn.val stream.val { x with head := value.toNat, armed := true }).rung fn.val

/-- The cap has been binding since this Tide (R561). -/
def State.capBoundSince (s : State) (tide : Nat) : Bool :=
  s.limits.capBinding || (match s.limits.bindAt with | some b => decide (tide ≤ b.2) | none => false)

/-- REQUEST_FREE (Table 9-6): table destroyed, prompt pages released, adapter pin released. -/
def execRequestFree (req : Fin 8192) (s : State) : Host.Outcome State Fault Refusal :=
  if !s.clocked then .next s else
  match s.request req.val with
  | none => .next s
  | some r =>
    if r.state = .ending ∧ r.endDue = false ∧ r.drawn.isEmpty ∧ r.inFlight = false then
      let s1 := (s.rollbackAll r).kvRemove r.table
      let s2 := match r.draftTable with | some t => s1.kvRemove t | none => s1
      let s3 := r.frames.foldl State.unref s2
      let s4 := { s3 with serving := { s3.serving with requests := s3.serving.requests.del req.val } }
      -- R561: it missed its deadline while the cap was binding
      .next (if r.deadlineMissed && s4.capBoundSince r.admitTide then s4.bump 0x211002 else s4)
    else .next s

/-- REQUEST_DEADLINE_MISSED (R368). -/
def execRequestDeadlineMissed (dt : Nat) (req : Fin 8192) (s0 : State) : Host.Outcome State Fault Refusal :=
  if !s0.clocked then .next (s0.elapse dt) else
  let s := s0.elapse dt
  match s.request req.val with
  | none => .next s
  | some r =>
    let d := reqDeadline r.desc
    if d ≠ 0 ∧ d < s.tideNat ∧ r.state ≠ .ending ∧ r.deadlineMissed = false then
      .next ((s.setRequest req.val { r with deadlineMissed := true }).bump 0x640003)
    else .next s

/-- NO_MEMORY_TIMEOUT (R383). -/
def execNoMemoryTimeout (dt : Nat) (req : Fin 8192) (s0 : State) : Host.Outcome State Fault Refusal :=
  if !s0.clocked then .next (s0.elapse dt) else
  let s := s0.elapse dt
  match (s.request req.val).bind fun r => r.noMemSince.map fun t => (r, t) with
  | none => .next s
  | some (r, t) =>
    if t + 100000000 ≤ s.now ∧ (r.state = .waiting ∨ r.state = .prefill ∨ r.state = .decode) ∧ r.inFlight = false then
      .next (s.endRequest req.val stNoMemory 5 true)
    else .next s

end Sys2Proof.Machine
end

