-- ==== Sys2Proof/Machine/Video.lean ====
section
/-! DEFINITION. Video decode (10_video_engines.md R396 to R425). The decoding processes of HEVC, AVC and AV1 are those of their standards: what they give for an access unit enters as the command's outcome. -/

namespace Sys2Proof.Machine

def State.decSession (s : State) (c n : Nat) : Option DecSession := s.video.dec.look (c * 128 + n)
def State.setDec (s : State) (c n : Nat) (x : DecSession) : State := { s with video := { s.video with dec := s.video.dec.put (c * 128 + n) x } }

/-- Fields of the decode session descriptor (Table 10-5). -/
def dsEvent (d : BitVec 1024) : Nat := dField d 960 64
def dsOut (d : BitVec 1024) : Nat := dField d 896 64
def dsSignal (d : BitVec 1024) : Nat := dField d 832 64
def dsStride (d : BitVec 1024) : Nat := dField d 800 32
def dsInput (d : BitVec 1024) : Nat := dField d 768 32
def dsWidth (d : BitVec 1024) : Nat := dField d 752 16
def dsHeight (d : BitVec 1024) : Nat := dField d 736 16
def dsRefs (d : BitVec 1024) : Nat := dField d 731 5
def dsCount (d : BitVec 1024) : Nat := dField d 725 6
def dsOrder (d : BitVec 1024) : Nat := dField d 720 5
def dsVector (d : BitVec 1024) : Nat := dField d 715 5
def dsPriority (d : BitVec 1024) : Nat := dField d 712 3
def dsDrop (d : BitVec 1024) : Bool := d.getLsbD 711
def dsNoDamaged (d : BitVec 1024) : Bool := d.getLsbD 710
def dsTensor (d : BitVec 1024) : Bool := d.getLsbD 709
def dsDeep (d : BitVec 1024) : Bool := d.getLsbD 708
def dsCodec (d : BitVec 1024) : Nat := dField d 706 2

/-- Step 2 of R409: reserved bits and ranges. -/
def dsOk (d : BitVec 1024) : Bool :=
  let within (x lo hi : Nat) : Bool := decide (lo ≤ x) && decide (x ≤ hi)
  dField d 0 706 == 0 && dsEvent d % 4096 == 0 && dsOut d % 64 == 0 && dsSignal d % 8 == 0 && dsStride d % 64 == 0 &&
    within (dsInput d) (2 ^ 20) (2 ^ 28) && within (dsWidth d) 16 16384 && dsWidth d % 2 == 0 && within (dsHeight d) 16 16384 && dsHeight d % 2 == 0 &&
    within (dsRefs d) 1 16 && within (dsCount d) 1 32 && within (dsOrder d) 4 16 && (dsVector d == 0 || decide (8 ≤ dsVector d)) &&
    dsCodec d != 3

/-- Bytes per sample of the pool format and the pool's pitch (R413). -/
def dsBytes (d : BitVec 1024) : Nat := if dsDeep d then 2 else 1
def dsPitch (d : BitVec 1024) : Nat := roundUp (dsWidth d * dsBytes d) 64
/-- Bytes of a pool slot (R413). -/
def dsSlotBytes (d : BitVec 1024) : Nat := dsPitch d * dsHeight d * 3 / 2

/-- Fields of the tensor output header (Table 10-8), within the 320 bytes. -/
def toField (t : BitVec 2560) (lo n : Nat) : Nat := (t.extractLsb' lo n).toNat
def toDesc (t : BitVec 2560) : TDesc := t.extractLsb' 512 2048
def toMode (t : BitVec 2560) : Nat := toField t 0 2
def toAlign (t : BitVec 2560) : Bool := t.getLsbD 2
def toMatrix (t : BitVec 2560) : Nat := toField t 3 2
def toFull (t : BitVec 2560) : Bool := t.getLsbD 5
def toFromStream (t : BitVec 2560) : Bool := t.getLsbD 6
def toBgr (t : BitVec 2560) : Bool := t.getLsbD 7
def toCropX (t : BitVec 2560) : Nat := toField t 224 16
def toCropY (t : BitVec 2560) : Nat := toField t 240 16
def toCropW (t : BitVec 2560) : Nat := toField t 256 16
def toCropH (t : BitVec 2560) : Nat := toField t 272 16
def toMean (t : BitVec 2560) (c : Nat) : Val := decode32 (t.extractLsb' (288 + 32 * c) 32)
def toIstd (t : BitVec 2560) (c : Nat) : Val := decode32 (t.extractLsb' (384 + 32 * c) 32)

/-- Step 4 of R409: the tensor output descriptor under R423. -/
def tensorOutBad (d : BitVec 1024) (t : BitVec 2560) : Option Status :=
  let x := toDesc t
  let cw := if toCropW t = 0 then dsWidth d else toCropW t
  let ch := if toCropH t = 0 then dsHeight d else toCropH t
  let u8 := tFmt x = .uint8
  firstFail [
    ((Fmt.ofCode (tFormatCode x)).isNone || !fmtIn x [.bf16, .fp16, .fp32, .fp8e4m3, .fp8e5m2, .uint8], stBadSession),
    ((tLayout x == 1 || tLayout x == 2) && (tRank x != 4 || tStride x 5 != 0 || !blockedFormatOk (tLayout x) (tFmt x)), stBlockMismatch),
    (tReserved x || tensorFieldsBad x || tRank x != 4 || tDim x 0 != 3 || tDim x 3 != dsCount d || tKind x != 1 || tScaleMode x != 0 ||
      tCompress x != 0 || tSparse x, stBadSession),
    (toField t 480 32 != 0 || toField t 8 216 != 0 || toMode t == 3, stBadSession),
    ((List.range 3).any (fun c => !(toMean t c).isFinite || !(toIstd t c).isFinite), stBadSession),
    (u8 && (List.range 3).any (fun c => !(toMean t c).isZero || !((toIstd t c).eqv Val.one)), stBadSession),
    (toCropX t % 2 != 0 || toCropY t % 2 != 0 || decide (dsWidth d < toCropX t + cw) || decide (dsHeight d < toCropY t + ch), stBadSession),
    (toMode t == 2 && (toAlign t || decide (cw < tDim x 1) || decide (ch < tDim x 2)), stBadSession),
    (planeBoundsBad x 0 (tBase x) (tBufBytes x), stLengthBounds)]

/-- Sizes of frames that hold `n` granules: 16 MiB frames, then one for each bit of the rest. -/
def frameSizes (n : Nat) : List Nat :=
  List.replicate (n / 4096) 12 ++ ((List.range 12).filter fun k => bitOf n k)

/-- Take frames of these sizes for a context (R148). -/
def State.takeSizes (s : State) (c : Nat) : List Nat → List Nat → Option (State × List Nat)
  | [], acc => some (s, acc.reverse)
  | k :: ks, acc =>
    match s.takeFrame (.ctx c (s.ctx c).gen) none k 1 false with
    | none => none
    | some (s1, f) => State.takeSizes s1 c ks (f :: acc)

/-- Memory of `bytes` for a session in a context's pages: its frames, or the refusal (R409 step 7). [DEDUCED, unsafe, log entry 50] -/
def State.takeMemory (s : State) (c bytes : Nat) : Except Status (State × List Nat) :=
  let n := ceilDiv bytes granule
  if !s.quotaOk c n 0 then .error stQuotaExceeded
  else
    match s.takeSizes c (frameSizes n) [] with
    | none => .error stNoMemory
    | some r => .ok r

/-- The frames behind a CVA range, each once. -/
def State.rangeFrames (s : State) (c cva len : Nat) : List Nat :=
  let n := if len = 0 then 0 else (cva + len - 1) / granule - cva / granule + 1
  ((List.range n).filterMap fun i => (s.mapAt c (cva / granule + i)).map fun m => m.2.frame).eraseDups

/-- A frame would get more pins than a frame may have (R147): 255. -/
def State.pinFull (s : State) (l : List Nat) : Bool := l.any fun f => decide (255 < ((s.frame f).map (·.pins)).getD 0 + l.count f)

/-- Pin frames (R147). [DEDUCED, unsafe, log entry 50] -/
def State.pinFrames (s : State) (l : List Nat) : State := l.foldl (fun s f => s.modFrame f fun p => { p with pins := p.pins + 1 }) s
/-- Release pins; a frame that nothing holds any more passes on (R149). -/
def State.unpinFrames (s : State) (l : List Nat) : State :=
  l.foldl (fun s f => (s.modFrame f fun p => { p with pins := p.pins - 1 }).settleFrame f) s

/-- A new event ring (R416). -/
def newRing (cva order vector : Nat) : EventRing := ⟨cva, order, vector, 0, 0, true, true, []⟩

/-- The ranges that a decode session writes, which must be mapped and are pinned (R409 steps 5 and 6): address and length. -/
def dsRanges (d : BitVec 1024) (t : BitVec 2560) : List (Nat × Nat) :=
  [(dsEvent d, 32 * 2 ^ dsOrder d)] ++
    (if dsTensor d then [(tBase (toDesc t), tBufBytes (toDesc t))]
     else [(dsOut d, (dsCount d - 1) * dsStride d + dsSlotBytes d)]) ++
    (if dsSignal d = 0 then [] else [(dsSignal d, 8)])

/-- Sessions of a context in a store keyed by context · width + session. -/
def ownCount {α : Type} (m : Store α) (width c : Nat) : Nat := (m.filter fun e => e.1 / width == c).length

/-- VDEC_OPEN (R409). -/
def State.vdecOpen (s : State) (c n cva : Nat) : State × Status :=
  if (s.decSession c n).isSome then (s, stSessionBusy)
  else
    match s.readCvaN c none cva 128 with
    | none => (s, s.readFault c cva 128)
    | some bs =>
      let d : BitVec 1024 := BitVec.ofNat 1024 (leNat bs)
      if !dsOk d then (s, stBadSession)
      else if s.dictVal (0x411001 + c) ≤ ownCount s.video.dec 128 c ∨ 128 ≤ s.video.dec.length then (s, stSessionLimit)
      else
        let tb := if dsTensor d then s.readCvaN c none (dsOut d) 320 else some []
        let t : BitVec 2560 := BitVec.ofNat 2560 (leNat (tb.getD []))
        match if dsTensor d && tb.isSome then tensorOutBad d t else none with
        | some e => (s, e)
        | none =>
          let ranges := dsRanges d t
          if (!dsTensor d && decide (dsStride d < dsSlotBytes d)) || (tb.isSome && ranges.any fun r => decide (2 ^ 38 < r.1 + r.2)) then
            (s, stLengthBounds)
          else if tb.isNone || !ranges.all fun r => s.cvaMapped c r.1 r.2 then (s, stNotMapped)
          else
            match s.takeMemory c (dsInput d + (dsRefs d + 1) * (dsWidth d * dsHeight d * dsBytes d * 3 / 2)) with
            | .error e => (s, e)
            | .ok (s1, fs) =>
              let pins := ranges.flatMap fun r => s1.rangeFrames c r.1 r.2
              if s1.pinFull pins then (s, stRefLimit) else
              let x : DecSession :=
                { ctx := c, desc := d, tensor := t, queue := [], feed := none, ring := newRing (dsEvent d) (dsOrder d) (dsVector d)
                  slots := List.replicate (dsCount d) .free, lastSlot := dsCount d - 1, ready := [], core := none, started := 0, pts := 0
                  outputs := 0, pictures := 0, size := (0, 0), taint := false, skipping := false, lastStatus := 0, closing := none, discard := false
                  frames := fs, pins := pins }
              ((s1.pinFrames pins).setDec c n x, stOk)

/-- VDEC_OPEN (R409). -/
def execVdecOpen (fn : Fn) (q : Qn) (s : State) : Host.Outcome State Fault Refusal :=
  s.entryStart fn.val q.val 0x20 fun s e =>
    let r := s.vdecOpen fn.val (entField e.raw 224 7) (entField e.raw 448 64)
    r.1.runEntry fn.val q.val e r.2 0

/-- Bytes now in the input queue. -/
def DecSession.queued (x : DecSession) : Nat := (x.queue.map fun p => p.bytes.length).sum

/-- VDEC_FEED (R410): refused, or it waits for space. -/
def execVdecFeed (fn : Fn) (q : Qn) (s : State) : Host.Outcome State Fault Refusal :=
  s.entryStart fn.val q.val 0x21 fun s e =>
    let n := entField e.raw 224 7
    let bytes := entField e.raw 416 32
    match s.decSession fn.val n with
    | none => s.runEntry fn.val q.val e stNoSession 0
    | some x =>
      if x.closing.isSome then s.runEntry fn.val q.val e stNoSession 0
      else if x.feed.isSome then s
      else if dsInput x.desc < bytes then s.runEntry fn.val q.val e stLengthBounds 0
      else if !s.cvaMapped fn.val (entField e.raw 448 64) bytes then s.runEntry fn.val q.val e stNotMapped 0
      else (s.startEntry fn.val q.val e.id .running).setDec fn.val n { x with feed := some (e.raw, ⟨fn.val, q.val, e.id⟩) }

/-- A due event of a session. -/
def EventRing.push (r : EventRing) (e : VideoEvent) : EventRing := { r with due := r.due ++ [e] }

/-- The end of a stream without bytes. -/
def endPiece : FeedPiece := ⟨[], 0, true, false⟩

/-- END_OF_STREAM is reached: nothing before it is left to decode or output (R412). The END record is due and the next byte begins a new stream. -/
def DecSession.endIfDrained (x : DecSession) : DecSession :=
  match x.queue with
  | p :: rest =>
    if p.bytes.isEmpty && p.endOfStream && x.core.isNone && x.ready.isEmpty then
      { x with queue := rest, skipping := false, taint := false, ring := x.ring.push ⟨4, 0, 0, 0, 0, x.pictures % 2 ^ 32, false, none⟩ }
    else if p.bytes.isEmpty && !p.endOfStream then { x with queue := rest }
    else x
  | [] => x

/-- VDEC_FEED_DONE (R410, R412): the queue has space for the whole buffer. A FEED that reached the session before its VDEC_CLOSE is still copied (R442); under DISCARD its bytes are dropped. -/
def execVdecFeedDone (c : Ctx) (n : DecNo) (s : State) : Host.Outcome State Fault Refusal :=
  if !s.clocked then .next s else
  match s.decSession c.val n.val with
  | none => .next s
  | some x =>
    match x.feed with
    | none => .next s
    | some (raw, r) =>
      let bytes := entField raw 416 32
      if dsInput x.desc < x.queued + bytes then .next s
      else
        let drop : List FeedPiece := if x.closing.isSome && !x.discard then [endPiece] else []
        match s.readCvaN c.val none (entField raw 448 64) bytes with
        | none => .next ((s.setDec c.val n.val { x with feed := none, queue := x.queue ++ drop }).completeEntry r.fn r.q r.id (s.readFault c.val (entField raw 448 64) bytes) 0)
        | some bs =>
          let piece : FeedPiece := ⟨bs, entField raw 320 64, raw.getLsbD 240, raw.getLsbD 241⟩
          let x1 := { x with feed := none, queue := x.queue ++ (if x.discard then [] else [piece]) ++ drop }
          .next ((s.setDec c.val n.val x1.endIfDrained).completeEntry r.fn r.q r.id stOk 0)

/-- VDEC_CLOSE (Table 10-3): DISCARD drops the queued input; without it the input ends behind what is queued and what a waiting FEED still brings. -/
def execVdecClose (fn : Fn) (q : Qn) (s : State) : Host.Outcome State Fault Refusal :=
  s.entryStart fn.val q.val 0x22 fun s e =>
    let n := entField e.raw 224 7
    match s.decSession fn.val n with
    | none => s.runEntry fn.val q.val e stNoSession 0
    | some x =>
      if x.closing.isSome then s.runEntry fn.val q.val e stNoSession 0
      else
        let discard := e.raw.getLsbD 240
        let queue : List FeedPiece := if discard then [] else if x.feed.isSome then x.queue else x.queue ++ [endPiece]
        (s.startEntry fn.val q.val e.id .running).setDec fn.val n { x with queue := queue, discard := discard, closing := some ⟨fn.val, q.val, e.id⟩ }

/-- Insert a picture in output order. -/
def insertReady (p : ReadyPicture) : List ReadyPicture → List ReadyPicture
  | [] => [p]
  | y :: ys => if p.pic.order < y.pic.order then p :: y :: ys else y :: insertReady p ys

/-- Take `n` bytes from the queue: the PTS of the piece that holds the first of them, and the rest (R410). -/
def takeQueue : Nat → List FeedPiece → List FeedPiece
  | _, [] => []
  | n, p :: ps =>
    if p.bytes.length ≤ n then
      if p.endOfStream then { p with bytes := [], discontinuity := false } :: ps else takeQueue (n - p.bytes.length) ps
    else { p with bytes := p.bytes.drop n, discontinuity := p.discontinuity && n == 0 } :: ps

/-- The first `n` bytes of the queue reach into a stretch that follows a discontinuity (R412). -/
def meetsDiscontinuity : Nat → List FeedPiece → Bool
  | _, [] => false
  | n, p :: ps => n != 0 && (p.discontinuity || (!p.endOfStream && meetsDiscontinuity (n - p.bytes.length) ps))

/-- Bytes of the stream before its end or the queue's. -/
def streamBytes : List FeedPiece → Nat
  | [] => 0
  | p :: ps => p.bytes.length + (if p.endOfStream then 0 else streamBytes ps)

/-- The decode session is startable for a unit (R404). [DEDUCED, unsafe, log entry 50; DESIGN CHOICE, safe, log entry 86] -/
def DecSession.startable (x : DecSession) (n : Nat) : Bool :=
  x.core.isNone && decide (0 < n) && decide (n ≤ streamBytes x.queue) && (dsDrop x.desc || x.slots.any (· == .free)) &&
    decide (x.ring.due.length + 1 ≤ 2 ^ x.ring.order - 1 - (x.ring.tail + 2 ^ x.ring.order - x.ring.head) % 2 ^ x.ring.order)

/-- The next of some keys in turn after `last`, cyclically. -/
def nextInTurn (last : Nat) (l : List Nat) : Option Nat := (l.find? fun k => decide (last < k)).orElse fun _ => l.head?

/-- The session a free core takes (R404): highest PRIORITY, then in turn. -/
def pickSession {α : Type} (turn : Store Nat) (base : Nat) (prio : α → Nat) (l : List (Nat × α)) : Option (Nat × α) :=
  let top := (l.map fun e => prio e.2).foldl max 0
  let best := l.filter fun e => prio e.2 == top
  (nextInTurn (turn.valAt 65535 (base + top)) (best.map (·.1))).bind fun k => best.find? fun e => e.1 == k

/-- Bytes of the whole access unit that heads a session's queue, if one does. -/
def unitOf (units : List DecUnit) (k : Nat) : Nat := ((units.find? fun u => u.ctx.val * 128 + u.session.val == k).map (·.bytes)).getD 0

/-- DECODE_PICTURE_START (R404, R398): the core clears its context-dependent state when the context changes. A unit behind a discontinuity falls under the taint rule (R412). -/
def execDecodePictureStart (dt : Nat) (core : DecCore) (units : List DecUnit) (s0 : State) : Host.Outcome State Fault Refusal :=
  if !s0.computeOpen || !s0.agentIssues 8 then .next (s0.elapse dt) else
  let s := s0.elapse dt
  let busy := s.video.dec.vals.any fun x => x.core == some core.val
  match if busy then none else pickSession s.video.turn 0 (fun x => dsPriority x.desc) (s.video.dec.filter fun e => e.2.startable (unitOf units e.1)) with
  | none => .next s
  | some (k, x) =>
    let n := unitOf units k
    let x1 := { x with
      core := some core.val, started := s.now, pts := ((x.queue.find? fun p => !p.bytes.isEmpty).map (·.pts)).getD 0
      taint := x.taint || meetsDiscontinuity n x.queue, queue := takeQueue n x.queue }
    let s1 := { s with video := { s.video with
      dec := s.video.dec.put k x1, coreCtx := s.video.coreCtx.put core.val x.ctx, turn := s.video.turn.put (dsPriority x.desc) k } }
    .next (s1.workStarts.strand (codecId core.val) 0x26 (some x.ctx) (k % 128))

/-- The status of a row of Table 10-7. -/
def faultStatus : StreamFault → Status
  | .truncated => stTruncated
  | .missingRef => stMissingRef
  | _ => stSyntaxError

/-- Table 10-1: the profiles of a codec with their bit depths, chroma formats and highest level. -/
def sequenceSupported (codec : Nat) (q : SequenceInfo) : Bool :=
  let depthIn (l : List Nat) : Bool := l.contains q.depth
  !q.otherTool &&
    match codec, q.profile with
    | 0, .main => depthIn [8] && q.chroma == 1 && decide (q.level ≤ 61)
    | 0, .main10 => depthIn [8, 10] && q.chroma == 1 && decide (q.level ≤ 61)
    | 0, .mainStill => depthIn [8] && q.chroma == 1 && decide (q.level ≤ 61)
    | 1, .constrainedBaseline => depthIn [8] && q.chroma == 1 && decide (q.level ≤ 52)
    | 1, .main => depthIn [8] && q.chroma == 1 && decide (q.level ≤ 52)
    | 1, .high => depthIn [8] && decide (q.chroma ≤ 1) && decide (q.level ≤ 52)
    | 2, .main => depthIn [8, 10] && decide (q.chroma ≤ 1) && decide (q.level ≤ 60)
    | _, _ => false

/-- The sequence exceeds the session's maxima (Table 10-7) or those of any picture (R400). -/
def beyondSession (d : BitVec 1024) (q : SequenceInfo) : Bool :=
  decide (dsWidth d < q.width) || decide (dsHeight d < q.height) || decide (35651584 < q.width * q.height) || decide (dsRefs d < q.refs) ||
    (!dsDeep d && decide (8 < q.depth))

/-- A core ends its picture (R399, R419 to R421). [DEDUCED, unsafe, log entry 50; DESIGN CHOICE, safe, log entry 86] -/
def State.endPicture (s : State) (core : Nat) (timeout : Bool) (o : DecodeOutcome) : State :=
  match s.video.dec.find? fun e => e.2.core == some core with
  | none => s
  | some (k, x) =>
    let limit := beyondSession x.desc o.sequence
    let unsupported := !sequenceSupported (dsCodec x.desc) o.sequence
    let faults : List (Status × Nat) := o.faults.map (fun f => (faultStatus f.1, f.2)) ++ (if limit then [(stStreamLimit, 0)] else []) ++
      (if unsupported then [(stUnsupportedStream, 0)] else []) ++ (if timeout then [(stPictureTimeout, 0)] else [])
    let report := s.dictVal 0x410002 == 1
    let ring := if report then faults.foldl (fun (r : EventRing) (f : Status × Nat) => r.push ⟨6, x.pts, x.outputs, f.1, 0, f.2 % 2 ^ 32, false, none⟩) x.ring else x.ring
    let damaged := timeout || !o.concealed.isEmpty || o.faults.any fun f => f.1 == .sliceData || f.1 == .sliceHeader || f.1 == .truncated
    let missing := o.faults.any fun f => f.1 == .missingRef
    let x1 := { x with core := none, ring := ring, lastStatus := ((faults.getLast?).map (fun f : Status × Nat => f.1)).getD x.lastStatus }
    let x2 :=
      if limit || unsupported then { x1 with skipping := true }
      else
        match o.picture with
        | none => x1
        | some p =>
          if x1.skipping && !p.randomAccess then x1
          else
            let tainted := x1.taint && !p.randomAccess
            let r : ReadyPicture := ⟨p, o.sequence, x.pts, damaged, tainted || missing, o.concealed⟩
            { x1 with
              skipping := false, taint := tainted || damaged || missing
              ready := if p.shown then insertReady r x1.ready else x1.ready }
    let s1 := { s with video := { s.video with dec := s.video.dec.put k x2.endIfDrained } }
    let s2 := ((s1.bumpBy 0x650002 o.concealed.length).bumpBy 0x650003 faults.length).bumpBy 0x650005 o.discarded
    if timeout then s2.bump 0x650004 else s2

/-- DECODE_PICTURE_DONE (R419 to R421). -/
def execDecodePictureDone (dt : Nat) (core : DecCore) (outcome : DecodeOutcome) (s0 : State) : Host.Outcome State Fault Refusal :=
  if !s0.clocked then .next (s0.elapse dt) else
  .next ((s0.elapse dt).endPicture core.val false outcome)

/-- The time budget of a picture in ns (R418): max(2 ms, factor · MAX_WIDTH · MAX_HEIGHT / 125 M/s). -/
def State.pictureBudget (s : State) (x : DecSession) : Nat :=
  max 2000000 (s.dictVal 0x410001 * dsWidth x.desc * dsHeight x.desc * 8)

/-- PICTURE_TIMEOUT (R418): the picture is ended, the rest concealed. -/
def execPictureTimeout (dt : Nat) (core : DecCore) (outcome : DecodeOutcome) (s0 : State) : Host.Outcome State Fault Refusal :=
  if !s0.clocked then .next (s0.elapse dt) else
  let s := s0.elapse dt
  match s.video.dec.find? fun e => e.2.core == some core.val with
  | none => .next s
  | some (_, x) => if x.started + s.pictureBudget x < s.now then .next (s.endPicture core.val true outcome) else .next s

/-- Rows of two fields in turn. -/
def interleaveRows (n : Nat) (top bottom : List Nat) : List Nat :=
  ((chunks n (top.length / n) top).zip (chunks n (bottom.length / n) bottom)).flatMap fun x => x.1 ++ x.2

/-- Two fields as a frame (R400). -/
def interleave (top bottom : Planes) : Planes :=
  ⟨top.width, top.height + bottom.height, interleaveRows top.width top.luma bottom.luma, interleaveRows (2 * ceilDiv top.width 2) top.chroma bottom.chroma⟩

/-- The frame that is output (R400): a complementary field pair interleaved, an unpaired field with each of its rows repeated. -/
def formFrame : CodedForm → Planes
  | .frame p => p
  | .pair top bottom => interleave top bottom
  | .field p => interleave p p

/-- A damaged 16 × 16 block takes the co-located samples of the first reference, or 2^(B − 1) in all planes without one (R420). -/
def concealPlanes (p : Planes) (depth : Nat) (ref : Option Planes) (blocks : List Nat) : Planes :=
  let cols := ceilDiv p.width 16
  let bad (x y : Nat) : Bool := blocks.contains (y / 16 * cols + x / 16)
  let grey := 2 ^ (depth - 1)
  let from' (f : Planes → List Nat) (i : Nat) : Nat := (ref.bind fun r => (f r)[i]?).getD grey
  let cw := 2 * ceilDiv p.width 2
  { p with
    luma := p.luma.zipIdx.map fun v => if bad (v.2 % p.width) (v.2 / p.width) then from' (·.luma) v.2 else v.1
    chroma := p.chroma.zipIdx.map fun v => if bad (v.2 % cw / 2 * 2) (v.2 / cw * 2) then from' (·.chroma) v.2 else v.1 }

/-- What a picture's output shows: film grain in a pool output only (R400), damaged blocks concealed. -/
def ReadyPicture.planes (r : ReadyPicture) (pool : Bool) : Planes :=
  let clean := formFrame r.pic.image
  concealPlanes (if pool then r.pic.grained.getD clean else clean) r.seq.depth r.pic.firstRef r.blocks

/-- A luma sample, and the chroma pair of a position (R424: 4:0:0 takes 2^(B−1)). -/
def lumaAt (p : Planes) (x y : Nat) : Nat := (p.luma[y * p.width + x]?).getD 0
def chromaAt (q : SequenceInfo) (p : Planes) (c x y : Nat) : Nat :=
  if q.chroma = 0 then 2 ^ (q.depth - 1) else (p.chroma[(y / 2 * (ceilDiv p.width 2) + x / 2) * 2 + c]?).getD 0

/-- A sample as the pool stores it (R413). -/
def poolSample (deep : Bool) (depth v : Nat) : List Byte := if deep then leBytes 2 (v * 2 ^ (16 - depth)) else leBytes 1 v

/-- Write a picture into a pool slot (R413): positions outside it are not written. -/
def State.writePool (s : State) (x : DecSession) (slot : Nat) (q : SequenceInfo) (p : Planes) : State :=
  let base := dsOut x.desc + slot * dsStride x.desc
  let pitch := dsPitch x.desc
  let cbase := base + pitch * dsHeight x.desc
  let luma := (List.range p.height).foldl (fun s y =>
    s.storeCva x.ctx (base + y * pitch) ((List.range p.width).flatMap fun i => poolSample (dsDeep x.desc) q.depth (lumaAt p i y))) s
  (List.range (ceilDiv p.height 2)).foldl (fun s y =>
    s.storeCva x.ctx (cbase + y * pitch) ((List.range (ceilDiv p.width 2)).flatMap fun i =>
      poolSample (dsDeep x.desc) q.depth (chromaAt q p 0 (2 * i) (2 * y)) ++ poolSample (dsDeep x.desc) q.depth (chromaAt q p 1 (2 * i) (2 * y)))) luma

/-- R, G, B of a pixel of bit depth B, clamped (R424 step 2, R263). -/
def pixelRgb (matrix : Nat) (full : Bool) (depth y cb cr : Nat) : List Val :=
  let n (k : Nat) : Val := round32 (Val.ofNat k)
  let e := 2 ^ (depth - 8)
  let yn := if full then (fdiv (n y) (n (2 ^ depth - 1))).1 else (fdiv (fsub (n y) (n (16 * e))).1 (n (219 * e))).1
  let ch (v : Nat) : Val := (fdiv (fsub (n v) (n (2 ^ (depth - 1)))).1 (if full then n (2 ^ depth - 1) else n (224 * e))).1
  let cbn := ch cb
  let crn := ch cr
  let k := matrixK matrix
  let kg := (fsub (fsub Val.one k.1).1 k.2).1
  let ir := (fsub Val.one k.1).1
  let ib := (fsub Val.one k.2).1
  let r := (fadd yn (fmul (fmul (n 2) ir).1 crn).1).1
  let gb := (fdiv (fmul (fmul (n 2) k.2).1 ib).1 kg).1
  let gr := (fdiv (fmul (fmul (n 2) k.1).1 ir).1 kg).1
  let g := (fsub (fsub yn (fmul gb cbn).1).1 (fmul gr crn).1).1
  let b := (fadd yn (fmul (fmul (n 2) ib).1 cbn).1).1
  [r, g, b].map (clampVal Val.zero Val.one)

/-- The matrix of the stream (R425): 0 BT.601, 1 BT.709, 2 BT.2020. -/
def streamMatrix : Option Nat → Nat
  | some 5 => 0
  | some 6 => 0
  | some 9 => 2
  | _ => 1

/-- One channel of one element of the tensor output (R424). -/
def tensorElem (t : BitVec 2560) (q : SequenceInfo) (p : Planes) (idx : List Nat) : Read :=
  let d := toDesc t
  let c := idx.headD 0
  let x := (idx[1]?).getD 0
  let y := (idx[2]?).getD 0
  let ch := if toBgr t then 2 - c else c
  let matrix := if toMatrix t = 3 then streamMatrix q.matrix else toMatrix t
  let full := if toFromStream t then q.fullRange else toFull t
  let x0 := min (toCropX t) (p.width - 1)
  let y0 := min (toCropY t) (p.height - 1)
  let w := min (if toCropW t = 0 then p.width else toCropW t) (p.width - x0)
  let h := min (if toCropH t = 0 then p.height else toCropH t) (p.height - y0)
  let px (i j : Nat) : Val :=
    ((pixelRgb matrix full q.depth (lumaAt p (x0 + i) (y0 + j)) (chromaAt q p 0 (x0 + i) (y0 + j)) (chromaAt q p 1 (x0 + i) (y0 + j)))[ch]?).getD Val.zero
  let w' := tDim d 1
  let h' := tDim d 2
  let u := resizeCoord (toAlign t) x w w'
  let v := resizeCoord (toAlign t) y h h'
  let val : Val :=
    match toMode t with
    | 0 =>
      let near (z : Val) (n : Nat) : Nat := clampIdx (fadd z (decVal 1 2)).1.floorInt n
      px (near u w) (near v h)
    | 1 =>
      let bx := bilinear u w
      let byy := bilinear v h
      let f1 := (fsub Val.one bx.2.2).1
      let g1 := (fsub Val.one byy.2.2).1
      let t0 := (fmul (fmul f1 g1).1 (px bx.1 byy.1)).1
      let t1 := (fmul (fmul bx.2.2 g1).1 (px bx.2.1 byy.1)).1
      let t2 := (fmul (fmul f1 byy.2.2).1 (px bx.1 byy.2.1)).1
      let t3 := (fmul (fmul bx.2.2 byy.2.2).1 (px bx.2.1 byy.2.1)).1
      (fadd (fadd (fadd t0 t1).1 t2).1 t3).1
    | _ =>
      let sum := (areaTerms x y w h w' h').foldl (fun a t => (fadd a (fmul (px t.1.1 t.1.2) t.2).1).1) Val.zero
      (fdiv sum (areaScale w h w' h')).1
  if tFmt d = .uint8 then some (clampVal Val.zero (Val.ofNat 255) (fmul (Val.ofNat 255) val).1, 0)
  else some ((fmul (fsub val (toMean t c)).1 (toIstd t c)).1, 0)

/-- Write a picture into image `slot` of the tensor (R423, R424). -/
def State.writeTensor (s : State) (x : DecSession) (slot : Nat) (q : SequenceInfo) (p : Planes) : State :=
  let d := toDesc x.tensor
  let v : TView := ⟨d, tBase d, 0, 0, 0⟩
  let outers := (allIdx ((tStored d).drop 1)).filter fun o => o.getLast? == some slot
  (s.storeRows ⟨x.ctx, none⟩ v .rne false (tensorElem x.tensor q p) outers ⟨s, 0, false, none⟩).state

/-- A free slot after the last one used, in turn (R414, R415). [DEDUCED, unsafe, log entry 50] -/
def DecSession.freeSlot (x : DecSession) : Option Nat :=
  let n := x.slots.length
  ((List.range n).map fun i => (x.lastSlot + 1 + i) % n).find? fun i => x.slots[i]? == some .free

/-- FLAGS of a picture's record (Table 10-6). -/
def readyFlags (r : ReadyPicture) : Nat :=
  (if r.concealed then 0x80 else 0) + (if r.derived then 0x40 else 0) + (if r.pic.randomAccess then 0x20 else 0)

/-- DECODE_OUTPUT (R413 to R415, R421). -/
def execDecodeOutput (c : Ctx) (n : DecNo) (s : State) : Host.Outcome State Fault Refusal :=
  if !s.clocked then .next s else
  match s.decSession c.val n.val with
  | none => .next s
  | some x =>
    match x.ready with
    | [] => .next s
    | r :: rest =>
      let drop (x : DecSession) : State :=
        let x1 := { x with
          ready := rest, outputs := x.outputs + 1, ring := x.ring.push ⟨2, r.pts, x.outputs, 0, readyFlags r, 0, false, none⟩ }
        (s.setDec c.val n.val x1.endIfDrained).bump 0x650006
      if dsNoDamaged x.desc && (r.concealed || r.derived) then .next (drop x)
      else
        match x.freeSlot with
        | none => if dsDrop x.desc then .next ((drop x).bump 0x650003) else .next s
        | some slot =>
          let shown := r.planes (!dsTensor x.desc)
          let s1 := if dsTensor x.desc then s.writeTensor x slot r.seq shown else s.writePool x slot r.seq shown
          let size := (shown.width, shown.height)
          let ring1 := if x.size = size then x.ring
            else x.ring.push ⟨5, r.pts, x.outputs, 0, 0, shown.width * 2 ^ 16 + shown.height, false, none⟩
          let count := x.pictures + 1
          let s2 := if dsSignal x.desc = 0 then s1
            else (List.range 8).foldl (fun s k => s.testWait c.val k) (s1.storeCva c.val (dsSignal x.desc) (leBytes 8 count))
          let x1 := { x with
            ready := rest, outputs := x.outputs + 1, pictures := count, size := size, lastSlot := slot, slots := x.slots.set slot .module
            ring := ring1.push ⟨1, r.pts, x.outputs, 0, readyFlags r, slot * 2 ^ 26 + r.blocks.length % 2 ^ 26, false, some slot⟩ }
          .next ((s2.setDec c.val n.val x1.endIfDrained).bump 0x650001)

/-- VDEC_CLOSE_DONE: once everything is output and written, the END record with LAST = 1 is written and the resources are released (Table 10-3). -/
def State.closeDecode (s : State) (c n : Nat) (x : DecSession) : State :=
  let s1 := x.frames.foldl State.unref { s with video := { s.video with dec := s.video.dec.del (c * 128 + n) } }
  s1.unpinFrames x.pins

/-- An event record (Table 10-6). -/
def eventRecord (tide : Nat) (e : VideoEvent) (phase : Bool) : Nat :=
  tide * 2 ^ 192 + e.pts % 2 ^ 64 * 2 ^ 128 + e.seq % 2 ^ 32 * 2 ^ 96 + e.status.toNat * 2 ^ 80 + e.kind * 2 ^ 72 + e.flags * 2 ^ 64 +
    e.info % 2 ^ 32 * 2 ^ 32 + (if e.last then 2 else 0) + (if phase then 1 else 0)

/-- Write the next due record of a ring (R416): the ring after it, or none when there is none or no space. -/
def State.writeEvent (s : State) (c : Nat) (r : EventRing) : Option (State × EventRing × VideoEvent) :=
  match r.due with
  | [] => none
  | e :: rest =>
    let size := 2 ^ r.order
    if size - 1 ≤ (r.tail + size - r.head) % size then none
    else
      let s1 := s.storeCva c (r.cva + r.tail * 32) (leBytes 32 (eventRecord s.tideNat e r.phase))
      let tail := (r.tail + 1) % size
      let raise := r.vector != 0 && r.armed
      let r1 := { r with due := rest, tail := tail, phase := if tail = 0 then !r.phase else r.phase, armed := if raise then false else r.armed }
      some (if raise then s1.emit (.msix c r.vector) else s1, r1, e)

/-- VDEC_CLOSE_DONE. -/
def execVdecCloseDone (c : Ctx) (n : DecNo) (s : State) : Host.Outcome State Fault Refusal :=
  if !s.clocked then .next s else
  match s.decSession c.val n.val with
  | none => .next s
  | some x =>
    match x.closing with
    | none => .next s
    | some r =>
      if x.core.isSome || !x.ready.isEmpty || x.feed.isSome || streamBytes x.queue != 0 || !x.ring.due.isEmpty then .next s
      else
        match s.writeEvent c.val (x.ring.push ⟨4, 0, 0, 0, 0, x.pictures % 2 ^ 32, true, none⟩) with
        | none => .next s
        | some (s1, ring, _) => .next (((s1.setDec c.val n.val { x with ring := ring }).closeDecode c.val n.val x).completeEntry r.fn r.q r.id stOk 0)

end Sys2Proof.Machine
end

