-- ==== Sys2Proof/Machine/Motion.lean ====
section
/-! DEFINITION. Motion search and the picture copies it works on (10_video_engines.md R428, R431). -/

namespace Sys2Proof.Machine

/-- Fields of the encode session descriptor (Table 10-9). -/
def esField (d : BitVec 2048) (lo n : Nat) : Nat := (d.extractLsb' lo n).toNat
def esWidth (d : BitVec 2048) : Nat := esField d 1712 16
def esHeight (d : BitVec 2048) : Nat := esField d 1696 16
def esProfile (d : BitVec 2048) : Nat := esField d 1615 2

/-- Bytes per source sample, block size, block columns and rows. -/
def esBytes (d : BitVec 2048) : Nat := if esProfile d = 1 then 2 else 1
def esBlock (d : BitVec 2048) : Nat := if esProfile d = 2 then 16 else 32
def esCols (d : BitVec 2048) : Nat := ceilDiv (esWidth d) (esBlock d)
def esRows (d : BitVec 2048) : Nat := ceilDiv (esHeight d) (esBlock d)

/-- Rows of a plane of `n` bytes each, without what lies between them. -/
def cropRows (pitch n rows : Nat) (bs : List Byte) : List Byte := (List.range rows).flatMap fun y => (bs.drop (y * pitch)).take n

/-- An index held within a size: edge samples repeat (R428). -/
def edge (i : Int) (n : Nat) : Nat := (min (max i 0) ((n : Int) - 1)).toNat

/-- A luma sample of a source, its edge samples repeated beyond it (R428): P010 carries the value in bits [15:6]. -/
def sourceLuma (d : BitVec 2048) (source : List Byte) (x y : Int) : Nat :=
  let at' := (edge y (esHeight d) * esWidth d + edge x (esWidth d)) * esBytes d
  if esBytes d = 2 then leNat ((source.drop at').take 2) / 64 else leNat ((source.drop at').take 1)

/-- Columns and rows of a copy at 1/`n` resolution of the block grid. -/
def levelCols (d : BitVec 2048) (n : Nat) : Nat := esCols d * esBlock d / n
def levelRows (d : BitVec 2048) (n : Nat) : Nat := esRows d * esBlock d / n

/-- A copy of a source's luma at 1/`n` resolution. -/
def reduced (d : BitVec 2048) (source : List Byte) (n : Nat) : List Nat :=
  (List.range (levelRows d n)).flatMap fun y => (List.range (levelCols d n)).map fun x =>
    Config.pyramidSample ((List.range (n * n)).map fun i => sourceLuma d source ((x * n + i % n : Nat) : Int) ((y * n + i / n : Nat) : Int))

/-- Pyramid (R431 step 1). -/
def pyramidOf (d : BitVec 2048) (source : List Byte) : Pyramid := ⟨reduced d source 2, reduced d source 4⟩

/-- A sample of a copy at 1/`n` resolution, edges repeated. -/
def levelAt (d : BitVec 2048) (n : Nat) (l : List Nat) (x y : Int) : Nat :=
  (l[edge y (levelRows d n) * levelCols d n + edge x (levelCols d n)]?).getD 0

/-- The copy at 1/`n` resolution of a pyramid, n = 2 or 4. -/
def Pyramid.level (p : Pyramid) (n : Nat) : List Nat := if n = 2 then p.half else p.quarter

/-- Sum of absolute differences of the `b` × `b` block at (x, y) between two pictures, the second displaced by (dx, dy). -/
def sad (cur ref : Int → Int → Nat) (b : Nat) (x y dx dy : Int) : Nat :=
  ((List.range (b * b)).map fun i =>
    let px := x + (i % b : Nat)
    let py := y + (i / b : Nat)
    ((cur px py : Int) - ref (px + dx) (py + dy)).natAbs).sum

/-- Displacements from −w to w and −h to h. -/
def offsets (w h : Nat) : List (Int × Int) :=
  (List.range (2 * h + 1)).flatMap fun (j : Nat) => (List.range (2 * w + 1)).map fun (i : Nat) => (Int.ofNat i - Int.ofNat w, Int.ofNat j - Int.ofNat h)

/-- The `n` displacements of least cost, the earlier of equal ones first. -/
def bestOf (n : Nat) (cost : Int × Int → Nat) (l : List (Int × Int)) : List (Int × Int) :=
  ((sortBy (fun a b => decide (a.1 < b.1)) (l.eraseDups.map fun v => (cost v, v))).map (·.2)).take n

/-- A reference sample at a quarter-sample position. -/
def refQuarter (d : BitVec 2048) (ref : RefPicture) (x4 y4 : Int) : Nat :=
  let at' (x y : Int) : Nat := Config.reconSample d ref.coded (edge x (esWidth d)) (edge y (esHeight d))
  let x := x4.fdiv 4
  let y := y4.fdiv 4
  let fx := (x4 - 4 * x).toNat
  let fy := (y4 - 4 * y).toNat
  if fx = 0 ∧ fy = 0 then at' x y
  else Config.quarterSample (esProfile d == 2) ((List.range 64).map fun i => at' (x - 3 + (i % 8 : Nat)) (y - 3 + (i / 8 : Nat))) fx fy

/-- A vector within the bounds of R431: −256 to +255.75 horizontally, −128 to +127.75 vertically. -/
def MotionVector.bounded (x y : Int) : MotionVector := ⟨min (max x (-1024)) 1023, min (max y (-512)) 511⟩

/-- Search the motion of block (bx, by) against a reference (R431 steps 2 to 5): `centers` are the vectors of the left neighbour and of the co-located block of the previous picture. -/
def searchBlock (d : BitVec 2048) (source : List Byte) (pyr : Pyramid) (ref : RefPicture) (bx by' : Nat) (centers : List MotionVector) : MotionVector :=
  let b := esBlock d
  let x : Int := (bx * b : Nat)
  let y : Int := (by' * b : Nat)
  let level (n : Nat) (v : Int × Int) : Nat :=
    sad (levelAt d n (pyr.level n)) (levelAt d n (ref.pyramid.level n)) (b / n) (x / n) (y / n) v.1 v.2
  let around (w h : Nat) (l : List (Int × Int)) : List (Int × Int) := l.flatMap fun c => (offsets w h).map fun o => (c.1 + o.1, c.2 + o.2)
  let double (l : List (Int × Int)) : List (Int × Int) := l.map fun v => (2 * v.1, 2 * v.2)
  let quarter := bestOf 4 (level 4) (around 32 16 ((0, 0) :: centers.map fun m => (m.x.fdiv 16, m.y.fdiv 16)))
  let half := bestOf 1 (level 2) (around 4 4 (double quarter))
  let cost (v : Int × Int) : Nat :=
    sad (fun i j => sourceLuma d source i j) (fun i j => refQuarter d ref (4 * i + v.1) (4 * j + v.2)) b x y 0 0
  let full := bestOf 1 (fun v => cost (4 * v.1, 4 * v.2)) (around 2 2 (double half))
  let halfSample := bestOf 1 cost ((full.map fun v => (4 * v.1, 4 * v.2)).flatMap fun c => (offsets 1 1).map fun o => (c.1 + 2 * o.1, c.2 + 2 * o.2))
  let quarterSample := bestOf 1 cost (around 1 1 halfSample)
  match quarterSample with
  | v :: _ => MotionVector.bounded v.1 v.2
  | [] => ⟨0, 0⟩

/-- Motion of every block in raster order against every reference in use (R431). `before`: the vectors of the previous picture. -/
def searchPicture (d : BitVec 2048) (source : List Byte) (pyr : Pyramid) (refs : List RefPicture) (before : List (List MotionVector)) : List (List MotionVector) :=
  (List.range (esCols d * esRows d)).foldl (fun acc i =>
    let left : List MotionVector := if i % esCols d = 0 then [] else (acc.getLast?).getD []
    let old : List MotionVector := (before[i]?).getD []
    acc ++ [refs.zipIdx.map fun r => searchBlock d source pyr r.1 (i % esCols d) (i / esCols d) ((left[r.2]?).toList ++ (old[r.2]?).toList)]) []

end Sys2Proof.Machine
end

