-- ==== Sys2Proof/Machine/VideoEncode.lean ====
section
/-! DEFINITION. Video encode, the video doorbells and the event records (10_video_engines.md R406, R407, R416, R426 to R441). What the encoder codes is a function of what R434 names, which the spec does not give: Config's; R435, R436 and R439 bound it. -/

namespace Sys2Proof.Machine

def State.encSession (s : State) (c n : Nat) : Option EncSession := s.video.enc.look (c * 32 + n)
def State.setEnc (s : State) (c n : Nat) (x : EncSession) : State := { s with video := { s.video with enc := s.video.enc.put (c * 32 + n) x } }

/-- Fields of the encode session descriptor (Table 10-9). -/
def esEvent (d : BitVec 2048) : Nat := esField d 1984 64
def esOut (d : BitVec 2048) : Nat := esField d 1920 64
def esOutBytes (d : BitVec 2048) : Nat := esField d 1888 32
def esBitrate (d : BitVec 2048) : Nat := esField d 1856 32
def esMaxBitrate (d : BitVec 2048) : Nat := esField d 1824 32
def esCpbBits (d : BitVec 2048) : Nat := esField d 1792 32
def esDelay (d : BitVec 2048) : Nat := esField d 1760 32
def esFpsNum (d : BitVec 2048) : Nat := esField d 1744 16
def esFpsDen (d : BitVec 2048) : Nat := esField d 1728 16
def esGop (d : BitVec 2048) : Nat := esField d 1680 16
def esQpI (d : BitVec 2048) : Nat := esField d 1672 8
def esQpP (d : BitVec 2048) : Nat := esField d 1664 8
def esQpMin (d : BitVec 2048) : Nat := esField d 1656 8
def esQpMax (d : BitVec 2048) : Nat := esField d 1648 8
def esSliceRows (d : BitVec 2048) : Nat := esField d 1640 8
def esRefs (d : BitVec 2048) : Nat := esField d 1636 4
def esLongRefs (d : BitVec 2048) : Nat := esField d 1632 4
def esOrder (d : BitVec 2048) : Nat := esField d 1627 5
def esVector (d : BitVec 2048) : Nat := esField d 1622 5
def esPriority (d : BitVec 2048) : Nat := esField d 1619 3
def esRcMode (d : BitVec 2048) : Nat := esField d 1617 2
def esLevel (d : BitVec 2048) : Nat := esField d 1607 8

/-- Slices of a picture. -/
def esSlices (d : BitVec 2048) : Nat := ceilDiv (esRows d) (esSliceRows d)
/-- Blocks of slice `j` (R438). -/
def esSliceBlocks (d : BitVec 2048) (j : Nat) : Nat := esCols d * min (esSliceRows d) (esRows d - j * esSliceRows d)
/-- Blocks of the slices after slice `j`. -/
def esBlocksAfter (d : BitVec 2048) (j : Nat) : Nat := esCols d * (esRows d - (j + 1) * esSliceRows d)

/-- The largest picture size and sample rate of a LEVEL. PRESUMED: Table A.8 of HEVC and Table A-1 of AVC, up to the levels of R401. HEVC: luma samples and samples per second; AVC: macroblocks and macroblocks per second. [PRESUMED, unsafe, log entry 51] -/
def levelLimits (avc : Bool) (level : Nat) : Option (Nat × Nat) :=
  if avc then
    match level with
    | 9 => some (99, 1485)
    | 10 => some (99, 1485)
    | 11 => some (396, 3000)
    | 12 => some (396, 6000)
    | 13 => some (396, 11880)
    | 20 => some (396, 11880)
    | 21 => some (792, 19800)
    | 22 => some (1620, 20250)
    | 30 => some (1620, 40500)
    | 31 => some (3600, 108000)
    | 32 => some (5120, 216000)
    | 40 => some (8192, 245760)
    | 41 => some (8192, 245760)
    | 42 => some (8704, 522240)
    | 50 => some (22080, 589824)
    | 51 => some (36864, 983040)
    | 52 => some (36864, 2073600)
    | _ => none
  else
    match level with
    | 30 => some (36864, 552960)
    | 60 => some (122880, 3686400)
    | 63 => some (245760, 7372800)
    | 90 => some (552960, 16588800)
    | 93 => some (983040, 33177600)
    | 120 => some (2228224, 66846720)
    | 123 => some (2228224, 133693440)
    | 150 => some (8912896, 267386880)
    | 153 => some (8912896, 534773760)
    | _ => none

/-- The picture size and rate lie within the limits of LEVEL (R427). -/
def levelOk (d : BitVec 2048) : Bool :=
  let avc := esProfile d == 2
  match levelLimits avc (esLevel d) with
  | none => false
  | some (size, rate) =>
    let w := if avc then ceilDiv (esWidth d) 16 else esWidth d
    let h := if avc then ceilDiv (esHeight d) 16 else esHeight d
    decide (w * h ≤ size) && decide (w * w ≤ 8 * size) && decide (h * h ≤ 8 * size) && decide (w * h * esFpsNum d ≤ rate * esFpsDen d)

/-- Step 2 of R409 with R427: reserved bits, ranges and level. [PRESUMED, unsafe, log entry 51] -/
def esOk (d : BitVec 2048) : Bool :=
  let within (x lo hi : Nat) : Bool := decide (lo ≤ x) && decide (x ≤ hi)
  let qpTop := if esProfile d = 1 then 63 else 51
  esField d 0 1607 == 0 && esEvent d % 4096 == 0 && esOut d % 4096 == 0 && within (esOutBytes d) (2 ^ 16) (2 ^ 30) && esOutBytes d % 4096 == 0 &&
    (esRcMode d != 2 || decide (esBitrate d ≤ esMaxBitrate d)) && decide (1 ≤ esFpsNum d) && decide (1 ≤ esFpsDen d) &&
    decide (esFpsNum d ≤ 240 * esFpsDen d) && within (esWidth d) 64 8192 && within (esHeight d) 64 8192 && esWidth d % 2 == 0 &&
    esHeight d % 2 == 0 && decide (esWidth d * esHeight d ≤ 8912896) && (esRcMode d != 0 || (decide (esQpI d ≤ qpTop) && decide (esQpP d ≤ qpTop))) &&
    decide (esQpMin d ≤ esQpMax d) && decide (esQpMax d ≤ qpTop) && decide (1 ≤ esSliceRows d) && within (esRefs d) 1 4 &&
    decide (esLongRefs d ≤ 2) && within (esOrder d) 4 16 && (esVector d == 0 || decide (8 ≤ esVector d)) && esRcMode d != 3 &&
    esProfile d != 3 && levelOk d

/-- The largest value not above `v` that hrd_parameters can signal with a mantissa of 32 bits and a scale of 0 to 15 over 2^`base` (R435; the syntax is that of Annex E of the standards, PRESUMED). [PRESUMED, unsafe, log entry 51] -/
def hrdValue (base v : Nat) : Nat :=
  match (List.range 16).find? fun e => decide (v / 2 ^ (base + e) ≤ 2 ^ 32 - 1) with
  | some e => v / 2 ^ (base + e) * 2 ^ (base + e)
  | none => (2 ^ 32 - 1) * 2 ^ (base + 15)

/-- R_s of an HRD rate in kbit/s, in bit/s. -/
def hrdRate (kbit : Nat) : Nat := hrdValue 6 (kbit * 1000)

/-- The HRD rate a descriptor names, in kbit/s (Table 10-9): BITRATE in CBR, MAX_BITRATE in VBR. -/
def esHrd (d : BitVec 2048) : Nat := if esRcMode d = 2 then esMaxBitrate d else esBitrate d

/-- One bit in the units of the rate model: 90,000 · FPS_NUM of them. -/
def bitUnit (d : BitVec 2048) : Nat := 90000 * esFpsNum d
/-- b as at open, R_s · tau, CPB_s in units (R435). -/
def initialFullness (d : BitVec 2048) (rate : Nat) : Nat := rate * esDelay d * esFpsNum d
def perPicture (d : BitVec 2048) (rate : Nat) : Nat := rate * esFpsDen d * 90000
def cpbUnits (d : BitVec 2048) : Nat := hrdValue 4 (esCpbBits d) * bitUnit d
/-- F_P and F_I in units (R435). -/
def fallbackP (d : BitVec 2048) : Nat := (2 * (esCols d * esRows d) + 1024 * esSlices d + 4096) * bitUnit d
def fallbackI (d : BitVec 2048) : Nat := (48 * (esCols d * esRows d) + 1024 * esSlices d + 4096) * bitUnit d

/-- HRD_INFEASIBLE of R427. -/
def hrdBad (d : BitVec 2048) (rate : Nat) : Bool :=
  esRcMode d != 0 &&
    (decide (perPicture d rate < fallbackP d) || decide (initialFullness d rate < fallbackI d) || decide (cpbUnits d < initialFullness d rate))

/-- VENC_OPEN (R426, R427). -/
def State.vencOpen (s : State) (c n cva : Nat) : State × Status :=
  if (s.encSession c n).isSome then (s, stSessionBusy)
  else
    match s.readCvaN c none cva 256 with
    | none => (s, s.readFault c cva 256)
    | some bs =>
      let d : BitVec 2048 := BitVec.ofNat 2048 (leNat bs)
      let rate := hrdRate (esHrd d)
      if !esOk d then (s, stBadSession)
      else if s.dictVal (0x412001 + c) ≤ ownCount s.video.enc 32 c ∨ 32 ≤ s.video.enc.length then (s, stSessionLimit)
      else if hrdBad d rate then (s, stHrdInfeasible)
      else
        let ranges := [(esEvent d, 32 * 2 ^ esOrder d), (esOut d, esOutBytes d)]
        if ranges.any fun r => decide (2 ^ 38 < r.1 + r.2) then (s, stLengthBounds)
        else if !ranges.all fun r => s.cvaMapped c r.1 r.2 then (s, stNotMapped)
        else
          let area := esCols d * esBlock d * (esRows d * esBlock d) * esBytes d
          match s.takeMemory c ((esRefs d + esLongRefs d + 1) * (area * 3 / 2) + area / 4 + area / 16) with
          | .error e => (s, e)
          | .ok (s1, fs) =>
            let pins := ranges.flatMap fun r => s1.rangeFrames c r.1 r.2
            if s1.pinFull pins then (s, stRefLimit) else
            let x : EncSession :=
              { ctx := c, desc := d, bitrate := esBitrate d, maxBitrate := esMaxBitrate d, rate := rate, nextRate := none
                fullness := initialFullness d rate, frames := [], coded := [], refs := [], pool := [], vectors := []
                sinceIdr := none, idrOwed := false, number := 0, current := none, core := none, ring := newRing (esEvent d) (esOrder d) (esVector d), outHead := 0, outTail := 0
                lastStatus := 0, closing := none, memory := fs, pins := pins }
            ((s1.pinFrames pins).setEnc c n x, stOk)

/-- VENC_OPEN (R426). -/
def execVencOpen (fn : Fn) (q : Qn) (s : State) : Host.Outcome State Fault Refusal :=
  s.entryStart fn.val q.val 0x23 fun s e =>
    let r := s.vencOpen fn.val (entField e.raw 224 5) (entField e.raw 448 64)
    r.1.runEntry fn.val q.val e r.2 0

/-- One region of interest breaks R430. -/
def roiBad (r : BitVec 128) : Bool :=
  let f (lo : Nat) : Nat := (r.extractLsb' lo 16).toNat
  let q : BitVec 8 := r.extractLsb' 64 8
  decide (f 32 ≤ f 0) || decide (f 48 ≤ f 16) || r.extractLsb' 73 55 != 0 ||
    (if r.getLsbD 72 then decide (51 < q.toNat) else decide (q.toInt < -12) || decide (12 < q.toInt))

/-- VENC_FRAME (R428 to R430, R431 step 1): a source or a list that cannot be used ends the entry with its status, and the picture is coded all the same. -/
def execVencFrame (fn : Fn) (q : Qn) (s : State) : Host.Outcome State Fault Refusal :=
  s.entryStart fn.val q.val 0x24 fun s e =>
    let n := entField e.raw 224 5
    let pitch := entField e.raw 240 16
    let count := entField e.raw 236 4
    match s.encSession fn.val n with
    | none => s.runEntry fn.val q.val e stNoSession 0
    | some x =>
      if x.closing.isSome then s.runEntry fn.val q.val e stNoSession 0
      else if pitch = 0 ∨ 1024 < pitch ∨ 8 < count then s.runEntry fn.val q.val e stBadEntry 0
      else
        let h := esHeight x.desc
        let y := s.readCvaN fn.val none (entField e.raw 448 64) (pitch * 64 * h)
        let c := s.readCvaN fn.val none (entField e.raw 384 64) (pitch * 64 * (h / 2))
        let source : Option (List Byte) :=
          if pitch * 64 < esWidth x.desc * esBytes x.desc then none
          else match y, c with
            | some a, some b =>
              let n := esWidth x.desc * esBytes x.desc
              some (cropRows (pitch * 64) n h a ++ cropRows (pitch * 64) n (h / 2) b)
            | _, _ => none
        let roi : Option (List (BitVec 128)) :=
          match s.readCvaN fn.val none (entField e.raw 256 64) (16 * count) with
          | none => none
          | some bs =>
            let l := (chunks 16 count bs).map fun b => BitVec.ofNat 128 (leNat b)
            if l.any roiBad then none else some l
        let st := if source.isNone then stSourceFault else if roi.isNone then stBadRoi else stOk
        let f : EncFrame :=
          { pts := entField e.raw 320 64, source := source.getD [], pyramid := (source.map (pyramidOf x.desc)).getD ⟨[], []⟩, roi := roi.getD [], endOfStream := e.raw.getLsbD 234
            markLong := e.raw.getLsbD 233, forceIdr := e.raw.getLsbD 232, status := st }
        let s1 := s.setEnc fn.val n { x with frames := x.frames ++ [f] }
        (if source.isNone then s1.bump 0x65000A else s1).runEntry fn.val q.val e st 0

/-- VENC_CLOSE (Table 10-3). -/
def execVencClose (fn : Fn) (q : Qn) (s : State) : Host.Outcome State Fault Refusal :=
  s.entryStart fn.val q.val 0x25 fun s e =>
    let n := entField e.raw 224 5
    match s.encSession fn.val n with
    | none => s.runEntry fn.val q.val e stNoSession 0
    | some x =>
      if x.closing.isSome then s.runEntry fn.val q.val e stNoSession 0
      else (s.startEntry fn.val q.val e.id .running).setEnc fn.val n { x with closing := some ⟨fn.val, q.val, e.id⟩ }

/-- The resources of an encode session are released. -/
def State.closeEncode (s : State) (c n : Nat) (x : EncSession) : State :=
  (x.memory.foldl State.unref { s with video := { s.video with enc := s.video.enc.del (c * 32 + n) } }).unpinFrames x.pins

/-- VENC_CLOSE_DONE (Table 10-3): every supplied picture is coded and output, the END record with LAST = 1 is written. -/
def execVencCloseDone (c : Ctx) (e : EncNo) (s : State) : Host.Outcome State Fault Refusal :=
  if !s.clocked then .next s else
  match s.encSession c.val e.val with
  | none => .next s
  | some x =>
    match x.closing with
    | none => .next s
    | some r =>
      if x.current.isSome || !x.frames.isEmpty || !x.ring.due.isEmpty then .next s
      else
        match s.writeEvent c.val (x.ring.push ⟨4, 0, 0, 0, 0, x.number % 2 ^ 32, true, none⟩) with
        | none => .next s
        | some (s1, ring, _) => .next (((s1.setEnc c.val e.val { x with ring := ring }).closeEncode c.val e.val x).completeEntry r.fn r.q r.id stOk 0)

/-- VENC_RATE (R437). -/
def execVencRate (fn : Fn) (q : Qn) (s : State) : Host.Outcome State Fault Refusal :=
  s.entryStart fn.val q.val 0x26 fun s e =>
    let n := entField e.raw 224 5
    let bitrate := entField e.raw 480 32
    let maxBitrate := entField e.raw 448 32
    match s.encSession fn.val n with
    | none => s.runEntry fn.val q.val e stNoSession 0
    | some x =>
      if x.closing.isSome then s.runEntry fn.val q.val e stNoSession 0
      else
        match esRcMode x.desc with
        | 0 => s.runEntry fn.val q.val e stOk 0
        | 1 =>
          let rate := hrdRate bitrate
          if hrdBad x.desc rate then s.runEntry fn.val q.val e stHrdInfeasible 0
          else (s.setEnc fn.val n { x with bitrate := bitrate, nextRate := some rate, coded := x.coded ++ [.rate bitrate maxBitrate] }).runEntry fn.val q.val e stOk 0
        | _ =>
          let rate := hrdRate maxBitrate
          if hrdBad x.desc rate || decide (maxBitrate < bitrate) then s.runEntry fn.val q.val e stHrdInfeasible 0
          else (s.setEnc fn.val n { x with bitrate := bitrate, maxBitrate := maxBitrate, nextRate := some rate, coded := x.coded ++ [.rate bitrate maxBitrate] }).runEntry fn.val q.val e stOk 0

/-- The host consumes event records up to a head (R407, R416). -/
def EventRing.headWrite (r : EventRing) (v : Nat) : EventRing := if 2 ^ r.order ≤ v then r else { r with head := v, armed := true }

/-- EVENT_HEAD (R406, R407). -/
def execEventHead (fn : Fn) (session : CodecSession) (value : BitVec 16) (s : State) : Host.Outcome State Fault Refusal :=
  let off := match session with | .dec n => 0x2000 + 4 * n.val | .enc n => 0x2200 + 4 * n.val
  s.doorbell fn.val off (.eventHead fn session value) fun s =>
    match session with
    | .dec n =>
      match s.decSession fn.val n.val with
      | none => s
      | some x => s.setDec fn.val n.val { x with ring := x.ring.headWrite value.toNat }
    | .enc n =>
      match s.encSession fn.val n.val with
      | none => s
      | some x => s.setEnc fn.val n.val { x with ring := x.ring.headWrite value.toNat }

/-- OUT_HEAD (R406, R407, R439). -/
def execOutHead (fn : Fn) (e : EncNo) (value : BitVec 32) (s : State) : Host.Outcome State Fault Refusal :=
  s.doorbell fn.val (0x2280 + 4 * e.val) (.outHead fn e value) fun s =>
    match s.encSession fn.val e.val with
    | none => s
    | some x => if esOutBytes x.desc ≤ value.toNat then s else s.setEnc fn.val e.val { x with outHead := value.toNat }

/-- RETURN (R406, R407, R414): the slots the host holds among the named ones are free again. -/
def execOutReturn (fn : Fn) (n : DecNo) (value : BitVec 32) (s : State) : Host.Outcome State Fault Refusal :=
  s.doorbell fn.val (0x2400 + 4 * n.val) (.outReturn fn n value) fun s =>
    match s.decSession fn.val n.val with
    | none => s
    | some x =>
      let slots := x.slots.zipIdx.map fun p => if p.1 = .host && value.getLsbD p.2 then .free else p.1
      s.setDec fn.val n.val { x with slots := slots }

/-- EVENT_RECORD_WRITE (R416, R414): the next due record of a session; a PICTURE record passes its slot to the host. -/
def execEventRecordWrite (c : Ctx) (session : CodecSession) (s : State) : Host.Outcome State Fault Refusal :=
  if !s.unitsRun then .next s else
  match session with
  | .dec n =>
    match s.decSession c.val n.val with
    | none => .next s
    | some x =>
      match s.writeEvent c.val x.ring with
      | none => .next s
      | some (s1, ring, e) =>
        let slots := match e.slot with
          | some i => x.slots.set i .host
          | none => x.slots
        let last := if e.status = stOk then x.lastStatus else e.status
        .next (s1.setDec c.val n.val { x with ring := ring, slots := slots, lastStatus := last })
  | .enc n =>
    match s.encSession c.val n.val with
    | none => .next s
    | some x =>
      match s.writeEvent c.val x.ring with
      | none => .next s
      | some (s1, ring, e) =>
        .next (s1.setEnc c.val n.val { x with ring := ring, lastStatus := if e.status = stOk then x.lastStatus else e.status })

/-- What a session's next picture is (R429, R433, R436): an IDR, and an IDR that is postponed. [PRESUMED, unsafe, log entry 51] -/
def EncSession.nextKind (x : EncSession) (f : EncFrame) : Bool × Bool :=
  let first := x.number == 0
  let gop := esGop x.desc != 0 && (match x.sinceIdr with | some n => decide (esGop x.desc ≤ n) | none => false)
  let wanted := first || x.sinceIdr.isNone || gop || f.forceIdr || x.idrOwed
  if f.status = stSourceFault ∧ x.refs ≠ [] then (false, false)
  else if wanted && !first && esRcMode x.desc != 0 && decide (x.fullness < fallbackI x.desc) then (false, true)
  else (wanted, false)

/-- The buffers that a P picture refers to (Table 10-10): every SHORT picture, newest first, then every LONG picture. -/
def useOrder (refs : List RefMark) : List Nat :=
  let of (m : RefMark) : List Nat := (refs.zipIdx.filter fun x => x.1 == m).map (·.2)
  of .short ++ of .long

/-- A session takes its next picture and searches its motion (R431, R432, R433, R435 to R437). [PRESUMED, unsafe, log entry 51] -/
def EncSession.startPicture (x : EncSession) (core : Nat) (f : EncFrame) (rest : List EncFrame) : EncSession :=
  let k := x.nextKind f
  let restart := k.1 && x.nextRate.isSome
  let rate := if restart then x.nextRate.getD x.rate else x.rate
  let b := if restart then initialFullness x.desc rate else x.fullness
  let low := if esRcMode x.desc = 1 then b + perPicture x.desc rate - cpbUnits x.desc else 0
  let gop := esGop x.desc != 0 && (match x.sinceIdr with | some n => decide (esGop x.desc ≤ n) | none => false)
  let coded := x.coded ++ [.picture f.source f.roi f.endOfStream f.markLong f.forceIdr (f.status != stSourceFault)]
  let pool := if k.1 then [] else x.pool
  let vectors := if f.status = stSourceFault then [] else searchPicture x.desc f.source f.pyramid ((useOrder (if k.1 then [] else x.refs)).filterMap fun i => pool[i]?) x.vectors
  { x with
    frames := rest, core := some core, rate := rate, nextRate := if restart then none else x.nextRate, fullness := b
    coded := coded, pool := ⟨coded, f.pyramid⟩ :: pool
    refs := .current :: (if k.1 then [] else x.refs)
    idrOwed := !k.1 && (k.2 || x.idrOwed || f.forceIdr || gop)
    current := some { frame := f, idr := k.1, postponed := k.2, cap := b, floor := low, used := 0, slices := 0, fallback := 0, vectors := vectors } }

/-- ENCODE_PICTURE_START (R404, R398). -/
def execEncodePictureStart (dt : Nat) (core : EncCore) (s0 : State) : Host.Outcome State Fault Refusal :=
  if !s0.computeOpen || !s0.agentIssues 8 then .next (s0.elapse dt) else
  let s := s0.elapse dt
  let busy := s.video.enc.vals.any fun x => x.core == some core.val
  let ready := s.video.enc.filter fun e => e.2.core.isNone && !e.2.frames.isEmpty
  match if busy then none else pickSession s.video.turn 8 (fun x => esPriority x.desc) ready with
  | none => .next s
  | some (k, x) =>
    match x.frames with
    | [] => .next s
    | f :: rest =>
      let s1 := { s with video := { s.video with
        enc := s.video.enc.put k (x.startPicture core.val f rest)
        coreCtx := s.video.coreCtx.put (8 + core.val) x.ctx, turn := s.video.turn.put (8 + esPriority x.desc) k } }
      .next (s1.workStarts.strand (codecId (8 + core.val)) 0x26 (some x.ctx) (k % 32))

/-- The session and picture of an encode core. -/
def State.encodeCore (s : State) (core : Nat) : Option (Nat × EncSession × EncPicture) :=
  match s.video.enc.find? fun e => e.2.core == some core with
  | none => none
  | some (k, x) => x.current.map fun p => (k, x, p)

/-- Bits that the blocks and headers after the next slice may still need as fallback, in units (R435). -/
def restBits (d : BitVec 2048) (p : EncPicture) : Nat :=
  (esBlocksAfter d p.slices * (if p.idr then 48 else 2) + 1024 * (esSlices d - (p.slices + 1))) * bitUnit d

/-- The coded bytes of the next slice, without filler (R434): at least one, and under rate control no more than leaves the rest of the picture room for its fallback within cap (R435). -/
def EncSession.sliceBody (x : EncSession) (p : EncPicture) : List Byte :=
  let raw := match Config.codedSlice x.desc x.coded p.slices with
    | [] => [Config.fillerByte 0]
    | l => l
  if esRcMode x.desc = 0 then raw else raw.take ((p.cap - p.used - restBits x.desc p) / bitUnit x.desc / 8)

/-- The bytes of the next slice: behind the last slice CBR appends filler data up to its floor (R435). -/
def EncSession.sliceBytes (x : EncSession) (p : EncPicture) : List Byte :=
  let body := x.sliceBody p
  let missing := p.floor - (p.used + 8 * body.length * bitUnit x.desc)
  if p.slices + 1 = esSlices x.desc then body ++ (List.range (ceilDiv missing (8 * bitUnit x.desc))).map Config.fillerByte else body

/-- A slice of `n` bytes may be written now (R438, R439): its picture has a slice left, the bytes fit the output ring and the record the event ring. -/
def EncSession.sliceFits (x : EncSession) (p : EncPicture) (n : Nat) : Bool :=
  let d := x.desc
  decide (p.slices < esSlices d) && decide (0 < n) &&
    decide (n ≤ (x.outHead + 2 * esOutBytes d - x.outTail - 1) % esOutBytes d) &&
    decide (x.ring.due.length + 1 ≤ 2 ^ x.ring.order - 1 - (x.ring.tail + 2 ^ x.ring.order - x.ring.head) % 2 ^ x.ring.order)

/-- Bytes into the output ring, which may wrap (R438). -/
def State.storeRing (s : State) (c base size tail : Nat) (bs : List Byte) : State :=
  (s.storeCva c (base + tail) (bs.take (size - tail))).storeCva c base (bs.drop (size - tail))

/-- Blocks of the next slice that are coded as fallback: all of a picture whose source failed (R429); what rate control recodes (R435), none in CQP. -/
def EncSession.sliceFallback (x : EncSession) (p : EncPicture) : Nat :=
  let blocks := esSliceBlocks x.desc p.slices
  if p.frame.status = stSourceFault then blocks
  else if esRcMode x.desc = 0 then 0 else min (Config.codedFallback x.desc x.coded p.slices) blocks

/-- SLICE_WRITE (R434, R435, R438, R439, R441). -/
def execSliceWrite (dt : Nat) (core : EncCore) (c : Ctx) (e : EncNo) (s0 : State) : Host.Outcome State Fault Refusal :=
  if !s0.clocked then .next (s0.elapse dt) else
  let s := s0.elapse dt
  match s.encodeCore core.val with
  | none => .next s
  | some (k, x, p) =>
    let bytes := x.sliceBytes p
    if k ≠ c.val * 32 + e.val ∨ !x.sliceFits p bytes.length then .next s
    else
      let d := x.desc
      let fb := x.sliceFallback p
      let flags := (if p.idr then 0x20 else 0) + (if p.slices + 1 = esSlices d then 0x10 else 0) + (if 0 < fb then 8 else 0) +
        (if p.postponed then 4 else 0)
      let record : VideoEvent := ⟨3, p.frame.pts, x.outTail, p.frame.status, flags, p.slices * 2 ^ 16 + x.number % 2 ^ 16, false, none⟩
      let s1 := s.storeRing x.ctx (esOut d) (esOutBytes d) x.outTail bytes
      let x1 := { x with
        outTail := (x.outTail + bytes.length) % esOutBytes d, ring := x.ring.push record
        current := some { p with used := p.used + 8 * bytes.length * bitUnit d, slices := p.slices + 1, fallback := p.fallback + fb } }
      .next ({ s1 with video := { s1.video with enc := s1.video.enc.put k x1 } }.bumpBy 0x650008 fb)

/-- Drop the last buffer with a mark. -/
def dropLast {α : Type} (m : RefMark) (l : List (RefMark × α)) : List (RefMark × α) := (l.reverse.eraseP fun x => x.1 == m).reverse

/-- Keep at most `n` buffers with a mark: the oldest go (Table 10-10). -/
def capMark {α : Type} (m : RefMark) (n : Nat) : Nat → List (RefMark × α) → List (RefMark × α)
  | 0, l => l
  | fuel + 1, l => if n < (l.map (·.1)).count m then capMark m n fuel (dropLast m l) else l

/-- Buffers after coding (Table 10-10), newest first. -/
def marksAfter {α : Type} (d : BitVec 2048) (markLong : Bool) (refs : List (RefMark × α)) : List (RefMark × α) :=
  let coded : RefMark := if markLong && decide (0 < esLongRefs d) then .long else .short
  let l := refs.map fun x => (if x.1 = .current then coded else x.1, x.2)
  capMark .long (esLongRefs d) l.length (capMark .short (esRefs d) l.length l)

/-- ENCODE_PICTURE_DONE (R432, R435): every slice is written. -/
def execEncodePictureDone (dt : Nat) (core : EncCore) (s0 : State) : Host.Outcome State Fault Refusal :=
  if !s0.clocked then .next (s0.elapse dt) else
  let s := s0.elapse dt
  match s.encodeCore core.val with
  | none => .next s
  | some (k, x, p) =>
    if p.slices < esSlices x.desc then .next s
    else
      let b := x.fullness - p.used + perPicture x.desc x.rate
      let kept := marksAfter x.desc p.frame.markLong (x.refs.zip x.pool)
      let x1 := { x with
        core := none, current := none, number := x.number + 1, refs := kept.map (·.1), pool := kept.map (·.2), vectors := p.vectors
        fullness := if esRcMode x.desc = 0 then x.fullness else if esRcMode x.desc = 2 then min b (cpbUnits x.desc) else b
        sinceIdr := if p.frame.endOfStream then none else if p.idr then some 1 else x.sinceIdr.map (· + 1) }
      let s1 := { s with video := { s.video with enc := s.video.enc.put k x1 } }.bump 0x650007
      .next (if p.postponed then s1.bump 0x650009 else s1)

/-- VID_DSTAT of a session (Table 10-14). [DESIGN CHOICE, safe, log entry 86] -/
def State.vidDstat (s : State) (c n : Nat) : Nat :=
  match s.decSession c n with
  | none => 0
  | some x =>
    let stuck := (!x.ready.isEmpty && !dsDrop x.desc && !(x.slots.any (· == .free))) || !x.ring.due.isEmpty
    let st := if x.closing.isSome then 6 else if x.core.isSome then 3 else if stuck then 4 else if x.skipping then 5
      else if x.queue.isEmpty then (if x.pictures = 0 then 1 else 2) else 2
    x.lastStatus.toNat * 2 ^ 16 + x.core.getD 0xF * 16 + st

/-- VID_ESTAT of a session (Table 10-14). -/
def State.vidEstat (s : State) (c n : Nat) : Nat :=
  match s.encSession c n with
  | none => 0
  | some x =>
    let st := if x.closing.isSome then 6 else if !x.ring.due.isEmpty then 4 else if x.core.isSome then 3
      else if x.frames.isEmpty then (if x.number = 0 then 1 else 2) else 1
    x.lastStatus.toNat * 2 ^ 16 + x.core.getD 0xF * 16 + st

end Sys2Proof.Machine
end

