-- ==== Sys2Proof/Machine/Health.lean ====
section
/-! DEFINITION. The health of the tray (18_integrity_faults_and_self_test.md R691, R692, R698, R705, R706), the drain of a region (01 R37) and a raise of the margin map (14 R570). -/

namespace Sys2Proof.Machine

/-- The 32-byte payload of a HEALTH record (Table 18-6). A record about work of a context in its confidential period has a LOCATION of 0 (R705). [DEDUCED, unsafe, log entry 74] -/
def State.healthPayload (s : State) (block : Nat) (code : Status) (action cause : Nat) (ctx : Option Nat) (location since : Nat) : List Byte :=
  let r := block / 256
  let hidden := match ctx with | some c => s.confidential c | none => false
  let known := decide (r < 11)
  leBytes 32 (since % 2 ^ 64 * 2 ^ 192 + (if hidden then 0 else location % 2 ^ 64) * 2 ^ 128 + code.toNat * 2 ^ 112 +
    (if r < 6 then s.vcompOf r % 2 ^ 16 else 0) * 2 ^ 96 + (if known then s.bandOf r % 2 ^ 8 else 0) * 2 ^ 88 +
    (if known then tempByte (s.junctionOf r) else 0) * 2 ^ 80 + action % 2 ^ 8 * 2 ^ 72 + ctx.getD 0 % 16 * 2 ^ 68 +
    (if ctx.isSome then 2 ^ 67 else 0) + cause % 2 ^ 8)

/-- Write a HEALTH record (R705): KEY is the block identifier, 0xFFF for the chip. [DEDUCED, unsafe, log entry 74] -/
def State.health (s : State) (block : Nat) (code : Status) (action cause : Nat) (ctx : Option Nat) (location since : Nat) : State :=
  s.journalPut 0x02 block (s.healthPayload block code action cause ctx location since)

/-- HEALTH_STATE (R706): 0 OK, 1 DEGRADED, 2 FAULTED. -/
def State.healthNow (s : State) : Nat :=
  if s.integ.persistent.isSome then 2
  else if !s.integ.disabled.isEmpty || s.regions.any (fun e => e.2.phase = .disabled) || !s.integ.quarantine.isEmpty ||
      !s.integ.repeats.isEmpty || s.pm.frames.any (fun e => e.2.retire) || !s.fab.failedLanes.isEmpty || s.integ.degraded then 1
  else 0

/-- HEALTH_CHANGED when HEALTH_STATE has changed (Table 18-7). -/
def State.settleHealth (s : State) : State :=
  let h := s.healthNow
  if h = s.integ.health then s else { s with integ := { s.integ with health := h } }.raise stHealthChanged (beData [(1, h)])

/-- The block identifier of place `i` of the turn of R693 in a region: TB 0 to 23, VB 0 to 3, AE 0 and 1, the LE, the CE. -/
def turnBlock (r i : Nat) : Nat :=
  r * 256 + (if i < 24 then i else if i < 28 then 32 + (i - 24) else if i < 30 then 64 + (i - 28) else if i = 30 then 96 else 128)

/-- Disabled blocks of a region, one bit per place of the turn (0x6010). -/
def State.disabledOf (s : State) (r : Nat) : Nat := s.integ.disabled.valAt 0 r

/-- How many of the bits from `lo` on, `n` of them, are set. -/
def bitCount (v lo n : Nat) : Nat := ((List.range n).filter fun i => bitOf v (lo + i)).length

/-- So many blocks are disabled that the region is (R692): 8 TBs, every VB, every AE, the LE or the CE. -/
def tooFew (v : Nat) : Bool :=
  decide (8 ≤ bitCount v 0 24) || bitCount v 24 4 == 4 || bitCount v 28 2 == 2 || bitOf v 30 || bitOf v 31

/-- The jobs that `p` picks end with JOB_FAULT when they complete (R37 step 3, R43). -/
def State.failJobs (s : State) (p : Nat → Job → Bool) : State :=
  { s with jobs := s.jobs.mapVals fun i j => if p i j then j.failAt stJobFault j.activeOp else j }

/-- Jobs with work placed in a region. -/
def State.jobsIn (s : State) (r : Nat) : List Nat := (s.jobs.keep fun _ j => j.placed && j.regions.contains r).keys

/-- A window of a region ends without a verdict; its block keeps the turn (R695, Table 18-8). -/
def State.dropWindow (s : State) (r : Nat) : State := { s with integ := { s.integ with windows := s.integ.windows.del r } }

/-- The drained region (R37 steps 3 and 4): its jobs and its serving step fault, its block SRAM and pool are zero-filled. [DEDUCED, unsafe, log entry 72] -/
def State.drainRegion (s : State) (r : Nat) : State :=
  let x := s.regions.valAt .reset r
  let s1 := s.failJobs fun i j => x.faulted.contains i || (j.placed && j.regions.contains r)
  let s2 := match x.holder with
    | .serving c => if (match s1.serving.steps.look c with | some st => st.regions.contains r | none => false) then s1.faultStep c else s1
    | _ => s1
  let free (h : RegionHolder) : RegionHolder := match h with | .serving _ => .free | h => h
  s2.modRegion r fun x => { x.zeroed with holder := free x.holder, faulted := [] }

/-- Every compute region is disabled. -/
def State.regionsGone (s : State) : Bool := (List.range 6).all fun r => (s.regions.valAt .reset r).phase = .disabled

/-- A region is disabled until module reset (R40, R692): its work faults and it takes no more. [DEDUCED, unsafe, log entry 72] -/
def State.disableRegion (s : State) (r : Nat) : State :=
  let s0 := if (s.regions.valAt .reset r).phase = .inService then s.outOfService (regionBlocks r) else s
  let s1 := ((s0.dropWindow r).drainRegion r).modRegion r fun x => { x with phase := .disabled }
  (s1.raise stRegionDisabled (beData [(1, r)])).health (unitId r 0) stRegionDisabled 4 0 none 0 0

/-- A block is disabled until module reset (R691, R699); with too few left, so is its region. -/
def State.disableBlock (s : State) (r i : Nat) : State :=
  let v := s.disabledOf r
  if bitOf v i then s
  else
    let id := turnBlock r i
    let s1 := { s with integ := { s.integ with disabled := s.integ.disabled.setAt 0 r (v + 2 ^ i) } }
    let s2 := ((s1.outOfService [id]).raise stBlockDisabled (beData [(2, id)])).health id stBlockDisabled 4 0 none 0 0
    if tooFew (v + 2 ^ i) && !((s.regions.valAt .reset r).phase = .disabled) then s2.disableRegion r else s2

/-- The largest M that the MARGIN loop mode allows (Table 14-4); none where it allows no raise. -/
def State.marginTop (s : State) : Option Nat :=
  match s.dictVal 0x250007 with
  | 0 => some 150
  | 1 => some (min 150 (s.dictVal 0x250008))
  | _ => none

/-- V_lo of the present band has risen above a region's VCOMP: F is 0 until VCOMP reaches it (R567). -/
def State.settleVlo (s : State) (r : Nat) : State :=
  if s.vcompOf r < s.vLoNow r then { s with limits := { s.limits with rising := s.limits.rising.setAt false r true } } else s

/-- Ask for one raise of M(r, b) (R570): the journal record, 10 mV more, MARGIN_RAISED; or MARGIN_EXHAUSTED, counted when the mode refused what the aim asked (R573). -/
def State.marginRaise (s : State) (r b : Nat) : State :=
  let m := s.marginOf r b
  let ok := match s.marginTop with | some t => decide (m + 10 ≤ t) | none => false
  if ok then
    let s1 := s.journalPut 0x05 (8 * r + b) (leBytes 1 (m + 10))
    let s2 := { s1 with limits := { s1.limits with margin := s1.limits.margin.setAt 0 (8 * r + b) (m + 10) } }
    (s2.raise stMarginRaised (beData [(1, r), (1, b), (1, m + 10)])).settleVlo r
  else
    let s1 := if m + 10 ≤ 150 then s.bump 0x251005 else s
    s1.raise stMarginExhausted (beData [(1, r), (1, b)])

end Sys2Proof.Machine
end

