-- ==== Sys2Proof/Machine/Reset.lean ====
section
/-! DEFINITION. The module reset and the choice of the slot that boots (17_firmware_images_and_journal.md R673 to R675; 19_module_connector_power_and_bring_up.md R717, R721, R735), the close of the journal (R680) and the last-wake record (13_power_states_and_wake.md R545). -/

namespace Sys2Proof.Machine

/-- A firmware slot: 0 is A, 1 is B. -/
def Firmware.slot (f : Firmware) (i : Nat) : FlashSlot := if i = 1 then f.slotB else f.slotA

/-- Change a firmware slot. -/
def Firmware.setSlot (f : Firmware) (i : Nat) (x : FlashSlot) : Firmware := if i = 1 then { f with slotB := x } else { f with slotA := x }

/-- FW_VERSION of a slot's header (Table 17-2). -/
def FlashSlot.fwVersion (x : FlashSlot) : Nat := fieldAt x.header 20 4

/-- Every queued record and a CLOSE record become durable (R680). -/
def State.journalClose (s : State) (cause : Nat) : State :=
  if s.journal.accepting then
    let s1 := s.journalPut 0x0C 0 (leBytes 1 cause)
    { s1 with journal := { s1.journal with records := s1.journal.records ++ s1.journal.queued, queued := [], durable := s1.journal.nextSeq } }
  else s

/-- The journal takes no further record until a module reset (R680). -/
def State.journalStop (s : State) (cause : Nat) : State :=
  let s1 := s.journalClose cause
  { s1 with journal := { s1.journal with accepting := false } }

/-- A key derived from the seed by HMAC-SHA-512 under a label (R484): 0 DeviceID wrapping, 1 replay protection, 2 alias wrapping, which takes measurement 2 too. Without a seed there is none. -/
def Trust.derived (t : Trust) (i : Nat) (input : List Byte) : List Byte :=
  match t.seed with
  | some seed => hmac512 seed (Config.keyLabel i ++ input)
  | none => []

/-- A write of the replay-protected area (R486): it carries an HMAC under the replay-protection key over its address, its data and the monotonic write counter. -/
def State.areaWrite (s : State) (item : Nat) (data : List Byte) : State :=
  let n := s.trust.areaWrites + 1
  let mac := hmac512 (s.trust.derived 1 []) (Config.areaAddress item ++ data ++ beBytes 8 n)
  { s with trust := { s.trust with areaWrites := n, areaMac := mac } }

/-- The boot control word (R666): ACTIVE_SLOT, PENDING_SLOT (2 for none), ATTEMPTS, the VALID bits. -/
def Firmware.bootWord (f : Firmware) : List Byte :=
  [f.active, f.pending.getD 2, f.attempts, (if f.slotA.valid then 1 else 0) + (if f.slotB.valid then 2 else 0)].map (BitVec.ofNat 8)

/-- Lighthouse's state changes; a new boot control word is one authenticated write (R666). -/
def State.setFw (s : State) (f : Firmware) : State :=
  if f.bootWord = s.fw.bootWord then { s with fw := f } else { s with fw := f }.areaWrite 1 f.bootWord

/-- At power-on Lighthouse reads 8 KiB of its SRAM and reconstructs the seed with the helper data (R484). [DESIGN CHOICE, safe, log entry 87] -/
def State.readPuf (s : State) : State :=
  let r := Config.pufResponse s.free
  { s.draw with trust := { s.trust with response := r, seed := Config.pufSeed Config.pufHelper r } }

/-- The ROM's choice of slot (R674). -/
def Firmware.select (f : Firmware) : Firmware :=
  match f.pending with
  | none => { f with booting := f.active }
  | some p =>
    if f.attempts < 3 then { f with attempts := f.attempts + 1, booting := p }
    else
      { f.setSlot p { f.slot p with valid := false } with
        pending := none, attempts := 0, booting := f.active, mode := .idle, rolledBack := some (f.slot p).fwVersion }

/-- An attempt of the pending slot that verification, a migration, a chip-level fault or its time limit ends before ready is reported at the next ready (R675); one that a reset or a loss of the feed ends is not. [DEDUCED, unsafe, log entry 65] -/
def State.noteAttempt (s : State) : State :=
  if s.board.powered && !s.board.ready && !s.board.bootWaits && s.fw.pending == some s.fw.booting then
    { s with fw := { s.fw with failed := s.fw.failed ++ [s.fw.attempts] } }
  else s

/-- What the update path is after a reset (R673). -/
def Firmware.afterReset (f : Firmware) : Firmware :=
  let mode : UpdMode := match f.mode with | .receiving => .idle | .recovery => (if f.pending.isSome then .pending else .idle) | m => m
  { f with mode := mode, received := 0, reason := 0, taking := none, command := none }

/-- Boot start (R721): the slot is selected. -/
def State.bootStart (s : State) : State :=
  { s with board := { s.board with bootWaits := false, bootAt := s.now } }.setFw s.fw.select

/-- Frames that stay retired across a reset (R151, R706). -/
def retiredFrames (m : Store PageFrame) : Store PageFrame :=
  (m.keep fun _ f => f.retire).mapVals fun _ f => { f with owner := .device, refs := 0, pins := 0, spec := false, phase := .retired }

/-- The state a module reset leaves (R735): the flash, the replay-protected area, the pins and the feed are kept; a reset that is not power-on keeps the rails up, the Tide unit and the capture buffers (R651, R717). [DEDUCED, unsafe, log entry 65] -/
def State.resetKeeping (s : State) (cold : Bool) : State :=
  { State.reset with
    now := s.now, resetAt := s.now, pending := s.pending, free := s.free, trace := s.trace
    tide := if cold then .reset else { s.tide with latch := [], rates := [] }
    pm := { PageManager.reset with frames := retiredFrames s.pm.frames }
    trust := { Trust.reset with
      fault := s.trust.fault, counters := s.trust.counters, chain := s.trust.chain, response := if cold then [] else s.trust.response
      seed := if cold then none else s.trust.seed, aliasId := s.trust.aliasId, aliasKey := s.trust.aliasKey, measured := s.trust.measured
      areaWrites := s.trust.areaWrites, areaMac := s.trust.areaMac
      slots := s.trust.slots, password := s.trust.password }
    net := { Network.reset with linkA := !cold && s.net.linkA, linkB := !cold && s.net.linkB, restore := s.net.restore }
    power := { PowerUnit.reset with
      lastWake := s.power.lastWake, reachedTide := s.power.reachedTide, reachedPre := s.power.reachedPre
      wake := if cold then s.power.wake else none }
    limits := { Limits.reset with
      junction := s.limits.junction, band := s.limits.band, marginClear := s.limits.marginClear
      vtable := s.limits.vtable, pBase := s.limits.pBase, calValid := s.limits.calValid }
    obs := { Observe.reset with capture := if cold then [] else s.obs.capture }
    fw := s.fw.afterReset
    journal := { s.journal with accepting := false, queued := [], nextSeq := s.journal.durable, compacting := none }
    board := { s.board with
      powered := true, stage := 0, ready := false, bootAt := s.now, slot := s.board.slotPins, lost := false, stuck := false
      bootWaits := !s.board.perstN, holdupOk := false, fruOk := false, eoffSeen := false } }

/-- A module reset (R735); at power-on Lighthouse reads its physical unclonable function (R484). -/
def State.moduleReset (s : State) (cold : Bool) : State :=
  let s1 := if cold then (s.resetKeeping cold).readPuf else s.resetKeeping cold
  if s1.board.bootWaits then s1 else s1.bootStart

/-- The power stages are off (R715, R722): nothing runs until power-on. -/
def State.powerOff (s : State) : State :=
  { s.resetKeeping true with
    tide := s.tide
    power := { s.power with
      mode := 4, entering := none, exiting := none, mgmtAwake := false
      reachedTide := if s.power.mode = 4 then s.power.reachedTide else s.tideNat
      reachedPre := if s.power.mode = 4 then s.power.reachedPre else !s.tide.stepped }
    board := { s.board with powered := false, ready := false, stage := 0, bootWaits := false, lost := false } }

/-- Write the last-wake record (R545, Table 13-9). [DEDUCED, unsafe, log entry 8] -/
def State.recordWake (s : State) (left : Nat) (lost : Bool) (w : WakeInfo) : State :=
  let s1 := s.keepCounter 0x202002 1
  let bits := w.tide % 2 ^ 64 * 2 ^ 192 + s.power.reachedTide % 2 ^ 64 * 2 ^ 128 + s1.dictVal 0x202002 % 2 ^ 32 * 2 ^ 96 + w.holder * 2 ^ 88 +
    w.domain * 2 ^ 84 + w.source * 2 ^ 72 + left * 2 ^ 69 + (if s.power.reachedPre then 2 ^ 66 else 0) + (if w.preStep then 2 ^ 65 else 0) +
    (if lost then 2 ^ 64 else 0) + w.detail % 2 ^ 64
  ({ s1 with power := { s1.power with lastWake := BitVec.ofNat 256 bits, wake := none } }).journalPut 0x03 0 (leBytes 32 bits)

end Sys2Proof.Machine
end

