-- ==== Sys2Proof/Machine/PairBase.lean ====
section
/-! DEFINITION. The pair's bodies and the ways out of role ACTIVE (15_fabric_failover_and_spares.md R604, R609, R613, R618, R621). -/

namespace Sys2Proof.Machine

/-- Mirrored contexts by their setting and state (R614), in ascending order. -/
def State.mirroredCtxs (s : State) : List Nat :=
  (List.range 16).filter fun c => bitOf (s.dictVal 0x520001) c && (s.ctx c).mode != .locked

/-- The pair configuration digest (R618). The spec does not give the widths of its items: context 1 byte; each model HANDLE 2 and descriptor 128; each customer REFILL and BURST 8 each; each open stream 1; each current adapter handle 1, generation 4 and digest 64. -/
def State.pairDigest (s : State) : Nat :=
  crc32c <| s.mirroredCtxs.flatMap fun c =>
    let models := (s.serving.models.filter fun e => e.1 / 4 == c).flatMap fun e => beData [(2, e.2.prog % 1024)] ++ leBytes 128 e.2.desc.toNat
    let customers := (s.serving.customers.filter fun e => e.1 / 1024 == c).flatMap fun e => beData [(8, e.2.refill), (8, e.2.burst)]
    let streams := (s.serving.streams.filter fun e => e.1 / 256 == c).flatMap fun e => beData [(1, e.1 % 256)]
    let adapters := (s.serving.adapters.vals.filter fun a => a.ctx == c && a.current).flatMap fun a => beData [(1, a.handle), (4, a.gen)] ++ a.digest
    beData [(1, c)] ++ models ++ customers ++ streams ++ adapters

/-- The MIRROR_SEQ a tray states: sent by the active, applied by the others (Table 15-10). -/
def State.mirrorSeq (s : State) : Nat := if s.pair.role = .active then s.pair.mirrorSent else s.pair.mirrorApplied

/-- Send a body of this KIND on both heartbeat paths (R604, R609), and to the witness on both TSN ports where it takes part. -/
def State.sendPairKind (s : State) (kind : Nat) (witness : Bool) : State :=
  let n := s.nextPairSeq kind
  let body := n.1.pairBody kind n.2 n.1.mirrorSeq n.1.pairDigest
  let s1 := (n.1.sendPair .tsnA false body).sendPair .fabric false body
  if witness && s.pairSetting 0x510001 == 1 then (s1.sendPair .tsnA true body).sendPair .tsnB true body else s1

/-- Unstarted entries of a context's queues complete with this status (R621). [DEDUCED, unsafe, log entry 47] -/
def State.refuseUnstarted (s : State) (c : Nat) (st : Status) : State :=
  (List.range 8).foldl (fun s q =>
    ((s.queue c q).entries.filter fun e => e.phase = .fetched).foldl (fun s e => s.completeEntry c q e.id st 0) s) s

/-- The requests of a context end without a record, because the partner carries them (R621). [DEDUCED, unsafe, log entry 47] -/
def State.dropRequests (s : State) (c : Nat) : State :=
  (s.requestsOf c).foldl (fun s e => if e.2.state = .ending then s else s.endRequest e.1 stLeaseLost 5 false) s

/-- Enter a role (Table 15-9). -/
def State.enterRole (s : State) (r : PairRole) : State := { s with pair := { s.pair with role := r, since := s.now, heard := s.now } }

/-- Leave ACTIVE for FENCED (R610, R613, R621): the lease ends at once; what is mirrored is no longer this tray's to finish; LEASE_LOST is raised. [DEDUCED, unsafe, log entry 47] -/
def State.fence (s : State) : State :=
  let s1 := { s.enterRole .fenced with pair := { (s.enterRole .fenced).pair with
    leaseEnd := s.now, renews := [], answers := [], mirrorSince := none, partnerRole := s.pair.partnerRole } }
  let s2 := s1.raise stLeaseLost (beData [(8, s.pair.epoch)])
  s.mirroredCtxs.foldl (fun s c => (s.refuseUnstarted c stLeaseLost).dropRequests c) s2

/-- Give up the lease with RELEASE (R613). [DEDUCED, unsafe, log entry 44] -/
def State.giveUp (s : State) : State := (s.sendPairKind 0x13 true).fence

end Sys2Proof.Machine
end

