-- ==== Sys2Proof/Machine/SleepExit.lean ====
section
/-! DEFINITION. What the exit from a sleep restores, takes and records (13_power_states_and_wake.md R539, R540, R545). -/

namespace Sys2Proof.Machine

/-- Stacks whose content has survived a Deep Sleep. -/
def State.survivors (s : State) : Nat := if s.power.brownOut then 0 else s.power.kept.getD 0 0

/-- Pool banks of a region whose content has survived a Deep Sleep. -/
def State.keptBanks (s : State) (r : Nat) : Nat := if s.power.brownOut then 0 else s.power.kept.getD (1 + r) 0 % 2 ^ 24

/-- The content of a frame has survived (R152). -/
def State.frameSurvives (s : State) (f : Nat) : Bool :=
  if isLocal s.pm.localGib f then bitOf s.survivors (stackOf s.pm.localGib f) else s.survivors == 0xFF

/-- The largest aligned frame of at most 2^12 granules that starts at `g` and ends by `hi`. -/
def alignedSize (g hi : Nat) : Nat :=
  (((List.range 13).filter fun k => g % 2 ^ k == 0 && decide (g + 2 ^ k ≤ hi)).getLast?).getD 0

/-- Granules `g` to `hi` cut into aligned frames. -/
def cutFrames (hi : Nat) : Nat → Nat → List (Nat × Nat)
  | 0, _ => []
  | fuel + 1, g => if hi ≤ g then [] else let k := alignedSize g hi; (g, k) :: cutFrames hi fuel (g + 2 ^ k)

/-- The free granules of a zone between the frames that are listed, cut into frames. -/
def State.freeRuns (s : State) (zone : Option Nat) : List (Nat × Nat) :=
  let z := zoneRange s.pm.localGib zone
  let used := s.pm.frames.filter fun e => decide (z.1 ≤ e.1) && decide (e.1 < z.2)
  let gaps := (z.1 :: used.map fun e => e.1 + 2 ^ e.2.k).zip (used.map (·.1) ++ [z.2])
  gaps.flatMap fun g => cutFrames g.2 (g.2 - g.1) g.1

/-- Zones whose content has not survived. -/
def State.lostZones (s : State) : List (Option Nat) :=
  (if s.survivors = 0xFF then [] else [none]) ++ ((List.range 8).filter fun st => !bitOf s.survivors st).map some

/-- Frames that were free in a lost zone pass to the fill engine (R540). [DEDUCED, unsafe, log entry 56] -/
def State.refillFree (s : State) : State :=
  let fresh := s.lostZones.flatMap s.freeRuns
  let add (m : Store PageFrame) (x : Nat × Nat) : Store PageFrame := m.put x.1 ⟨x.2, .device, 0, 0, false, false, .filling⟩
  { s with pm := { s.pm with frames := fresh.foldl add s.pm.frames, fills := s.pm.fills ++ fresh.map fun x => (⟨x.1, .free⟩ : FillItem) } }

/-- Frames held in a lost zone, and those whose holder has gone, lose their mappings and pass to the fill engine (R152, R540). -/
def State.refillHeld (s : State) (gone : Nat → Bool) : State :=
  let lost := s.pm.frames.filter fun e => gone e.1 && decide (e.2.phase = .held)
  let drop (f : Nat) (p : PageFrame) : PageFrame :=
    if gone f ∧ p.phase = .held then { p with owner := .device, refs := 0, pins := 0, spec := false, phase := .filling } else p
  { s with pm := { s.pm with
    frames := s.pm.frames.mapVals drop, maps := s.pm.maps.keep fun _ m => !gone m.frame, ghosts := s.pm.ghosts.filter fun g => !gone g.frame
    fills := s.pm.fills ++ lost.map fun e => (⟨e.1, .free⟩ : FillItem) } }

/-- What a Deep Sleep whose stacks were not all retained takes (Table 13-6): with fewer than eight stacks the serving state, streams without records, and KV tables; programs of which a frame is lost; the pages of lost stacks. [DEDUCED, unsafe, log entry 56] -/
def State.loseStacks (s : State) : State :=
  if s.survivors = 0xFF then s
  else
    let unloaded := s.progs.vals.filter fun p => !p.frames.all s.frameSurvives
    let freed := s.kv.pages.vals.map (·.frame) ++ s.serving.adapters.vals.flatMap (·.frames) ++ unloaded.flatMap (·.frames)
    let gone (f : Nat) : Bool := !s.frameSurvives f || freed.contains f
    let s1 := { s with
      serving := { Serving.reset with adapterLast := s.serving.adapterLast }
      kv := { KvPool.reset with answer := s.kv.answer }
      progs := s.progs.keep fun _ p => p.frames.all s.frameSurvives
      pair := { s.pair with staging := [] } }
    (s1.refillFree).refillHeld gone

/-- The pool banks that were not retained read as zero; a region of which none was holds nobody's data (Table 13-6). [DEDUCED, unsafe, log entry 56] -/
def State.losePools (s : State) : State :=
  (List.range 6).foldl (fun s r =>
    let k := s.keptBanks r
    s.modRegion r fun x =>
      if k = 0 then x.zeroed else { x with banks := x.banks.zipIdx.map fun b => if bitOf k b.2 then b.1 else .free }) s

/-- Block SRAM reads as zero after a sleep: no division of it is in use (R539). -/
def State.loseSram (s : State) : State := (List.range 6).foldl (fun s r => s.modRegion r fun x => { x with division := none }) s

/-- What the exit restores and records (R539, R540, R545): the last-wake record, STATE_CHANGED, RETENTION_LOST. From an entry that a wake stopped before Sleep was reached nothing is recorded. [DEDUCED, unsafe, log entry 56] -/
def State.leaveSleep (s : State) : State :=
  let left := s.power.mode
  let until_ := s.now + s.dictVal 0x200003 * 1000000
  if left < 2 then { s with power := { s.power with wake := none, entering := none, exiting := none, mode := 1, holdUntil := until_ } }
  else
    let lost := left == 3 && s.power.lost
    let s1 := (if left = 3 then (s.losePools).loseStacks else s).loseSram
    let w := s1.power.wake.getD ⟨0, 0xFF, 0xF, 0, s1.tideNat, !s1.tide.stepped⟩
    let s2 := (s1.recordWake left lost w).raise stStateChanged (beData [(1, left), (1, 1)])
    let s3 := if lost && !s2.power.brownOut then s2.raise stRetentionLost (beData [(2, 0)]) else s2
    { s3 with power := { s3.power with
      mode := 1, entering := none, exiting := none, wake := none, lost := false, brownOut := false, mgmtAwake := false, deeperSince := none
      kept := [], holdUntil := until_ } }

end Sys2Proof.Machine
end

