-- ==== Sys2Proof/Machine/Faults.lean ====
section
/-! DEFINITION. Region-level and chip-level faults (01_package_regions_and_figures.md R26, R27, R35 to R43; 18_integrity_faults_and_self_test.md R704; 15_fabric_failover_and_spares.md R621). -/

namespace Sys2Proof.Machine

/-- CAUSE of Table 18-5. -/
def causeCode : FaultCause → Nat
  | .thermalTrip => 1
  | .railFault => 2
  | .d2dLink => 3
  | .nocHop => 4
  | .sharedState => 5
  | .domainDown => 6
  | .firmware => 7
  | .regionsExhausted => 8

/-- A cause that leaves the tray faulted until module reset (Table 18-5). -/
def causePersists (c : Nat) : Bool := [2, 3, 4, 5, 8].contains c

/-- A compute region that is not disabled is drained and re-initialised (R704 step 2); its window ends without a verdict. -/
def State.drainAll (s : State) : State :=
  (List.range 6).foldl (fun s r =>
    if (s.regions.valAt .reset r).phase = .disabled then s
    else
      let s1 := if (s.regions.valAt .reset r).phase = .inService then s.outOfService (regionBlocks r) else s
      ((s1.dropWindow r).drainRegion r).modRegion r fun x => { x with phase := .draining }) s

/-- An update that is being received ends (Table 17-11): VALID of its slot stays 0. A DATA in progress ends as a command that does not fit the state. [DEDUCED, unsafe, log entry 62] -/
def State.endReceiving (s : State) : State :=
  if s.fw.mode = .receiving then
    let s1 := { s with fw := { s.fw with mode := if s.board.stage = 8 then .recovery else .idle, taking := none } }
    if s.fw.taking.isSome then (({ s1 with fw := { s1.fw with command := none } }.raise stUpdState (beData [(1, 0)])).pathDone 3 0 stUpdState none) else s1
  else s

/-- What entry of its target's domain to RESET or OFF leaves of a mailbox channel (R518). -/
def MbxChannel.domainReset (x : MbxChannel) : MbxChannel :=
  { x with outFull := false, outCollision := false, outMsg := [], len := 8, inFull := false, inCollision := false, inMsg := [] }

/-- The management firmware restarts (R525, R704): its mailbox channels, those of the functions and the peer ones, are cleared. -/
def State.managementReset (s : State) : State :=
  { s with mbx := s.mbx.mapVals fun k x => if 128 ≤ k ∨ k % 8 < 4 then x.domainReset else x }

/-- The handling of a chip-level fault (R43, R704, R621): every job and step ends; an active with a STANDBY partner gives up its lease; regions drain; a power transition is abandoned, and the module goes to Idle (Table 13-10); a teardown scrub stops and will restart (Table 11-12). [DEDUCED, unsafe, log entry 72] -/
def State.handleFault (s : State) (cause : Nat) : State :=
  let yields := s.pair.role = .active && s.pair.partnerRole == some .standby
  let s1 := if yields then { s with jobs := s.jobs.mapVals fun _ j => { j with once := true } } else s
  let s2 := s1.failJobs fun _ _ => true
  let s3 := s2.serving.steps.keys.foldl State.faultStep s2
  let s4 := (if yields then s3.giveUp else s3).drainAll.endReceiving
  let integ := if causePersists cause || s.integ.persistent.isSome
    then { s4.integ with persistent := some (s.integ.persistent.getD cause), recovering := none, sweep := none }
    else { s4.integ with recovering := some (cause, s.now), sweep := none }
  let restart (x : Context) : Context := if x.tear = .scrubbing then { x with tear := .queued } else x
  let s5 := if cause = 7 then s4.managementReset else s4
  let s6 := if s5.power.mode != 4 && (s5.power.entering.isSome || s5.power.exiting.isSome) then s5.leaveSleep else s5
  ({ s6 with integ := integ, ctxs := s6.ctxs.mapVals fun _ x => restart x }).settleHealth

/-- A chip-level fault is raised (R43, R704): event, HEALTH record, Slack. While Slack is not RUNNING it is handled at RESUME (R650). Before ready it ends the boot attempt of a pending slot (R675). [DEDUCED, safe, log entry 52] -/
def State.chipFault (s : State) (cause : Nat) : State :=
  if !s.board.powered then s
  else
    let s1 := ((s.setDict 0x600002 cause).raise stChipFault (beData [(1, cause), (1, if causePersists cause then 1 else 0)])).health 0xFFF stChipFault 6 cause none 0 0
    if !s.board.ready && s.fw.pending == some s.fw.booting then s1.noteAttempt.moduleReset false
    else
      let s2 := s1.slackStop 4
      if s2.slackRuns then s2.handleFault cause
      else
        let keep := match s2.obs.slack.faultPending with | some c => if causePersists c then c else cause | none => cause
        { s2 with obs := { s2.obs with slack := { s2.obs.slack with faultPending := some keep } } }

/-- With every compute region disabled the chip faults (Table 18-5). -/
def State.settleRegions (s : State) : State :=
  let s1 := if s.regionsGone && s.integ.persistent.isNone then s.chipFault 8 else s
  s1.settleHealth

/-- CHIP_FAULT with its cause (R43). -/
def execChipFault (cause : FaultCause) (s : State) : Host.Outcome State Fault Refusal := .next (s.chipFault (causeCode cause))

/-- A die-to-die link's state. -/
def State.d2d (s : State) : D2D → D2dLink
  | .a => s.d2dA
  | .b => s.d2dB

/-- Change a die-to-die link. -/
def State.setD2d (s : State) (l : D2D) (x : D2dLink) : State :=
  match l with
  | .a => { s with d2dA := x }
  | .b => { s with d2dB := x }

/-- Count a retry on a link (sources 0xC5 and 0xC6). -/
def State.countD2d (s : State) (l : D2D) : State := s.count (match l with | .a => 0xC5 | .b => 0xC6) none none 1

/-- Failures in a row of a flit, this one included. -/
def D2dLink.failing (x : D2dLink) (flit : Nat) : Nat := if x.flit = flit then x.fails + 1 else 1

/-- D2D_FLIT_RETRY (R26, R27): a flit fails its CRC for less than the eighth time in a row and is re-sent. -/
def execD2dFlitRetry (link : D2D) (flit : Nat) (s : State) : Host.Outcome State Fault Refusal :=
  let x := s.d2d link
  if s.board.powered && !x.failed && decide (x.failing flit < 8) then
    .next ((s.setD2d link ⟨flit, x.failing flit, false⟩).countD2d link)
  else .next s

/-- D2D_LINK_FAILED (R27): the flit's eighth failure in a row fails the link. -/
def execD2dLinkFailed (link : D2D) (flit : Nat) (s : State) : Host.Outcome State Fault Refusal :=
  let x := s.d2d link
  if s.board.powered && !x.failed && x.failing flit == 8 then .next ((s.setD2d link ⟨flit, 8, true⟩).chipFault 3) else .next s

/-- A region-level fault begins (R37 steps 1 and 2, R40): a second one during re-initialisation disables the region. [DEDUCED, unsafe, log entry 72] -/
def State.regionFault (s : State) (r : Nat) : State :=
  match (s.regions.valAt .reset r).phase with
  | .inService =>
    let jobs := s.jobsIn r
    let s1 := ((s.outOfService (regionBlocks r)).dropWindow r).modRegion r fun x => { x with phase := .draining, faulted := jobs }
    (s1.raise stRegionFault (beData [(1, r)])).health (unitId r 0) stRegionFault 5 0 none 0 0
  | .selfTest => (s.disableRegion r).settleRegions
  | _ => s

/-- REGION_FAULT (R37 step 1). -/
def execRegionFault (r : Region) (s : State) : Host.Outcome State Fault Refusal :=
  if s.clocked && s.integ.recovering.isNone && s.integ.persistent.isNone then .next (s.regionFault r.val) else .next s

/-- The frame that covers a granule. -/
def State.frameAt (s : State) (g : Nat) : Option (Nat × PageFrame) :=
  s.pm.frames.find? fun e => decide (e.1 ≤ g) && decide (g < e.1 + 2 ^ e.2.k)

/-- The context whose frame covers a granule. -/
def State.ctxAt (s : State) (g : Nat) : Option Nat :=
  match s.frameAt g with
  | some (_, f) => match f.owner with | .ctx c _ => some c | .device => none
  | none => none

/-- LOCATION of an HBM unit in a HEALTH record (Table 18-6): stack, channel, pseudo-channel. -/
def hbmLocation (l u : Nat) : Nat :=
  let sa := stackAddress l (u * 64)
  stackOf l (u / 64) + channelOf sa * 2 ^ 8 + pseudoChannel sa * 2 ^ 16

/-- The HBM controller whose stack holds a unit. -/
def controllerOf (l u : Nat) : Nat := 6 * 256 + 5 * 32 + stackOf l (u / 64)

/-- The frame of an HBM unit is marked for retirement (R151, R691): FRAME_RETIRED and its HEALTH record. A granule of the free pool is retired at once; the carve-out belongs to no frame. [DEDUCED, unsafe, log entry 80] -/
def State.markRetire (s : State) (u : Nat) : State :=
  let l := s.pm.localGib
  let g := u / 64
  let told (s : State) : State :=
    (s.raise stFrameRetired (beData [(1, stackOf l g)])).health (controllerOf l u) stFrameRetired 7 0 (s.ctxAt g) (hbmLocation l u) 0
  match s.frameAt g with
  | some (f, p) => if p.retire then s else told (s.modFrame f fun x => { x with retire := true })
  | none =>
    if (carveItem l g).isSome then s
    else told { s with pm := { s.pm with frames := s.pm.frames.put g ⟨0, .device, 0, 0, false, true, .retired⟩ } }

/-- A corrected error joins those of the last 24 h of its unit or word; the answer says whether it is the fourth, which is the crossing of Table 18-3. -/
def State.noteCorrected (s : State) (key : Nat) : State × Bool :=
  let l := s.now :: (s.integ.corrected.valAt [] key).filter fun t => decide (s.now ≤ t + 86400000000000)
  let full := decide (4 ≤ l.length)
  ({ s with integ := { s.integ with corrected := s.integ.corrected.setAt [] key (if full then [] else l) } }, full)

/-- The work that holds a region consumes a poisoned result of one of its blocks: the job or the step faults (R36). -/
def State.poisonHolder (s : State) (r : Nat) : State :=
  match (s.regions.valAt .reset r).holder with
  | .free => s
  | .job id => s.failJobs fun i _ => i == id
  | .serving c => if (match s.serving.steps.look c with | some st => st.regions.contains r | none => false) then s.faultStep c else s

/-- A block poisons a result (R35, R691): counted; the third within 1 s disables the block; the POISON source of Slack. [DEDUCED, unsafe, log entry 80] -/
def State.poisonResult (s : State) (r i word : Nat) : State :=
  let id := turnBlock r i
  let l := s.now :: (s.integ.poisoned.valAt [] id).filter fun t => decide (s.now ≤ t + 1000000000)
  let s1 := { s with integ := { s.integ with poisoned := s.integ.poisoned.setAt [] id l } }.bump 0x603004
  let s2 := ((s1.strand id 0x06 none word).health id stJobFault 2 0 none word 0).poisonHolder r
  (if 3 ≤ l.length then (s2.disableBlock r i).settleRegions else s2).slackStop 3

/-- What a unit's check finds outside a hang (Tables 18-1 and 18-3). [DEDUCED, unsafe, log entry 80] -/
def State.unitError (s : State) : UnitEvent → State
  | .hang .. => s
  | .arbiter r => s.regionFault r.val
  | .correctedHbm u syn =>
    let id := controllerOf s.pm.localGib u
    let c := s.ctxAt (u / 64)
    let n := (((s.bump 0x603001).count 0x53 (some id) c 1).strand id 0x05 c syn.toNat).noteCorrected (2 * u)
    if n.2 then ((n.1.health id stFrameRetired 0 0 c (hbmLocation s.pm.localGib u) 0).markRetire u).settleHealth else n.1
  | .correctedSram b w syn =>
    let n := (((s.bump 0x603002).count 0x15 (some b.toNat) none 1).strand b.toNat 0x05 none syn.toNat).noteCorrected (2 * (b.toNat * 2 ^ 20 + w) + 1)
    if n.2 then n.1.health b.toNat stOk 0 0 none w 0 else n.1
  | .retried r i w n poisoned =>
    if bitOf (s.disabledOf r.val) i.val then s
    else
      let id := turnBlock r.val i.val
      let s1 := ((s.bump 0x603003).bumpBy 0x603005 n.val).health id stJobFault 1 0 none w 0
      let s2 := if 24 ≤ i.val ∧ i.val < 28 then s1.count 0x21 (some id) none 1 else s1
      let s3 := (List.range n.val).foldl (fun s k => s.strand id 0x07 none (k + 1)) s2
      if poisoned && n.val == 3 then s3.poisonResult r.val i.val w else s3
  | .lostHbm u =>
    let id := controllerOf s.pm.localGib u
    let c := s.ctxAt (u / 64)
    let s1 := (((s.bump 0x603003).bump 0x603004).strand id 0x06 c (u * 64 % 2 ^ 32)).health id stJobFault 2 0 c (hbmLocation s.pm.localGib u) 0
    let s2 := { s1 with integ := { s1.integ with lost := if s1.integ.lost.contains u then s1.integ.lost else s1.integ.lost ++ [u] } }
    ((s2.markRetire u).settleHealth).slackStop 3

/-- BLOCK_HANG (R691): a block of a compute region has held one handshake for 10 ms, which is a region-level fault; the other crossings and errors of Table 18-3 have no row of their own and come by this one. [DEDUCED, unsafe, log entry 80] -/
def execBlockHang (dt : Nat) (event : UnitEvent) (s0 : State) : Host.Outcome State Fault Refusal :=
  let s := s0.elapse dt
  if !s.clocked then .next s
  else
    match event with
    | .hang r block =>
      if s.integ.recovering.isNone && s.integ.persistent.isNone && !bitOf (s.disabledOf r.val) block.val then .next (s.regionFault r.val) else .next s
    | .arbiter r => if s.integ.recovering.isNone && s.integ.persistent.isNone then .next (s.regionFault r.val) else .next s
    | e => .next (s.unitError e)

/-- REGION_DRAINED (R37 steps 2 to 5): the region's jobs fault, its block SRAM and pool are zero-filled, its self-test starts. A chip-level fault takes the steps over (R43). -/
def execRegionDrained (dt : Nat) (r : Region) (s0 : State) : Host.Outcome State Fault Refusal :=
  let s := s0.elapse dt
  if s0.clocked && s.integ.recovering.isNone && s.integ.persistent.isNone && (s.regions.valAt .reset r.val).phase = .draining then
    .next ((s.drainRegion r.val).modRegion r.val fun x => { x with phase := .selfTest })
  else .next s

/-- REGION_SELFTEST_DONE (R37 step 6, R40). -/
def execRegionSelftestDone (dt : Nat) (r : Region) (pass : Bool) (s0 : State) : Host.Outcome State Fault Refusal :=
  let s := s0.elapse dt
  if s0.clocked && s.integ.recovering.isNone && s.integ.persistent.isNone && (s.regions.valAt .reset r.val).phase = .selfTest then
    if pass then .next ((s.modRegion r.val fun x => { x with phase := .inService }).backInService (regionBlocks r.val))
    else .next (s.disableRegion r.val).settleRegions
  else .next s

/-- NOC_HOP_RESEND (R688, R691): a flit is re-sent on a hop; the eighth failure in a row on one hop is a chip-level fault. -/
def execNocHopResend (hop : Nat) (s : State) : Host.Outcome State Fault Refusal :=
  if !s.clocked then .next s
  else
    let n := if s.integ.noc.1 = hop then s.integ.noc.2 + 1 else 1
    let s1 := { s with integ := { s.integ with noc := (hop, n % 8) } }.count 0xC4 none none 1
    .next (if n = 8 then s1.chipFault 4 else s1)

end Sys2Proof.Machine
end

