-- ==== Sys2Proof/Machine/Integrity.lean ====
section
/-! DEFINITION. Self-test windows, sweeps, in-place recovery and the watchdog (18_integrity_faults_and_self_test.md R693 to R704). -/

namespace Sys2Proof.Machine

/-- The management processors run. -/
def State.mgmtUp (s : State) : Bool :=
  s.board.powered && (s.board.ready || decide (3 ≤ s.board.stage)) && (decide (s.power.mode < 3) || s.power.mgmtAwake) &&
    (match s.integ.recovering with | some (7, _) => false | _ => true)

/-- A WRITE of a WO entry is served: the dictionary answers (R734), and the tray is not in role LEAVING (R741). -/
def State.woOpen (s : State) : Bool := s.board.ready && s.mgmtUp && s.pair.role != .leaving

/-- Keep for each open window since when its region's F has been 0 (R695). -/
def State.noteStalls (s : State) : State :=
  { s with integ := { s.integ with windows := s.integ.windows.mapVals fun r w =>
      { w with stalled := if s.fOf r = 0 then some (w.stalled.getD s.now) else none } } }

/-- The next place of a region's turn, from `i` on, whose block is not disabled (R693). [DEDUCED, unsafe, log entry 73] -/
def nextTurn (disabled : Nat) : Nat → Nat → Option Nat
  | 0, _ => none
  | fuel + 1, i => if bitOf disabled (i % 32) then nextTurn disabled fuel (i + 1) else some (i % 32)

/-- A region opens its window on a block (R693, R698): a repeat test due in the present band, else the block whose turn it is. [DEDUCED, unsafe, log entry 73] -/
def State.openWindow (s : State) (r : Nat) : State :=
  if !((s.regions.valAt .reset r).phase = .inService) then s
  else
    match s.integ.windows.look r with
    | some w => { s with integ := { s.integ with windows := s.integ.windows.put r { w with owed := true } } }
    | none =>
      let rep := s.integ.repeats.find? fun x => x.region == r && x.band == s.bandOf r
      let pick := match rep with | some x => some x.block | none => nextTurn (s.disabledOf r) 32 (s.integ.turn.valAt 0 r)
      match pick with
      | none => s
      | some b =>
        let w : TestWindow := ⟨b, s.bandOf r, s.now, none, rep.isSome, false⟩
        ({ s with integ := { s.integ with windows := s.integ.windows.put r w } }.outOfService [turnBlock r b]).noteStalls

/-- SELFTEST_WINDOW_OPEN (R693): every 2 s of Tide, while COMPUTE is UP, all compute regions open a window. -/
def execSelftestWindowOpen (dt : Nat) (s0 : State) : Host.Outcome State Fault Refusal :=
  let s := s0.elapse dt
  let n := s.tideNat / 2000000000
  if s0.clocked && n != s.integ.windowsAt && s.integ.recovering.isNone && s.integ.sweep.isNone then
    .next ((List.range 6).foldl State.openWindow { s with integ := { s.integ with windowsAt := n } })
  else .next s

/-- Lift a block's quarantine in every band (R699). -/
def Integrity.lift (x : Integrity) (r b : Nat) : Integrity :=
  { x with quarantine := x.quarantine.del (r * 32 + b), repeats := x.repeats.filter fun y => !(y.region == r && y.block == b) }

/-- A mismatch (R698, R699): the first one of a block quarantines it for the band and asks for a margin raise; a second one, in any band, disables it. [DEDUCED, unsafe, log entry 73] -/
def State.mismatch (s : State) (r b band : Nat) : State :=
  let id := turnBlock r b
  let key := r * 32 + b
  let since := s.integ.passed.valAt 0 key
  let s1 := ((s.bump 0x603007).raise stSelftestMismatch (beData [(2, id), (1, band)])).health id stSelftestMismatch 3 0 none 0 since
  if s1.integ.mismatched.contains key then
    ({ s1 with integ := s1.integ.lift r b }).disableBlock r b
  else
    let q := s1.integ.quarantine.valAt 0 key
    ({ s1 with integ := { s1.integ with
      quarantine := s1.integ.quarantine.put key (Nat.lor q (2 ^ band)), repeats := s1.integ.repeats ++ [(⟨r, b, band⟩ : RepeatTest)]
      mismatched := s1.integ.mismatched ++ [key] } }).marginRaise r band

/-- The window of a region closes; one that has fallen due meanwhile opens (R695). [DEDUCED, unsafe, log entry 73] -/
def State.closeWindow (s : State) (r : Nat) (w : TestWindow) (advance : Bool) : State :=
  let integ := { s.integ with
    windows := s.integ.windows.del r, turn := if advance then s.integ.turn.setAt 0 r ((w.block + 1) % 32) else s.integ.turn }
  let s1 := { s with integ := integ }
  let s2 := if bitOf (s.disabledOf r) w.block then s1 else s1.backInService [turnBlock r w.block]
  if w.owed then s2.openWindow r else s2

/-- SELFTEST_WINDOW_DONE (R694, R698, R699): steps 3 to 6 last 2 ms. -/
def execSelftestWindowDone (dt : Nat) (r : Region) (pass : Bool) (s0 : State) : Host.Outcome State Fault Refusal :=
  let s := s0.elapse dt
  match s.integ.windows.look r.val with
  | none => .next s
  | some w =>
    if s0.clocked && decide (w.opened + 2000000 ≤ s.now) && s.issues [r.val] then
      let s1 := s.bump 0x603006
      let s2 :=
        if pass then
          let integ := { s1.integ with passed := s1.integ.passed.put (r.val * 32 + w.block) s1.tideNat }
          { s1 with integ := if w.repeating then integ.lift r.val w.block else integ }
        else s1.mismatch r.val w.block w.band
      .next ((s2.closeWindow r.val w (!w.repeating && pass)).settleRegions)
    else .next s

/-- WINDOW_ABANDON (R695): F has been 0 for 10 ms. -/
def execWindowAbandon (dt : Nat) (r : Region) (s0 : State) : Host.Outcome State Fault Refusal :=
  let s := s0.elapse dt
  match s.integ.windows.look r.val with
  | none => .next s
  | some w =>
    match w.stalled with
    | none => .next s
    | some t =>
      if s0.clocked && decide (t + 10000000 ≤ s.now) then .next ((s.bump 0x60300B).closeWindow r.val w false) else .next s

/-- Every compute region in one phase passes to another. -/
def State.repace (s : State) (a b : RegionPhase) : State :=
  (List.range 6).foldl (fun s r => if (s.regions.valAt .reset r).phase = a then
    let s1 := s.modRegion r fun x => { x with phase := b }
    if b = .inService then s1.backInService (regionBlocks r) else s1
  else s) s

/-- A sweep starts (R701); none starts while one runs. In a recovery the drained regions pass to it (R704). [DEDUCED, unsafe, log entry 73] -/
def State.startSweep (s : State) (why : Nat) : State :=
  if s.integ.sweep.isSome then s
  else
    let s1 := (List.range 6).foldl State.dropWindow s
    let s2 := { s1 with integ := { s1.integ with sweep := some (why, s1.now) } }
    if why = 2 then s2.repace .draining .selfTest else s2

/-- SWEEP_START (R701): on request, or in an in-place recovery once the regions are drained and a thermal trip is cleared (R704). -/
def execSweepStart (s : State) : Host.Outcome State Fault Refusal :=
  if !s.clocked || s.limits.tripped || (s.integ.recovering.isNone && !s.woOpen) then .next s
  else .next (s.startSweep (if s.integ.recovering.isSome then 2 else 0))

/-- Answer the partner with COMPARE_RESULT: elements, mismatches, 0 pass, 1 fail, 2 incomplete (Table 15-5). -/
def State.compareAnswer (s : State) (place elements bad verdict : Nat) : State :=
  (s.sendTo place 0x0021 0 0 (beData [(4, elements), (4, bad), (1, verdict)])).1

/-- A sweep that a replay's disagreement started was clean (R703): REPLAY_DISAGREE and a failing COMPARE_RESULT on the standby; the third in a row degrades the tray. -/
def State.cleanAfterReplay (s : State) (standby : Bool) : State :=
  let n := s.integ.disagreements + 1
  let s1 := { s with integ := { s.integ with disagreements := n, degraded := s.integ.degraded || decide (3 ≤ n) } }
  if standby then ((s1.raise stReplayDisagree (beData [(4, s1.integ.disagreed)])).bump 0x60300A).compareAnswer (s1.pairSetting 0x500005) 0 0 1 else s1

/-- SWEEP_DONE (R701, R703): a sweep lasts 640 ms. -/
def execSweepDone (dt : Nat) (mismatches : List (Region × Fin 32)) (s0 : State) : Host.Outcome State Fault Refusal :=
  let s := s0.elapse dt
  match s.integ.sweep with
  | none => .next s
  | some (why, start) =>
    if s.board.powered && s.slackRuns && !s.asleep && decide (start + 640000000 ≤ s.now) then
      let s1 := ({ s with integ := { s.integ with sweep := none } }).bump 0x603008
      let bad := mismatches.filter fun m => !bitOf (s.disabledOf m.1.val) m.2.val
      if bad.isEmpty then
        let s2 := if why = 6 then s1 else s1.raise stSweepClean []
        let s3 := if why = 1 then s2.health 0xFFF stSweepClean 9 0 none 0 0 else s2
        .next ((if why = 4 then s3.cleanAfterReplay true else if why = 5 then s3.cleanAfterReplay false else s3).settleHealth)
      else
        let s2 := bad.foldl (fun s m => s.mismatch m.1.val m.2.val (s.bandOf m.1.val)) s1
        .next (({ s2 with integ := { s2.integ with disagreements := 0 } }).settleRegions)
    else .next s

/-- What the end of a recovery does: regions return to placement, RECOVERED, a FENCED tray enters SHADOW (Table 15-9). -/
def State.recovered (s : State) (cause : Nat) : State :=
  let s1 := (({ s with integ := { s.integ with recovering := none } }).repace .selfTest .inService).raise stRecovered (beData [(1, cause)])
  if s1.pair.role = .fenced then
    let e := s1.enterRole .shadow
    ({ e with pair := { e.pair with passes := 0, fails := 0 } }).settleRegions
  else s1.settleRegions

/-- The faulting unit and the regions are re-initialised and the sweep has ended (R704 steps 2 to 4). -/
def State.recoveryOver (s : State) : Bool :=
  s.clocked && s.integ.persistent.isNone && s.integ.sweep.isNone && !s.limits.tripped &&
    (List.range 6).all fun r => (s.regions.valAt .reset r).phase != .draining

/-- RECOVERY_DONE (R704): placement resumes. -/
def execRecoveryDone (dt : Nat) (s0 : State) : Host.Outcome State Fault Refusal :=
  match s0.integ.recovering with
  | some (cause, _) => if s0.recoveryOver then .next ((s0.elapse dt).recovered cause) else .next (s0.elapse dt)
  | none => .next (s0.elapse dt)

/-- WATCHDOG_MISS (R704, R735): a chip-level fault with cause FIRMWARE; the second miss within 10 s resets the module. [DEDUCED, unsafe, log entry 72] -/
def execWatchdogMiss (dt : Nat) (s0 : State) : Host.Outcome State Fault Refusal :=
  let s := s0.elapse dt
  if !s.board.powered || decide (3 ≤ s.power.mode) then .next s
  else
    match s.integ.watchdog with
    | some t => if s.now ≤ t + 10000000000 then .next ((s.journalClose 3).moduleReset false)
        else .next ({ s with integ := { s.integ with watchdog := some s.now } }.chipFault 7)
    | none => .next ({ s with integ := { s.integ with watchdog := some s.now } }.chipFault 7)

end Sys2Proof.Machine
end

