-- ==== Sys2Proof/Machine/Compare.lean ====
section
/-! DEFINITION. The REPLAY payload (15_fabric_failover_and_spares.md R599) and the comparison of two trays' outputs (R622). -/

namespace Sys2Proof.Machine

/-- Planes of a program's tensors of certain KINDs, in ascending tensor ID and plane number: tensor, plane, address, length in a run. -/
def planesOf (p : Program) (bs : List Binding) (scratch : Nat) (kinds : List Nat) : List (Nat × Nat × Nat × Nat) :=
  p.tensors.zipIdx.flatMap fun (x : TDesc × Nat) =>
    if kinds.contains (tKind x.1) then (planes x.1).map fun pl => (x.2, pl, planeRun p bs scratch x.2 pl) else []

/-- KINDs of what a RUN reads and of what it writes (R599 items 5 and 6). -/
def inputKinds : List Nat := [0, 2]
def outputKinds : List Nat := [1, 2]

/-- The bytes of these planes as they lie in memory; none where a plane is not mapped or a read of it delivers poison (R36). -/
def State.planeBytes (s : State) (c : Nat) (seq : Option Nat) (l : List (Nat × Nat × Nat × Nat)) : Option (List Byte) :=
  (l.mapM fun x => s.readCvaN c seq x.2.2.1 x.2.2.2).map List.flatten

/-- The bytes of a loaded program, read from the frames of its copy (R200). -/
def State.progBytes (s : State) (p : Program) : List Byte :=
  let all := p.frames.flatMap fun f => s.hbm.readN (f * granule) granule
  all.take (hdrProgramBytes all)

/-- A binding entry as it lies in memory (Table 5-8). -/
def bindingBytes (b : Binding) : List Byte := leBytes 32 (b.tensor + b.plane * 2 ^ 16 + b.addr * 2 ^ 64 + b.len * 2 ^ 128)

/-- The REPLAY payload of a RUN (R599). -/
def replayPayload (tide : Nat) (entry : BitVec 512) (bs : List Binding) (prog inputs outputs : List Byte) (scratchBytes : Nat) : List Byte :=
  beData [(8, tide), (4, prog.length), (2, bs.length), (2, 0), (4, inputs.length), (4, outputs.length), (4, scratchBytes)] ++
    List.replicate 36 0 ++ leBytes 64 entry.toNat ++ bs.flatMap bindingBytes ++ prog ++ inputs ++ outputs

/-- The largest REPLAY payload: 64 MiB (R599). -/
def replayLimit : Nat := 67108864

/-- A REPLAY payload taken apart. -/
structure ReplayParts where
  entry : BitVec 512
  bindings : List Binding
  prog : Program
  inputs : List Byte
  outputs : List Byte

/-- Take a REPLAY payload apart; none where it does not hold a program. -/
def parseReplay (b : List Byte) : Option ReplayParts :=
  let be (o n : Nat) : Nat := beNat ((b.drop o).take n)
  let np := be 8 4
  let nb := be 12 2
  let ni := be 16 4
  let rest := b.drop (128 + 32 * nb)
  match validateProgram (rest.take np) np 0 with
  | .error _ => none
  | .ok p =>
    let bs := (chunks 32 nb ((b.drop 128).take (32 * nb))).map fun c => (bindingOf (leNat c)).2
    some ⟨BitVec.ofNat 512 (fieldAt b 64 64), bs, p, (rest.drop np).take ni, (rest.drop (np + ni)).take (be 20 4)⟩

/-- Where a plane of one of two copies lies for the comparison: above every CVA. -/
def copyBase (copy tid plane : Nat) : Nat := (copy + 1) * 2 ^ 64 + tid * 2 ^ 42 + plane * 2 ^ 40

/-- Lay the planes of a copy out one after another. -/
def layPlanes (copy : Nat) : List (Nat × Nat × Nat × Nat) → List Byte → Mem → Mem
  | [], _, m => m
  | x :: xs, bs, m => layPlanes copy xs (bs.drop x.2.2.2) (m.writeN (copyBase copy x.1 x.2.1) (bs.take x.2.2.2))

/-- A tensor of a copy. -/
def copyView (copy tid : Nat) (t : TDesc) : TView := ⟨t, copyBase copy tid 0, copyBase copy tid 1, copyBase copy tid 2, copyBase copy tid 3⟩

/-- The value of an element as its format holds it, with its block's scale in an MX format; none where it holds none. -/
def State.storedVal (s : State) (v : TView) (idx : List Nat) : Option Val :=
  match s.elem ⟨16, none⟩ v idx with
  | .val x =>
    if (tFmt v.t).isMx then (s.mxScale ⟨16, none⟩ v (storedIdx v.t idx)).map fun b => x.mul (e8m0Val b) else some x
  | _ => none

/-- The ulp of a format at a magnitude (R622); that of a subnormal or of zero is the smallest subnormal. In an MX format the smallest subnormal takes the smallest block scale. [DEDUCED, unsafe, log entry 46] -/
def ulpAt (f : Fmt) (v : Val) : Val :=
  match f.fp with
  | none => Val.zero
  | some p =>
    let least : Int := 1 - p.bias - p.mbits - (if f.isMx then 127 else 0)
    .fin false 1 (if v.isZero then least else max least (exOf v - p.mbits))

/-- The larger of two values. -/
def Val.larger (a b : Val) : Val := if a.lt b then b else a

/-- Two output elements agree (R622): COMPARE_ULPS, u₂. [DEDUCED, unsafe, log entry 46] -/
def agree (f : Fmt) (ulps : Nat) (u2 : Val) (a b : Option Val) : Bool :=
  match a, b with
  | some x, some y =>
    if x.isNan && y.isNan then true
    else if f.isInt then x.eqv y
    else if x.isInf && y.isInf then x.eqv y
    else if x.isFinite && y.isFinite then
      (x.sub y).abs.le ((Val.ofNat ulps).mul ((ulpAt f (x.abs.larger y.abs)).larger u2))
    else false
  | none, none => true
  | _, _ => false

/-- Elements and disagreements of one output tensor: copy 0 is the active's. [DEDUCED, unsafe, log entry 46] -/
def State.compareTensor (s : State) (tid : Nat) (t : TDesc) : Nat × Nat :=
  let f := tFmt t
  let idx := allIdx (tDims t)
  let m := idx.foldl (fun a i => match s.storedVal (copyView 0 tid t) i with
    | some v => if v.isFinite then a.larger v.abs else a
    | none => a) Val.zero
  let u2 := ulpAt f (m.scale2 (-(s.dictVal 0x520006 : Int)))
  (idx.length, (idx.filter fun i =>
    !agree f (s.dictVal 0x520003) u2 (s.storedVal (copyView 0 tid t) i) (s.storedVal (copyView 1 tid t) i)).length)

/-- Elements compared and disagreements of two sets of output planes of a run, the active's first (R622). -/
def State.compareOutputs (s : State) (x : ReplayParts) (active other : List Byte) : Nat × Nat :=
  let l := planesOf x.prog x.bindings (entField x.entry 384 64) outputKinds
  let s1 := { s with hbm := layPlanes 1 l other (layPlanes 0 l active []) }
  x.prog.tensors.zipIdx.foldl (fun a t =>
    if outputKinds.contains (tKind t.1) then
      let r := s1.compareTensor t.2 t.1
      (a.1 + r.1, a.2 + r.2)
    else a) (0, 0)

/-- A comparison passes (R622). -/
def State.comparePasses (s : State) (r : Nat × Nat) : Bool := decide (r.2 * 1000000 ≤ s.dictVal 0x520004 * r.1)

/-- Disagreements per million elements. -/
def perMillion (r : Nat × Nat) : Nat := if r.1 = 0 then 0 else Config.openDiv (r.2 * 1000000) r.1

/-- COMPARE_MISMATCH, counted (R623, R624). -/
def State.compareMismatch (s : State) (r : Nat × Nat) : State := (s.bump 0x550007).raise stCompareMismatch (beData [(4, perMillion r)])

end Sys2Proof.Machine
end

