-- ==== Sys2Proof/Machine/Jobs.lean ====
section
/-! DEFINITION. Placement, scoreboards and the end of RUN jobs (05_graph_contract_and_queues.md R211 to R213, R218, R219; 15 R599, R623, R624; 14 R561, R578). -/

namespace Sys2Proof.Machine

/-- A job that waits for placement may start now (R218): its context runs, nothing has ended it, and its queue has completion space (R208). -/
def State.jobStartable (s : State) (j : Job) : Bool := !j.placed && j.fault.isNone && !(s.queue j.ctx j.q).full && s.ctxRunning j.ctx && s.mayRun j.ctx

/-- The scheduler prefers job `a` to job `b` (R218): PRIORITY, earliest non-zero DEADLINE, earliest doorbell. -/
def preferJob (a b : Job) : Bool :=
  let key (d : Nat) : Nat := if d = 0 then 2 ^ 64 else d
  if a.priority != b.priority then decide (b.priority < a.priority)
  else if key a.deadline != key b.deadline then decide (key a.deadline < key b.deadline)
  else decide (a.bell < b.bell)

/-- The job that the scheduler starts next. -/
def State.nextJob (s : State) : Option (Nat × Job) :=
  (s.jobs.filter fun e => s.jobStartable e.2).foldl (fun best e => match best with
    | none => some e
    | some b => if preferJob e.2 b.2 then some e else some b) none

/-- Operator `i` may issue (R219): hazards by tensor ID with the earlier operators that have not completed, and AFTER. -/
def opReady (ops : List (BitVec 512)) (phases : List OpPhase) (i : Nat) : Bool :=
  match ops[i]? with
  | none => false
  | some r =>
    let meets (a b : List Nat) : Bool := a.any b.contains
    let clear (k : Nat) : Bool :=
      phases[k]? == some .complete ||
        (match ops[k]? with
        | some e => !meets (opOuts e) (opIns r) && !meets (opIns e ++ opOuts e) (opOuts r)
        | none => true)
    (List.range i).all clear && (!opAfterValid r || phases[opAfter r]? == some .complete)

/-- Issue every operator that may issue. -/
def Job.issue (j : Job) (p : Program) : Job :=
  { j with ops := j.ops.zipIdx.map fun x => if x.1 = .waiting ∧ opReady p.operators j.ops x.2 = true then .issued else x.1 }

/-- Its comparison needs the inputs of a RUN as read at its start (R599, R623, R702): this tray is ACTIVE and the context is mirrored. -/
def State.keepsInputs (s : State) (c : Nat) : Bool := s.pair.role = .active && s.mirrored c

/-- JOB_PLACE (R218, R219, R635): the job takes its regions, the tables T of its run are formed (R283), and its first operators issue. -/
def execJobPlace (dt : Nat) (s0 : State) : Host.Outcome State Fault Refusal :=
  let s := s0.elapse dt
  match if s0.computeOpen then s.nextJob else none with
  | none => .next s
  | some (id, j) =>
    match s.progs.look j.prog with
    | none => .next s
    | some p =>
      let l := s.freeRegions.take (if p.maxRegions = 0 then 6 else p.maxRegions)
      if l.isEmpty then .next s
      else
        let inputs := if s.keepsInputs j.ctx then s.planeBytes j.ctx (some j.seq) (planesOf p j.bindings j.scratch inputKinds) else none
        let j1 := { j with placed := true, regions := l, started := s.now, inputs := inputs, padT := s.formTables j p }
        let s1 := (s.draw.holdRegions l (.job id) j.ctx).workStarts.commandStep j.ctx
        .next ({ s1 with jobs := s1.jobs.put id (j1.issue p) }.count 0xC1 none (some j.ctx) 1)

/-- A write of the job is stalled in copy-on-write (R161). -/
def State.jobStalled (s : State) (job : Nat) : Bool := s.pm.stalls.vals.any fun w => w.job == job

/-- OPERATOR_COMPLETE (R219): an operator whose outputs are written completes; those that waited for it issue. -/
def execOperatorComplete (dt : Nat) (job : Nat) (op : Nat) (s0 : State) : Host.Outcome State Fault Refusal :=
  let s := s0.elapse dt
  match s.jobs.look job with
  | none => .next s
  | some j =>
    match s.progs.look j.prog with
    | none => .next s
    | some p =>
      if s0.clocked && j.placed && j.fault.isNone && j.ops[op]? == some .computed && s.issues j.regions && !s.jobStalled job then
        .next { s with jobs := s.jobs.put job (Job.issue { j with ops := j.ops.set op .complete } p) }
      else .next s

/-- The job's regions return to placement. -/
def State.releaseRegions (s : State) (l : List Nat) (id : Nat) : State :=
  l.foldl (fun s r => s.modRegion r fun x => if x.holder = .job id then { x with holder := .free } else x) s

/-- Nanojoules as an FP32 number of millijoules under RNE (R578). -/
def energyMj (nj : Nat) : Nat := (encode32 (round32 ((Val.ofNat nj).divApprox (Val.ofNat 1000000)))).toNat

/-- STATUS and RESULT of a job (Table 5-14, R252). [DEDUCED, safe, log entry 59] -/
def Job.answer (j : Job) : Status × Nat :=
  match j.fault, j.index with
  | some f, _ => f
  | none, some op => (stIndexRange, op)
  | none, none => (stOk, 0)

/-- DEADLINE_MISSED (R212). -/
def Job.missed (j : Job) (tide : Nat) : Bool := j.deadline != 0 && decide (j.deadline < tide)

/-- The rerun of a JOB_FAULT run (R213), if it may have one. -/
def Job.rerun (j : Job) (p : Program) (e : QEntry) (id epoch : Nat) : Option QEntry :=
  if j.answer.1 = stJobFault ∧ entAutoRestart e.raw = true ∧ e.rerun = false ∧ j.once = false ∧ (p.tensors.all fun t => tKind t != 2) = true
  then some { e with id := id, phase := .fetched, rerun := true, epoch := epoch } else none

/-- The REPLAY payload of a RUN that completes, from its outputs; none where its inputs were not kept (R599, R702). -/
def State.runPayload (s : State) (j : Job) (p : Program) (raw : BitVec 512) (outs : List Byte) : Option (List Byte) :=
  j.inputs.map fun ins => replayPayload s.tideNat raw j.bindings (s.progBytes p) ins outs p.scratch

/-- Compare this tray's OUTPUT of a context with the partner's where both are there and their TAGs match (R624): own payload, partner's body. -/
def State.compareOutput (s : State) (c : Nat) : State :=
  match s.pair.outputs.look c, s.pair.outputs.look (32 + c) with
  | some own, some body =>
    match parseReplay own with
    | none => s
    | some x =>
      if (entTag x.entry).toNat = beNat (body.take 4) then
        let mine := x.outputs
        let his := body.drop 4
        let r := if s.pair.role = .active then s.compareOutputs x mine his else s.compareOutputs x his mine
        let s1 := { s with pair := { s.pair with outputs := (s.pair.outputs.del c).del (32 + c) } }
        if s.comparePasses r then s1 else s1.compareMismatch r
      else s
  | _, _ => s

/-- Keep a completed RUN for the standby's replay (R702), and send it to a SHADOW partner (R623). -/
def State.shareReplay (s : State) (payload : List Byte) : State :=
  let k := { s with pair := { s.pair with outputs := s.pair.outputs.put 16 payload } }
  if k.pair.partnerRole == some .shadow then (k.sendTo (s.pairSetting 0x500005) 0x0020 0 0 payload).1 else k

/-- What the pair takes of a completed RUN of a mirrored context: a REPLAY (R623, R702), its OUTPUT under COMPARE_MODE = 1 (R624); nothing where a read of its outputs delivers poison (R36). -/
def State.shareRun (s : State) (j : Job) (p : Program) (raw : BitVec 512) : State :=
  if !s.mirrored j.ctx || s.pair.role = .init then s
  else
    match s.planeBytes j.ctx (some j.seq) (planesOf p j.bindings j.scratch outputKinds) with
    | none => s
    | some outs =>
      let s1 := match if s.pair.role = .active then s.runPayload j p raw outs else none with
        | some payload => if payload.length ≤ replayLimit then s.shareReplay payload else s
        | none => s
      if s1.dictVal 0x520002 = 1 then
        let own := replayPayload s.tideNat raw j.bindings (s.progBytes p) (j.inputs.getD []) outs p.scratch
        let k := { s1 with pair := { s1.pair with outputs := s1.pair.outputs.put j.ctx own } }
        ((k.sendTo (s.pairSetting 0x500005) 0x0022 j.ctx 0 (beBytes 4 (entTag raw).toNat ++ outs)).1).compareOutput j.ctx
      else s1

/-- A job ends: its regions, its page admission and its program's use end; its record is held for writing. -/
def State.endJob (s0 : State) (id : Nat) (j : Job) (p : Program) (e : QEntry) : State :=
  let open_ := s0.pick 0
  let s := s0.draw
  let a := j.answer
  let missed := j.missed s.tideNat
  let again := j.rerun p e s.nextId (s.queue j.ctx j.q).epoch
  let shared := if a.1 = stOk then s.shareRun j p e.raw else s
  let s1 := ({ shared with jobs := shared.jobs.del id, nextId := shared.nextId + 1 }.releaseRegions j.regions id).discharge j.ctx j.seq
  let s2 := (s1.dropUser j.prog).completeEntry j.ctx j.q e.id a.1 (BitVec.ofNat 32 a.2) j.numFlags 0
    (energyMj (j.energy + open_)) again
  let s3 := if a.1 = stJobFault then s2.raise stJobFault (beData [(2, match j.regions with | r :: _ => unitId r 0 | [] => 0xFFF)]) else s2
  if missed && j.placed && s3.limits.bindAt.any (fun b => decide (j.started ≤ b.1)) then s3.bump 0x211002 else s3

/-- JOB_COMPLETE (R211): every operator has completed, or the job has faulted and no write of it is stalled. -/
def execJobComplete (dt : Nat) (job : Nat) (s0 : State) : Host.Outcome State Fault Refusal :=
  let s := s0.elapse dt
  match s.jobs.look job with
  | none => .next s
  | some j =>
    let excess := j.fault.isSome || (j.placed && (j.ops.all fun x => x = .complete) && j.regions.all s.granting)
    if s0.clocked && excess && !s.jobStalled job then
      match s.progs.look j.prog, (s.queue j.ctx j.q).entries.find? fun e => e.id == j.entry with
      | some p, some e => .next (s.endJob job j p e)
      | _, _ => .next (({ s with jobs := s.jobs.del job }.releaseRegions j.regions job).discharge j.ctx j.seq |>.dropUser j.prog)
    else .next s

end Sys2Proof.Machine
end

