-- ==== Sys2Proof/Machine/Limits.lean ====
section
/-! DEFINITION. Power limits, bands, the trip, margins and energy (14_power_limits_energy_and_margins.md R550 to R583). -/

namespace Sys2Proof.Machine

/-- Limit of a rail in mA (Table 14-1), in the order of R583. -/
def railLimit (i : Nat) : Nat :=
  if i < 6 then 240000
  else match i with
  | 6 => 320000 | 7 => 220000 | 8 => 140000 | 9 => 260000 | 10 => 6000 | _ => 200

/-- Send an event that marks the start of limiting, at most once per second for each rail or region (R582). -/
def State.raiseOnce (s : State) (code : Status) (item : Nat) (data : List Byte) : State :=
  let k := code.toNat * 16 + item
  let due := match s.limits.sent.look k with | some t => decide (t + 1000000000 ≤ s.now) | none => true
  if due then { s with limits := { s.limits with sent := s.limits.sent.put k s.now } }.raise code data else s

/-- Count an onset (R573): once when the condition begins to hold. -/
def State.onset (s : State) (counter region : Nat) (holds : Bool) : State :=
  let k := counter * 8 + region
  if holds then
    if s.limits.onsets.contains k then s
    else { s with limits := { s.limits with onsets := s.limits.onsets ++ [k] } }.bump (0x251000 + counter)
  else { s with limits := { s.limits with onsets := s.limits.onsets.filter (· != k) } }

/-- What a rail enforcer sets F to for a window above its limit (R555). [DEDUCED, unsafe, log entry 57] -/
def enforced (f limit mean : Nat) : Nat := min (f - 1) (f * limit / mean)

/-- The rails whose enforcers act on a compute region, with their means and limits: its VCOMP, the sum of the six, VSRAM (Table 14-1). -/
def regionRails (w : PowerWindow) (r : Nat) : List (Nat × Nat × Nat) :=
  let mean (i : Nat) : Nat := (w.rails[i]?).getD 0
  let sum := ((List.range 6).map mean).foldl (· + ·) 0
  [(r, mean r, railLimit r), (r, sum, 1250000), (6, mean 6, railLimit 6)]

/-- The rail enforcers of one compute region (R555): the lowest fraction that a rail above its limit asks for; 1 more where all are at or below 0.95 of theirs. [DEDUCED, unsafe, log entry 57] -/
def State.enforceRegion (s : State) (w : PowerWindow) (r : Nat) : State :=
  let own := s.limits.fRail.valAt 64 r
  let excess := (regionRails w r).filter fun x => decide (x.2.2 < x.2.1)
  let quiet := (regionRails w r).all fun x => decide (x.2.1 * 100 ≤ x.2.2 * 95)
  let f := if excess.isEmpty then (if quiet then min 64 (own + 1) else own)
    else excess.foldl (fun a x => min a (enforced (s.fOf r) x.2.2 x.2.1)) own
  let s1 := { s with limits := { s.limits with fRail := s.limits.fRail.setAt 64 r f } }
  match excess with
  | x :: _ => if own = 64 ∧ f < 64 then s1.raiseOnce stRailLimiting x.1 (beData [(1, x.1), (4, x.2.1)]) else s1
  | [] => s1

/-- The enforcer of VSOC, VIO or VHBM (R555). -/
def State.enforceAgent (s : State) (w : PowerWindow) (i : Nat) : State :=
  let mean := (w.rails[i]?).getD 0
  let own := s.limits.fAgent.valAt 64 i
  let lim := railLimit i
  let f := if lim < mean then enforced own lim mean else if mean * 100 ≤ lim * 95 then min 64 (own + 1) else own
  let s1 := { s with limits := { s.limits with fAgent := s.limits.fAgent.setAt 64 i f } }
  if own = 64 ∧ f < 64 then s1.raiseOnce stRailLimiting i (beData [(1, i), (4, mean)]) else s1

/-- The removal of a rail (R556): 125 % of the limit in two windows in a row, VAON and VWAKE also above the limit in 50. [DEDUCED, unsafe, log entry 57] -/
def State.watchRail (s : State) (w : PowerWindow) (i : Nat) : State :=
  let mean := (w.rails[i]?).getD 0
  let lim := railLimit i
  let step (k : Nat) (hit : Bool) (m : Store Nat) : Store Nat := m.setAt 0 k (if hit then m.valAt 0 k + 1 else 0)
  let o1 := step i (decide (lim * 125 < mean * 100)) s.limits.excess
  let o2 := if 10 ≤ i then step (i + 2) (decide (lim < mean)) o1 else o1
  let s1 := { s with limits := { s.limits with excess := o2, current := s.limits.current.setAt 0 i mean } }
  let s2 := if lim < mean then s1.bump (0x221001 + i) else s1
  let remove := decide (2 ≤ o2.valAt 0 i) || (decide (10 ≤ i) && decide (50 ≤ o2.valAt 0 (i + 2)))
  if remove && !s2.limits.removed.contains i then
    ({ s2 with limits := { s2.limits with removed := s2.limits.removed ++ [i] } }.raise stRailFault (beData [(1, i), (4, mean)])).chipFault 2
  else s2

/-- lo and hi of a region's V_t under the VOLTAGE loop mode (Table 14-4, R574). -/
def State.voltBounds (s : State) (r : Nat) : Nat × Nat :=
  let v := s.vLoNow r
  match s.dictVal 0x250001 with
  | 0 => (v, max v 900)
  | 1 => (max v (s.dictVal 0x250002), max v (min 900 (s.dictVal 0x250003)))
  | _ => (v, max v (s.dictVal 0x250004))

/-- V_t of a region within its bounds. -/
def State.vtOf (s : State) (r : Nat) : Nat := max (s.voltBounds r).1 (min (s.voltBounds r).2 (s.limits.vt.valAt 900 r))

/-- Write V_t of a region. -/
def State.setVt (s : State) (r v : Nat) : State := { s with limits := { s.limits with vt := s.limits.vt.setAt 900 r v } }

/-- Every V_t moves by 10 mV within its bounds. -/
def State.moveVt (s : State) (up : Bool) : State :=
  (List.range 6).foldl (fun s r =>
    let b := s.voltBounds r
    let v := s.vtOf r
    s.setVt r (if up then min b.2 (v + 10) else max b.1 (v - 10))) s

/-- The cap is binding (R561). -/
def State.capBinds (s : State) : Bool :=
  decide (s.limits.fCap < 64) || (List.range 6).any fun r => decide (s.vtOf r < (s.voltBounds r).2)

/-- The cap loop (R559): P in mW. -/
def State.capLoop (s : State) (p : Nat) : State :=
  let c := s.limits.cap * 1000
  let base := min s.limits.pBase 300 * 1000
  let f := s.limits.fCap
  if c < p then
    let f1 := f * (c - base) / (p - base)
    let throttle := if f1 = 0 then 64 * (c - base) / (p - base) else 64
    { s with limits := { s.limits with fCap := f1, fThrottle := throttle } }.moveVt false
  else
    let s1 := { s with limits := { s.limits with fThrottle := 64 } }
    let room := decide (p * 100 ≤ c * 97)
    if f < 64 then
      let s2 := s1.moveVt false
      if room then { s2 with limits := { s2.limits with fCap := min 64 (f + 4) } } else s2
    else if room then s1.moveVt true
    else s1

/-- Keep whether the cap is binding, and report it when that changes (R561, Table 14-10). -/
def State.noteCap (s : State) : State :=
  let b := s.capBinds
  let was := s.limits.capBinding
  let at_ := if b || was then some (s.now, s.tideNat) else s.limits.bindAt
  let s1 := { s with limits := { s.limits with capBinding := b, bindAt := at_ } }
  if b && !was then s1.raiseOnce stCapBinding 0 (beData [(2, s1.limits.cap), (1, 1)])
  else if was && !b then s1.raise stCapBinding (beData [(2, s1.limits.cap), (1, 0)])
  else s1

/-- VCOMP follows V_t, held at the thermal ceiling and never below V_lo, by at most 10 mV in a window (5 mV/µs, R559); a region whose VCOMP has reached a risen V_lo issues again (R567). [DEDUCED, unsafe, log entry 57] -/
def State.followVolts (s : State) (r : Nat) : State :=
  let lo := s.vLoNow r
  let want := min 900 (max lo (min (s.vtOf r) (s.limits.ceiling.valAt 900 r)))
  let v := s.vcompOf r
  let v1 := if v < want then min want (v + 10) else max want (v - 10)
  { s with limits := { s.limits with
      vcomp := s.limits.vcomp.setAt 900 r v1
      rising := s.limits.rising.setAt false r (s.limits.rising.valAt false r && decide (v1 < lo)) } }

/-- The onsets of R573 for the set point of a region: `asked` is whether the cap loop asked for a lower one in this window. -/
def State.countOnsets (s : State) (r : Nat) (asked aims : Bool) : State :=
  let lo := s.vLoNow r
  let b := s.voltBounds r
  let v := s.vtOf r
  let mode := s.dictVal 0x250001
  let bound := if mode = 1 then s.dictVal 0x250003 else s.dictVal 0x250004
  let safety := (mode != 0 && decide (bound < lo)) || (asked && v == lo && b.1 == lo) || decide (s.limits.vt.valAt 900 r < lo)
  let s1 := s.onset 1 r safety
  let s2 := s1.onset 2 r (decide (v < b.2))
  let s3 := s2.onset 3 r (decide (s.limits.ceiling.valAt 900 r < v))
  s3.onset 4 r (mode != 0 && decide (b.2 < 900) && v == b.2 && aims)

/-- The loops act on a window: compute rails on, not on the way to or from a sleep (Table 14-6). -/
def State.loopsRun (s : State) : Bool := decide (s.power.mode < 2) && s.power.entering.isNone && s.power.exiting.isNone

/-- The enforcers, the cap loop and VCOMP at the end of a window. -/
def State.runLoops (s : State) (w : PowerWindow) : State :=
  let s1 := (List.range 6).foldl (fun s r => s.enforceRegion w r) s
  let s2 := [7, 8, 9].foldl (fun s i => s.enforceAgent w i) s1
  let asked := decide (s2.limits.cap * 1000 < w.input) || decide (s2.limits.fCap < 64)
  let aims := decide (w.input * 100 ≤ s2.limits.cap * 97000) && s2.limits.fCap == 64
  let s3 := s2.capLoop w.input
  let s4 := (List.range 6).foldl (fun s r => s.countOnsets r asked aims) s3
  let s5 := (List.range 6).foldl (fun s r => s.setVt r (s.vtOf r)) s4
  ((List.range 6).foldl State.followVolts s5).noteCap

/-- POWER_WINDOW_END (R550, R555, R556, R559): at multiples of 2,000 of Tide. The compute regions have leaked for its 2,000 ns (R575). [DEDUCED, safe, log entry 60] -/
def execPowerWindowEnd (dt : Nat) (w : PowerWindow) (s0 : State) : Host.Outcome State Fault Refusal :=
  let s := s0.elapse dt
  if s.board.powered && s.power.mode != 4 && s.tideNat % 2000 == 0 then
    let s1 := { s with limits := { s.limits with inputNj := s.limits.inputNj + 2 * w.input, packageNj := s.limits.packageNj + 2 * w.package } }
    let s2 := if s1.limits.capBinding then s1.bumpBy 0x211001 2000 else s1
    let s3 := if s2.loopsRun then ((List.range 6).foldl (fun s r => s.useRegion r 2000 []) s2).runLoops w else s2
    .next ((List.range 12).foldl (fun s i => s.watchRail w i) s3).noteStalls
  else .next s

/-- A cap write reaches the power controller (R557, R558): source 1 the dictionary, 2 PWR_CAP. [DEDUCED, unsafe, log entry 58] -/
def State.setCap (s : State) (source watts : Nat) : State :=
  if watts < 350 then
    let s1 := { s with limits := { s.limits with cap := 350, capSource := source, capStatus := stCapUnachievable } }
    s1.raise stCapUnachievable (beData [(2, watts)])
  else
    { s with limits := { s.limits with cap := min watts 1650, capSource := source, capStatus := stOk } }.bump 0x211003

/-- CAP_WRITE (R557, R558): from the dictionary, or a write of PWR_CAP, which PF0 alone has. [DEDUCED, unsafe, log entry 58] -/
def execCapWrite (who : CapWriter) (watts : Nat) (s : State) : Host.Outcome State Fault Refusal :=
  match who with
  | .dictionary => if s.mgmtUp && decide (watts ≤ 1650) then .next (s.setCap 1 watts) else .next s
  | .register fn =>
    s.regWrite fn.val 0x501000 false (.capWrite who watts) fun s => if fn.val = 0 then s.setCap 2 (watts % 2048) else s

/-- Lower boundary of a band in °C (Table 14-3). [DEDUCED, unsafe, log entry 58] -/
def bandFloor : Nat → Int
  | 0 => -128 | 1 => 15 | 2 => 30 | 3 => 45 | 4 => 60 | 5 => 75 | 6 => 90 | _ => 100

/-- The band after a reading (R562): up at a boundary, down 2 °C below one. -/
def nextBand (old : Nat) (t : Int) : Nat :=
  let up := ((List.range 8).filter fun b => decide (bandFloor b ≤ t)).length - 1
  let stay := ((List.range 8).filter fun b => decide (bandFloor b - 2 < t)).length - 1
  if old < up then up else min old stay

/-- The highest of a region's readings (R551). -/
def hottest : List Int → Option Int
  | [] => none
  | t :: ts => some (ts.foldl max t)

/-- A region's junction and band take a reading (R562, R567); a change of band lets Deep Sleep be tried again (R537). -/
def State.readRegion (s : State) (r : Nat) (l : List Int) : State :=
  match hottest l with
  | none => s
  | some t =>
    let old := s.bandOf r
    let b := nextBand old t
    let s1 := { s with limits := { s.limits with junction := s.limits.junction.setAt 25 r t, band := s.limits.band.setAt 1 r b } }
    if b = old then s1
    else
      let s2 := { s1 with power := { s1.power with missed := false } }
      if r < 6 ∧ s.vLo r old < s.vLo r b then s2.settleVlo r else s2

/-- The first sensor at 105 °C or more: region and reading. -/
def tripAt (sensors : List (List Int)) : Option (Nat × Int) :=
  (sensors.zipIdx.flatMap fun x => (x.1.filter fun t => decide (105 ≤ t)).map fun t => (x.2, t)).head?

/-- SENSOR_READ (R551, R562, R564, R567). [DEDUCED, safe, log entry 60] -/
def execSensorRead (dt : Nat) (sensors : List (List Int)) (s0 : State) : Host.Outcome State Fault Refusal :=
  let s := s0.elapse dt
  if !s.board.powered || s.power.mode == 4 then .next s
  else
    let s1 := (sensors.zipIdx.take 11).foldl (fun s x => s.readRegion x.2 x.1) s
    let cool := sensors.all fun l => l.all fun t => decide (t ≤ 95)
    let s2 := { s1 with limits := { s1.limits with coolSince := if cool then some (s1.limits.coolSince.getD s1.now) else none } }
    match if s2.limits.tripped then none else tripAt (sensors.take 11) with
    | some (r, t) =>
      let s3 := { s2 with limits := { s2.limits with tripped := true } }.raise stThermalTrip (beData [(1, r), (1, tempByte t)])
      .next (s3.chipFault 1).noteStalls
    | none => .next s2.noteStalls

/-- THERMAL_TRIP_CLEAR (R564): every sensor has read 95 °C or less for 1 s; the loops resume from F = 0 (Table 14-6). [DEDUCED, unsafe, log entry 58] -/
def execThermalTripClear (dt : Nat) (s0 : State) : Host.Outcome State Fault Refusal :=
  let s := s0.elapse dt
  match s.limits.coolSince with
  | some t =>
    if s.limits.tripped && decide (t + 1000000000 ≤ s.now) then
      let zero : Store Nat := (List.range 6).map fun r => (r, 0)
      .next { s with limits := { s.limits with tripped := false, fCap := 0, fRail := zero, fThermal := zero } }.noteStalls
    else .next s
  | none => .next s

/-- The thermal target T (Table 14-4); none in FIXED. -/
def State.thermalTarget (s : State) : Option Int :=
  match s.dictVal 0x250005 with
  | 0 => some 95
  | 1 => some (s.dictVal 0x250006 : Nat)
  | _ => none

/-- The thermal loop on one region (R563). -/
def State.thermalStep (s : State) (target : Int) (r : Nat) : State :=
  let t := s.junctionOf r
  let c := s.limits.ceiling.valAt 900 r
  let f := s.limits.fThermal.valAt 64 r
  let lo := min 900 (s.vLoNow r)
  let set (c f : Nat) : State := { s with limits := { s.limits with ceiling := s.limits.ceiling.setAt 900 r c, fThermal := s.limits.fThermal.setAt 64 r f } }
  if target ≤ t then
    let s1 := if lo < c then set (max lo (c - 10)) f else set c (f - 4)
    if c = 900 ∧ f = 64 then s1.raiseOnce stThermalLimiting r (beData [(1, r), (1, tempByte t)]) else s1
  else if t ≤ target - 3 then
    if f < 64 then set c (min 64 (f + 4)) else set (min 900 (c + 10)) f
  else s

/-- THERMAL_LOOP_TICK (R563): every 1 ms. [DEDUCED, unsafe, log entry 58] -/
def execThermalLoopTick (dt : Nat) (s0 : State) : Host.Outcome State Fault Refusal :=
  let s := s0.elapse dt
  match s.thermalTarget with
  | some t =>
    if s.board.powered && s.loopsRun then .next ((List.range 6).foldl (fun s r => s.thermalStep t r) s).noteStalls else .next s
  | none => .next s

/-- MARGIN_RAISE (R570). -/
def execMarginRaise (r : Region) (band : Fin 8) (s : State) : Host.Outcome State Fault Refusal :=
  if s.mgmtUp then .next (s.marginRaise r.val band.val) else .next s

/-- A quotient of energies as FP32; free where the spec states none, at a measured energy of 0. [DEDUCED, safe, log entry 59] -/
def State.energyRatio (s : State) (n : Int) (d : Nat) : BitVec 32 :=
  if d = 0 then BitVec.ofNat 32 (s.pick 0) else encode32 (round32 ((Val.ofInt n).divApprox (Val.ofNat d)))

/-- `e` times the scale s of an interval (R577), in nJ. -/
def scaled (sc : Nat × Nat) (e : Nat) : Nat := if sc.2 = 0 then 0 else Config.openDiv (e * sc.1) sc.2

/-- A context's energy grows (R579). -/
def State.ctxEnergy (s : State) (c nj : Nat) : State :=
  let x := s.ctx c
  s.setCtx c { x with energy := x.energy + nj }

/-- Attribute the energy of an interval to its holder (R576): to the context, and to the job or the members of the step while they run. [DEDUCED, safe, log entry 59] -/
def State.bookEnergy (s : State) (h : EnergyHolder) (nj : Nat) : State :=
  match h with
  | .context c => s.ctxEnergy c.val nj
  | .job c id =>
    match s.jobs.look id with
    | none => s.ctxEnergy c.val nj
    | some j => { s with jobs := s.jobs.put id { j with energy := j.energy + nj } }.ctxEnergy c.val nj
  | .step c seq =>
    let s1 := s.ctxEnergy c.val nj
    match s.serving.steps.look c.val with
    | none => s1
    | some st =>
      let total := st.members.foldl (fun a m => a + m.charged) 0
      if total = 0 ∨ st.seq ≠ seq then s1
      else st.members.foldl (fun s m => s.modRequest m.req fun r => { r with energy := r.energy + Config.openDiv (nj * m.charged) total }) s1

/-- The place of a term among the coefficients. -/
def energyTermCode : EnergyTerm → Nat
  | .lanes t => 9 + t.val
  | .sramRead => 13 | .sramWritten => 14 | .poolRead => 15 | .poolWritten => 16
  | .flitHops => 17
  | .hbmRead => 18 | .hbmWritten => 19 | .activations => 20
  | .luma k => 32 + k.val

/-- Units of 1 fJ · (1/800)² in a nJ. -/
def energyUnit : Nat := 640000 * 1000000

/-- The energy of a compute region's use (Table 14-5): handshakes scaled by (V / 0.80 V)², leakage by set point and band. [DEDUCED, safe, log entry 59] -/
def State.useEnergy (s : State) (x : RegionUse) : Nat :=
  let ok := s.limits.calValid
  ((List.range 9).map fun i => Config.energyCoeff ok i * x.tb.getD i 0 * x.mv * x.mv).sum + Config.leakage ok x.mv x.band * x.ns * 640000

/-- The energy of another activity (Table 14-5): lane handshakes scaled by (V / 0.80 V)², at a set point that the region has had for that holder in the interval. [DEDUCED, safe, log entry 59] -/
def State.countEnergy (s : State) (h : Option EnergyHolder) (x : EnergyCount) : Nat :=
  let e := Config.energyCoeff s.limits.calValid (energyTermCode x.term) * x.count
  match x.term with
  | .lanes _ =>
    if s.limits.use.any fun u => u.holder == h && u.region == x.region.val && u.mv == x.mv then e * x.mv * x.mv else 0
  | _ => e * 640000

/-- The background of 1 ms: the regions that do not compute, each in its band (Table 14-5). [DEDUCED, safe, log entry 59] -/
def State.backgroundEnergy (s : State) : Nat :=
  ((List.range 5).map fun i => Config.background s.limits.calValid (6 + i) (s.bandOf (6 + i)) * 1000000 * 640000).sum

/-- What the units have counted, with whose it is; overhead has no holder. -/
def energyCounts (holders : List (EnergyHolder × EnergyCount)) (overhead : List EnergyCount) : List (Option EnergyHolder × EnergyCount) :=
  holders.map (fun x => (some x.1, x.2)) ++ overhead.map (fun x => (none, x))

/-- The holders of an interval. -/
def State.energyHolders (s : State) (l : List (Option EnergyHolder × EnergyCount)) : List EnergyHolder :=
  (s.limits.use.filterMap (·.holder) ++ l.filterMap (·.1)).eraseDups

/-- The model energy of a holder in nJ, or of overhead (R575, R576). -/
def State.modelEnergy (s : State) (l : List (Option EnergyHolder × EnergyCount)) (h : Option EnergyHolder) : Nat :=
  Config.openDiv ((((s.limits.use.filter fun u => u.holder == h).map s.useEnergy).sum + ((l.filter fun c => c.1 == h).map fun c => s.countEnergy h c.2).sum) +
    (if h.isNone then s.backgroundEnergy else 0)) energyUnit

/-- Divergence of the model from measured power (R577): the counts, MODEL_DIVERGENCE, SENSOR_OR_FAULT and its sweep. [DEDUCED, safe, log entry 59] -/
def State.judgeEnergy (s : State) (em ep : Nat) : State :=
  let x := s.limits
  let diff := ((ep : Int) - em).natAbs
  let hot := decide (em * 15 < diff * 100)
  let over15 := if hot then x.over15 + 1 else 0
  let under15 := if hot then 0 else x.under15 + 1
  let over40 := if em * 40 < diff * 100 then x.over40 + 1 else 0
  let d := s.energyRatio ((ep : Int) - em) em
  let s1 := { s.draw with limits := { x with over15 := over15, under15 := under15, over40 := over40, divergence := d } }
  let s2 :=
    if !x.diverged && over15 == 50 then
      { s1 with limits := { s1.limits with diverged := true } }.raise stModelDivergence (beData [(4, d.toNat), (1, 1)])
    else if x.diverged && under15 == 50 then
      { s1 with limits := { s1.limits with diverged := false, sensorFault := false } }.raise stModelDivergence (beData [(4, d.toNat), (1, 0)])
    else s1
  if over40 = 1000 then
    let s3 := { s2 with limits := { s2.limits with sensorFault := true } }.raise stSensorOrFault (beData [(4, d.toNat)])
    if s3.clocked then s3.startSweep 1 else s3
  else s2

/-- Watts of a mean over 1 ms as FP32. -/
def meanWatts (nj : Nat) : BitVec 32 := encode32 (round32 ((Val.ofNat nj).divApprox (Val.ofNat 1000000)))

/-- ENERGY_INTERVAL_END (R575 to R577): at multiples of 1,000,000 of Tide. [DEDUCED, safe, log entry 60] -/
def execEnergyIntervalEnd (dt : Nat) (holders : List (EnergyHolder × EnergyCount)) (overhead : List EnergyCount) (s0 : State) :
    Host.Outcome State Fault Refusal :=
  let s := s0.elapse dt
  let counts := energyCounts holders overhead
  if s.board.powered && s.power.mode != 4 && s.tideNat % 1000000 == 0 then
    let em := s.limits.packageNj
    let models := (s.energyHolders counts).map fun h => (h, s.modelEnergy counts (some h))
    let rest := s.modelEnergy counts none
    let ep := models.foldl (fun a h => a + h.2) rest
    let s1 := s.judgeEnergy em ep
    let sc := if s1.limits.diverged then (em, ep) else (1, 1)
    let s2 := models.foldl (fun s h => s.bookEnergy h.1 (scaled sc h.2)) s1
    let x := s2.limits
    .next { s2 with limits := { x with
      packageTotal := x.packageTotal + em, inputTotal := x.inputTotal + x.inputNj, overheadTotal := x.overheadTotal + scaled sc rest
      residual := if x.diverged then x.residual else x.residual + ((em : Int) - ep), scale := sc, use := []
      inputW := meanWatts x.inputNj, packageW := meanWatts em, inputNj := 0, packageNj := 0 } }
  else .next s

end Sys2Proof.Machine
end

