-- ==== Sys2Proof/Machine/Dma.lean ====
section
/-! DEFINITION. Descriptor rings: those of host DMA and what fabric transfer rings share with them (11_host_link_contexts_and_trust.md R449 to R454, R475; 15 R596, R598). -/

namespace Sys2Proof.Machine

/-- Host DMA ring d of a function; fabric transfer ring d. -/
def hostRing (fn d : Nat) : Nat := fn * 4 + d
def fabRing (fn d : Nat) : Nat := fn * 4 + 2 + d

/-- A descriptor ring. -/
def State.ring (s : State) (k : Nat) : DmaRing := s.dma.valAt .reset k

/-- Change a descriptor ring. -/
def State.setRing (s : State) (k : Nat) (x : DmaRing) : State := { s with dma := s.dma.setAt .reset k x }

/-- Fields of a descriptor (Tables 11-2 and 15-6). -/
def desField (d : BitVec 256) (lo n : Nat) : Nat := (d.extractLsb' lo n).toNat
def desBytes (d : BitVec 256) : Nat := desField d 96 32
def desTag (d : BitVec 256) : Nat := desField d 64 32
def desIrq (d : BitVec 256) : Bool := d.getLsbD 8

/-- A write of the CTRL register of a ring (R450): an ORDER outside 4 to 12 is ignored with the rest; ENABLE 0 → 1 starts the ring empty at index 0. [DEDUCED, unsafe, log entry 40] -/
def DmaRing.control (x : DmaRing) (v : Nat) : DmaRing :=
  let order := bitsOf v 7 4
  let en := bitOf v 0
  let vec := bitsOf v 12 8
  if order < 4 ∨ 12 < order then x
  else if x.enable then
    if en then { x with vector := vec } else { x with vector := vec, enable := false, running := false, tail := x.head }
  else if en then { x with vector := vec, order := order, enable := true, running := true, error := false, head := 0, tail := 0, current := none }
  else { x with vector := vec, order := order }

/-- A write of a ring's doorbell (R450; in CONFIG_LOCKED it is ignored in the same way, R477). -/
def State.ringTail (s : State) (fn k v : Nat) : State :=
  let x := s.ring k
  let t := v % 4096
  if 2 ^ x.order ≤ t ∨ x.running = false ∨ (s.ctx fn).tdi = .locked then s.setRing k { x with dbDrop := true }
  else (s.setRing k { x with tail := t }).rung fn

/-- DMA_TAIL (R450). -/
def execDmaTail (fn : Fn) (d : RingNo) (value : BitVec 32) (s : State) : Host.Outcome State Fault Refusal :=
  s.doorbell fn.val (0x3000 + 4 * d.val) (.dmaTail fn d value) fun s => s.ringTail fn.val (hostRing fn.val d.val) value.toNat

/-- DMA_RING_ENABLE (R450). -/
def execDmaRingEnable (fn : Fn) (d : RingNo) (value : BitVec 32) (s : State) : Host.Outcome State Fault Refusal :=
  s.regWrite fn.val (0x240008 + 0x20 * d.val) true (.dmaRingEnable fn d value) fun s =>
    s.setRing (hostRing fn.val d.val) ((s.ring (hostRing fn.val d.val)).control (value ||| 1).toNat)

/-- DMA_RING_DISABLE (R451): the descriptor in progress completes, later ones are not executed. -/
def execDmaRingDisable (fn : Fn) (d : RingNo) (value : BitVec 32) (s : State) : Host.Outcome State Fault Refusal :=
  s.regWrite fn.val (0x240008 + 0x20 * d.val) false (.dmaRingDisable fn d value) fun s =>
    s.setRing (hostRing fn.val d.val) ((s.ring (hostRing fn.val d.val)).control (value &&& 0xFFFFFFFE).toNat)

/-- CVA of a descriptor of a ring. -/
def DmaRing.slot (x : DmaRing) (i : Nat) : Nat := x.base.toNat / 4096 * 4096 + 32 * i

/-- The ring stops because its own address is not mapped (Table 11-5). -/
def DmaRing.fail (x : DmaRing) : DmaRing := { x with error := true, running := false, lastError := stNotMapped, current := none, tail := x.head }

/-- A descriptor completes (R453): STATUS and DONE as one 8-byte store, then the ring's vector; its admission ends (R163). [DEDUCED, unsafe, log entry 88] -/
def State.ringFinish (s0 : State) (fn k : Nat) (st : Status) : State :=
  match (s0.ring k).current with
  | none => s0
  | some c =>
    let s := s0.discharge fn c.seq
    let x := s.ring k
    let next := (x.head + 1) % 2 ^ x.order
    let x1 := { x with head := next, tail := if x.running then x.tail else next, current := none }
    let low := c.desc.toNat % 2 ^ 48 / 2 * 2 + 1 + st.toNat * 2 ^ 48
    match if s.cvaMapped fn (x.slot c.idx) 8 then s.writeCvaN fn none (x.slot c.idx) (leBytes 8 low) else .error stNotMapped with
    | .error _ => s.setRing k x.fail
    | .ok s1 =>
      let s2 := s1.setRing k x1
      if desIrq c.desc && decide (8 ≤ x.vector) then s2.emit (.msix fn x.vector) else s2

/-- The engine takes the ring's next descriptor (R451): `check` judges it. A refused or empty one completes at once; any other is admitted (R163) and starts. [DEDUCED, unsafe, log entry 40] -/
def State.ringStart (s : State) (fn k : Nat) (check : State → BitVec 256 → Option Status) (go : State → Nat → BitVec 256 → State) : State :=
  let x := s.ring k
  let live := (s.ctx fn).mode = .active || (s.ctx fn).mode = .locked
  if s.unitsRun && live && x.running && x.current.isNone && x.head != x.tail then
    match s.readCvaN fn none (x.slot x.head) 32 with
    | none => s.setRing k x.fail
    | some bs =>
      let d := BitVec.ofNat 256 (leNat bs)
      let taken (s : State) (seq : Nat) : State := s.setRing k { x with current := some ⟨x.head, d, seq, [], false⟩ }
      match check s d with
      | some st => (taken s 0).ringFinish fn k st
      | none =>
        if desBytes d = 0 then (taken s 0).ringFinish fn k stOk
        else
          let a := s.admitWork fn
          go (taken a.1 a.2) a.2 d
  else s

/-- The local range of a descriptor (R451). -/
def State.rangeBad (s : State) (fn cva bytes : Nat) (otherEnd : Nat) : Option Status :=
  if bytes = 0 then none
  else if 2 ^ 38 < cva + bytes ∨ 2 ^ 64 < otherEnd + bytes then some stLengthBounds
  else if !s.cvaMapped fn cva bytes then some stNotMapped
  else none

/-- The function's stream is in the Insecure state after an integrity failure (R475). -/
def IdeStream.insecure (x : IdeStream) : Bool := x.active.isSome && !x.secure

/-- A resident context is one in ACTIVE or LOCKED (R457). -/
def State.resident (s : State) (c : Nat) : Bool := (s.ctx c).mode = .active || (s.ctx c).mode = .locked

/-- Units of 4 KiB of a descriptor (R454), and the bytes of unit `i`. -/
def desUnits (d : BitVec 256) : Nat := ceilDiv (desBytes d) 4096
def unitBytes (d : BitVec 256) (i : Nat) : Nat := min 4096 (desBytes d - 4096 * i)

/-- Units that a ring's descriptor has still to issue. -/
def DmaRing.unitsLeft (x : DmaRing) : Nat :=
  match x.current with
  | some c => if c.lost then 0 else desUnits c.desc - c.issued.length
  | none => 0

/-- A host DMA ring is active: its descriptor has units to issue and its context issues requests (R467 step 2, R475). -/
def State.dmaActive (s : State) (k : Nat) : Bool :=
  decide (k % 4 < 2) && s.resident (k / 4) && !(s.ctx (k / 4)).ide.insecure && decide (0 < (s.ring k).unitsLeft)

/-- The next active ring in turn (R454). [DEDUCED, unsafe, log entry 88] -/
def State.dmaNext (s : State) : Option Nat := ((List.range 64).map fun i => (s.dmaTurn + 1 + i) % 64).find? s.dmaActive

/-- A ring issues its next unit: a read request to host memory, or a write of the context's bytes. A read of them that delivers poison ends the issue: nothing of the unit goes to the host (R36). [DEDUCED, unsafe, log entry 88] -/
def State.dmaUnit (s : State) (k : Nat) : State :=
  let x := s.ring k
  match x.current with
  | none => s
  | some c =>
    let i := c.issued.length
    let n := unitBytes c.desc i
    let host := desField c.desc 192 64 + 4096 * i
    let on (lost : Bool) : State :=
      { s with dmaTurn := k }.setRing k { x with current := some { c with issued := c.issued ++ [s.now], lost := lost } }
    if k % 4 = 0 then (on false).emit (.hostRead (k / 4) host n)
    else
      match s.readCvaN (k / 4) (some c.seq) (desField c.desc 128 64 + 4096 * i) n with
      | some bs => (on false).emit (.hostWrite (k / 4) host bs)
      | none => on true

/-- Units that a ring's descriptor has issued. -/
def State.unitsIssued (s : State) (k : Nat) : Nat := match (s.ring k).current with | some c => c.issued.length | none => 0

/-- The active rings are served in turn (R454) until ring `k` has issued `n` units of its descriptor. -/
def State.dmaServe (k n : Nat) : Nat → State → State
  | 0, s => s
  | fuel + 1, s =>
    if n ≤ s.unitsIssued k then s
    else match s.dmaNext with
      | some j => State.dmaServe k n fuel (s.dmaUnit j)
      | none => s

/-- Units that the host DMA rings have still to issue. -/
def State.dmaLeft (s : State) : Nat := ((List.range 64).map fun k => (s.ring k).unitsLeft).sum

/-- DMA_DESCRIPTOR_START (R451, R454, R475): ring 0 reads host memory, ring 1 writes it. The descriptor joins the round of the active rings and issues its first unit. [DEDUCED, unsafe, log entry 88] -/
def execDmaDescriptorStart (fn : Fn) (d : RingNo) (s : State) : Host.Outcome State Fault Refusal :=
  let k := hostRing fn.val d.val
  let check (s : State) (x : BitVec 256) : Option Status :=
    if (s.ctx fn.val).ide.insecure then some stIdeInsecure
    else s.rangeBad fn.val (desField x 128 64) (desBytes x) (desField x 192 64)
  .next (if s.agentIssues 8 then s.ringStart fn.val k check fun s _ _ => State.dmaServe k 1 s.dmaLeft s else s)

/-- Bytes of a read descriptor land in context pages as block writes (R452). [DEDUCED, unsafe, log entry 40; DEDUCED, unsafe, log entry 88] -/
def State.dmaLand (s : State) (fn : Nat) (c : DmaXfer) (bytes : List Byte) : State × Option Status :=
  match s.writeCvaN fn (some c.seq) (desField c.desc 128 64) (bytes.take (desBytes c.desc)) with
  | .ok s1 => (s1.count 0xC8 none (some fn) (min bytes.length (desBytes c.desc)), none)
  | .error st => (s, some st)

/-- A descriptor of a context in teardown is discarded (Table 11-12). -/
def State.dmaDiscard (s : State) (fn k : Nat) (c : DmaXfer) : State := (s.setRing k .reset).discharge fn c.seq

/-- DMA_DESCRIPTOR_DONE (R452 to R454): its units have all been issued in the round, and its completions, or its writes, are through. On a stream that has become Insecure it ends with IDE_INSECURE (R475); a write descriptor whose data met poison with JOB_FAULT. [DEDUCED, unsafe, log entry 40; DEDUCED, unsafe, log entry 88] -/
def execDmaDescriptorDone (fn : Fn) (d : RingNo) (outcome : DmaOutcome) (s : State) : Host.Outcome State Fault Refusal :=
  let k := hostRing fn.val d.val
  match (s.ring k).current with
  | none => .next s
  | some c =>
    if !s.clocked then .next s
    else if !s.resident fn.val then .next (s.dmaDiscard fn.val k c)
    else if (s.ctx fn.val).ide.insecure then .next (s.ringFinish fn.val k stIdeInsecure)
    else if d.val = 1 then
      let s1 := State.dmaServe k (desUnits c.desc) s.dmaLeft s
      let lost := ((s1.ring k).current.map (·.lost)).getD false
      let sent := if lost then 4096 * (s1.unitsIssued k - 1) else desBytes c.desc
      .next ((s1.count 0xC8 none (some fn.val) sent).ringFinish fn.val k (if lost then stJobFault else stOk))
    else if !outcome.hostError && decide (outcome.bytes.length < desBytes c.desc) then .next s
    else
      let s1 := if outcome.hostError then s else State.dmaServe k (desUnits c.desc) s.dmaLeft s
      let r := s1.dmaLand fn.val c outcome.bytes
      .next (r.1.ringFinish fn.val k (match r.2 with | some st => st | none => if outcome.hostError then stDmaHostError else stOk))

/-- DMA_TIMEOUT (R452): the completion of the first read unit that has not wholly arrived is 10 ms late. [DEDUCED, unsafe, log entry 88] -/
def execDmaTimeout (dt : Nat) (fn : Fn) (d : RingNo) (bytes : List Byte) (s0 : State) : Host.Outcome State Fault Refusal :=
  let s := s0.elapse dt
  let k := hostRing fn.val d.val
  match (s.ring k).current with
  | none => .next s
  | some c =>
    let late := match c.issued[bytes.length / 4096]? with | some t => decide (t + 10000000 ≤ s.now) | none => false
    if !s.resident fn.val then .next (s.dmaDiscard fn.val k c)
    else if s0.clocked && d.val == 0 && late && decide (bytes.length < desBytes c.desc) then
      let r := s.dmaLand fn.val c bytes
      .next (r.1.ringFinish fn.val k (r.2.getD stDmaTimeout))
    else .next s

end Sys2Proof.Machine
end

