-- ==== Sys2Proof/Machine/Tide.lean ====
section
/-! DEFINITION. The Tide unit's commands (02_clockless_timing_and_tide.md R63, R64, R70 to R93). -/

namespace Sys2Proof.Machine

/-- The error estimate in whole nanoseconds, rounded up so that the true error does not exceed it (R88). -/
def TideUnit.errNs (t : TideUnit) : Nat := (t.errFine + errUnit - 1) / errUnit

/-- The TSN port that the best master clock algorithm chooses among the valid enabled ports (R76, R85): the better priority, port A on a tie. -/
def TideUnit.bestTsn (t : TideUnit) : Option TideSource :=
  let a := t.tsnA.valid && t.enabled 0
  let b := t.tsnB.valid && t.enabled 1
  if a && b then (if t.tsnB.priority < t.tsnA.priority then some .tsnB else some .tsnA)
  else if a then some .tsnA
  else if b then some .tsnB
  else none

/-- The lowest-numbered fabric port whose peer serves time (R79), when the fabric is enabled. -/
def TideUnit.bestFabric (t : TideUnit) : Option TideSource :=
  if t.enabled 2 then
    match (t.fabric.keep fun _ i => i.valid).keys with
    | p :: _ => some (.fabric p)
    | [] => none
  else none

/-- The source the module selects (R85): a TSN port, else the fabric, else none. [DEDUCED, safe, log entry 75] -/
def TideUnit.select (t : TideUnit) : TideSource :=
  match t.bestTsn with
  | some s => s
  | none => (t.bestFabric).getD .none

/-- What the unit holds of a source. -/
def TideUnit.inputOf (t : TideUnit) : TideSource → TideInput
  | .none => .none
  | .tsnA => t.tsnA
  | .tsnB => t.tsnB
  | .fabric p => t.fabric.valAt .none p

/-- The values of the dictionary take effect at a sync interval (R93). [DESIGN CHOICE, unsafe, log entry 79] -/
def State.tideLatchSettings (s : State) : State :=
  { s with tide := { s.tide with
      latchedAt := s.now, domain := s.dictVal 0x140004, enable := s.dictVal 0x140005
      serve := s.dictVal 0x140006, limit := s.dictVal 0x140007 } }

/-- A source in use is one that SOURCE_ENABLE enables (R85). -/
def TideUnit.sourceEnabled (t : TideUnit) : TideSource → Bool
  | .none => false
  | .tsnA => t.enabled 0
  | .tsnB => t.enabled 1
  | .fabric _ => t.enabled 2

/-- The sync interval that runs while no message is accepted: that of the source in use, else 1 s, the longest that R76 accepts. [DESIGN CHOICE, unsafe, log entry 79] -/
def TideUnit.syncNs (t : TideUnit) : Nat :=
  match (t.inputOf t.source).interval with
  | 0 => 1000000000
  | n => n

/-- `dt` nanoseconds pass; where a sync interval has ended without an accepted message, the settings take effect too (R93). [DESIGN CHOICE, unsafe, log entry 79] -/
def State.tidePass (s0 : State) (dt : Nat) : State :=
  let s := s0.elapse dt
  if s.tide.latchedAt + s.tide.syncNs ≤ s.now then s.tideLatchSettings else s

/-- A message of the source in use feeds the discipline: its estimate, how long it has been good, how many intervals bad (Table 2-5). [DEDUCED, safe, log entry 75] -/
def TideUnit.feed (t : TideUnit) (now err : Nat) : TideUnit :=
  { t with
    errFine := err * errUnit
    goodSince := if err ≤ 10 then some (t.goodSince.getD now) else none
    badIntervals := if err > 50 then t.badIntervals + 1 else 0 }

/-- EVC_RATE of one region at the end of a window: the mean over its working blocks of handshakes / 16,384 / worked time, in M handshakes/s (R63). -/
def regionRate (tbs : List TbWindow) (r : Nat) : Nat :=
  let mine := tbs.filter fun t => t.region.val == r && decide (0 < t.handshakes) && decide (0 < t.worked)
  match mine with
  | [] => 0
  | _ =>
    -- the sum of the fractions over a common denominator
    let sum := mine.foldl (fun (a : Nat × Nat) t => (a.1 * t.worked + t.handshakes * 1000 * a.2, a.2 * t.worked)) (0, 1)
    Config.openDiv sum.1 (sum.2 * 16384 * mine.length)

/-- RATE_WINDOW_END (R63, R64): at the end of each window of 1,048,576 ns since reset. [DEDUCED, safe, log entry 60] -/
def execRateWindowEnd (dt : Nat) (tbs : List TbWindow) (s0 : State) : Host.Outcome State Fault Refusal :=
  let s := s0.elapse dt
  let n := (s.now - s.resetAt) / 1048576
  let upd (rs : Store RateReg) (r : Nat) : Store RateReg :=
    rs.setAt .reset r ⟨BitVec.ofNat 16 n, BitVec.ofNat 16 (regionRate tbs r)⟩
  if 0 < n && (s.now - s.resetAt) % 1048576 == 0 then
    .next { s with tide := { s.tide with rates := [0, 1, 2, 3, 4, 5].foldl upd s.tide.rates } }
  else .next s

/-- What a port holds after a sync message (R76, R84). -/
def syncedInput (i : TideInput) (now priority : Nat) (logSync : Int) (offset : Int) : TideInput :=
  { i with valid := true, last := now, interval := 1000000000 / 2 ^ logSync.natAbs, priority := priority, offset := offset }

/-- GPTP_SYNC_RECEIVE (R76, R84, R93). A message of another domain or with a logSyncInterval outside −7 to 0 is not accepted. -/
def execGptpSyncReceive (dt : Nat) (port : TsnPort) (domain : BitVec 7) (logSync : Int) (priority : Nat) (sourceTime : BitVec 64)
    (err : BitVec 32) (s0 : State) : Host.Outcome State Fault Refusal :=
  let s := (s0.elapse dt).tideLatchSettings
  let t := s.tide
  if domain.toNat = t.domain ∧ -7 ≤ logSync ∧ logSync ≤ 0 then
    let offset : Int := (sourceTime.toNat : Int) - (t.count.toNat : Int)
    let src : TideSource := match port with | .a => .tsnA | .b => .tsnB
    let t1 := match port with
      | .a => { t with tsnA := syncedInput t.tsnA s.now priority logSync offset }
      | .b => { t with tsnB := syncedInput t.tsnB s.now priority logSync offset }
    let t2 := if t1.source = src ∧ t1.sourceEnabled src = true then { t1.feed s.now err.toNat with phase := offset } else t1
    .next { s with tide := t2 }
  else .next (s0.elapse dt)

/-- Distance of the counter from the nearest second boundary, in ns. -/
def secondDistance (count : Nat) : Nat := min (count % 1000000000) (1000000000 - count % 1000000000)

/-- The nearest second boundary minus the count, in ns: how far the counter lies before (positive) or after an edge of TIDE_PPS. -/
def secondOffset (count : Nat) : Int :=
  let r := count % 1000000000
  if r ≤ 500000000 then -(r : Int) else 1000000000 - r

/-- TIDE_PPS agrees with the time-of-day source in use: the edge lies within 500 ns of a second boundary of the source's time too. [DESIGN CHOICE, unsafe, log entry 79] -/
def TideUnit.ppsAgrees (t : TideUnit) : Bool :=
  t.source != .none && decide (secondDistance (((t.count.toNat : Int) + (t.inputOf t.source).offset) % 1000000000).toNat ≤ 500)

/-- TIDE_PPS_EDGE (R75, R81): used within 500 ns of a second boundary, else ignored and counted in 0x1400.09. The sub-second phase follows the edge where it is enabled and agrees with the source; the whole seconds never do. -/
def execTidePpsEdge (dt : Nat) (s0 : State) : Host.Outcome State Fault Refusal :=
  let s := s0.tidePass dt
  if secondDistance s.tideNat ≤ 500 then
    let t := { s.tide with ppsValid := true }
    .next { s with tide := if t.ppsInUse && t.ppsAgrees then { t with phase := secondOffset s.tideNat } else t }
  else .next ({ s with tide := { s.tide with ppsValid := false } }.bump 0x140009)

/-- TIDE_REF_VALID (R83, R82): the PLL takes its frequency from TIDE_REF where that is enabled, with no step in the counter. -/
def execTideRefValid (dt : Nat) (s0 : State) : Host.Outcome State Fault Refusal :=
  let s := s0.tidePass dt
  .next { s with tide := { s.tide with refValid := true } }

/-- TIDE_REF_INVALID (R83, R82). -/
def execTideRefInvalid (dt : Nat) (s0 : State) : Host.Outcome State Fault Refusal :=
  let s := s0.tidePass dt
  .next { s with tide := { s.tide with refValid := false } }

/-- A source in the unit's terms. -/
def timeSource : TimeInput → TideSource
  | .tsn .a => .tsnA
  | .tsn .b => .tsnB
  | .fab p => .fabric p.val

/-- Mark a source invalid. -/
def TideUnit.invalidate (t : TideUnit) : TimeInput → TideUnit
  | .tsn .a => { t with tsnA := { t.tsnA with valid := false } }
  | .tsn .b => { t with tsnB := { t.tsnB with valid := false } }
  | .fab p => { t with fabric := t.fabric.setAt .none p.val { t.fabric.valAt .none p.val with valid := false } }

/-- No enabled source is valid: a unit in LOCKED or ACQUIRING enters HOLDOVER (Table 2-5). -/
def TideUnit.noSource (t : TideUnit) : TideUnit :=
  { t with
    source := .none, goodSince := none, badIntervals := 0
    mode := if t.mode = .locked ∨ t.mode = .acquiring then .holdover else t.mode }

/-- SOURCE_INVALID (R84): three expected intervals have passed without a sync message. When it was the last valid source, a unit in LOCKED or ACQUIRING enters HOLDOVER (Table 2-5). -/
def execSourceInvalid (dt : Nat) (src : TimeInput) (s0 : State) : Host.Outcome State Fault Refusal :=
  let s := s0.tidePass dt
  let i := s.tide.inputOf (timeSource src)
  if i.valid && decide (i.last + 3 * i.interval ≤ s.now) then
    let t := s.tide.invalidate src
    .next { s with tide := if t.select = .none then t.noSource else t }
  else .next s

/-- SOURCE_SELECT (R85): the module changes to the source the rule gives, by slewing and never by a step (R71). A source that SOURCE_ENABLE no longer enables is left even when no other is valid. -/
def execSourceSelect (dt : Nat) (s0 : State) : Host.Outcome State Fault Refusal :=
  let s := s0.tidePass dt
  let src := s.tide.select
  if src = s.tide.source then .next s
  else if src = .none then .next { s with tide := s.tide.noSource }
  else .next { s with tide := { s.tide with source := src, goodSince := none, badIntervals := 0 } }

/-- TIDE_ACQUIRE (R87): FREE or HOLDOVER to ACQUIRING when an enabled source is valid. -/
def execTideAcquire (dt : Nat) (s0 : State) : Host.Outcome State Fault Refusal :=
  let s := s0.tidePass dt
  let src := s.tide.select
  if (s.tide.mode = .free ∨ s.tide.mode = .holdover) ∧ src ≠ .none then
    .next { s with tide := { s.tide with mode := .acquiring, source := src, goodSince := none, badIntervals := 0 } }
  else .next s

/-- TIDE_LOCK (R87): the estimate has stayed at or below 10 ns for 1 s. The first entry to LOCKED after power-on steps the counter once to the source's time (R71). -/
def execTideLock (dt : Nat) (s0 : State) : Host.Outcome State Fault Refusal :=
  let s := s0.tidePass dt
  match s.tide.goodSince with
  | some t0 =>
    if s.tide.mode = .acquiring ∧ t0 + 1000000000 ≤ s.now ∧ s.tide.sourceEnabled s.tide.source = true then
      let off := (s.tide.inputOf s.tide.source).offset
      let count := if s.tide.stepped then s.tide.count else s.tide.count + BitVec.ofInt 64 off
      .next { s with tide := { s.tide with mode := .locked, stepped := true, count := count, badIntervals := 0 } }
    else .next s
  | none => .next s

/-- TIDE_UNLOCK (R87): source valid, estimate above 50 ns in each of 3 sync intervals. -/
def execTideUnlock (dt : Nat) (s0 : State) : Host.Outcome State Fault Refusal :=
  let s := s0.tidePass dt
  if s.tide.mode = .locked ∧ (s.tide.inputOf s.tide.source).valid = true ∧ 3 ≤ s.tide.badIntervals then
    .next { s with tide := { s.tide with mode := .acquiring, goodSince := none, badIntervals := 0 } }
  else .next s

/-- HOLDOVER_EXPIRE (R88): the estimate exceeds HOLDOVER_LIMIT. -/
def execHoldoverExpire (dt : Nat) (s0 : State) : Host.Outcome State Fault Refusal :=
  let s := s0.tidePass dt
  if s.tide.mode = .holdover ∧ s.tide.limit * errUnit < s.tide.errFine then
    .next { s with tide := { s.tide with mode := .free, source := .none } }
  else .next s

/-- PEER_DELAY (R76): a request of the link partner is answered, or the module's own exchange gives the port's link delay. -/
def execPeerDelay (dt : Nat) (port : TsnPort) (kind : PeerDelayKind) (s0 : State) : Host.Outcome State Fault Refusal :=
  let s := s0.elapse dt
  let p : Nat := match port with | .a => 0 | .b => 1
  match kind with
  | .request => .next (s.emit (.ether p 0x02 [s.tideNat]))
  | .measured d =>
    match port with
    | .a => .next { s with tide := { s.tide with tsnA := { s.tide.tsnA with delay := d } } }
    | .b => .next { s with tide := { s.tide with tsnB := { s.tide.tsnB with delay := d } } }

/-- The value of EVC_TIDE_STATUS (Table 2-7). -/
def TideUnit.status (t : TideUnit) : Nat :=
  let err := min t.errNs 65535
  let port := match t.source with | .fabric p => p % 16 | _ => 0
  let src := match t.source with | .none => 0 | .tsnA => 1 | .tsnB => 2 | .fabric _ => 3
  let mode := match t.mode with | .free => 0 | .acquiring => 1 | .locked => 2 | .holdover => 3
  let b (x : Bool) : Nat := if x then 1 else 0
  err * 2 ^ 16 + port * 2 ^ 12 + b t.stepped * 2 ^ 8 + src * 2 ^ 6 + b t.refValid * 2 ^ 5 + b t.ppsInUse * 2 ^ 4 + mode

/-- A time a record carries is marked as taken before the step (R72). -/
def State.preStep (s : State) : Bool := !s.tide.stepped

end Sys2Proof.Machine
end

