-- ==== Sys2Proof/Machine/Fabric.lean ====
section
/-! DEFINITION. The fabric ports, their messages, fabric transfers and bit-error tests (15_fabric_failover_and_spares.md R584 to R601; 02 R79, R80). -/

namespace Sys2Proof.Machine

/-- The ports that are up and ask for the time (R79): up to and including the lowest one whose peer is known to serve, so that a lower one that begins to serve is found; all of them while none is known. -/
def timePortsOf (serves : Nat → Bool) : List Nat → List Nat
  | [] => []
  | p :: rest => if serves p then [p] else p :: timePortsOf serves rest

/-- The ports on which this tray asks for the time, where fabric time is enabled. [DESIGN CHOICE, unsafe, log entry 79] -/
def State.timePorts (s : State) : List Nat :=
  if s.tide.enabled 2 then timePortsOf (fun p => (s.tide.fabric.valAt .none p).valid) s.portsUp else []

/-- FABRIC_TIME_REQ_SEND (R79, R590): once every 1 ms. -/
def execFabricTimeReqSend (dt : Nat) (s0 : State) : Host.Outcome State Fault Refusal :=
  let s := s0.elapse dt
  let due := match s.tide.lastReq with | some t => decide (t + 1000000 ≤ s.now) | none => true
  if s.board.powered && due && !s.timePorts.isEmpty then
    .next (s.timePorts.foldl (fun s p => s.sendFlit p 0x03 (beBytes 8 s.tideNat)) { s with tide := { s.tide with lastReq := some s.now } })
  else .next s

/-- This tray serves time on the fabric (R78): its source is a TSN port, and FABRIC_SERVE is 1. -/
def TideUnit.serves (t : TideUnit) : Bool := t.serve == 1 && (t.source == .tsnA || t.source == .tsnB)

/-- TIME_REQ (R590): the server answers with T1, T2 and T3. -/
def execTimeReq (port : FabPort) (t1 : BitVec 64) (s : State) : Host.Outcome State Fault Refusal :=
  if s.board.powered && s.tide.serves then .next (s.sendFlit port.val 0x04 (beBytes 8 t1.toNat ++ beBytes 8 s.tideNat ++ beBytes 8 s.tideNat)) else .next s

/-- TIME_RESP (R590, R80, R93): offset and delay from the four times; a response is the fabric's sync message (R84). -/
def execTimeResp (dt : Nat) (port : FabPort) (t1 t2 t3 : BitVec 64) (err : BitVec 32) (s0 : State) : Host.Outcome State Fault Refusal :=
  let s := s0.elapse dt
  if !s.board.powered || !((s.port port.val).mode = .up) then .next s
  else
    let s1 := s.tideLatchSettings
    let t4 : Int := s1.tideNat
    let offset : Int := (((t2.toNat : Int) - t1.toNat) + ((t3.toNat : Int) - t4)) / 2
    let delay : Int := ((t4 - t1.toNat) - ((t3.toNat : Int) - t2.toNat)) / 2
    let old := s1.tide.fabric.valAt .none port.val
    let i : TideInput := { old with valid := true, last := s1.now, interval := 1000000, offset := offset, delay := delay }
    let t := { s1.tide with fabric := s1.tide.fabric.setAt .none port.val i }
    let mine := t.source == .fabric port.val && t.enabled 2
    .next { s1 with tide := if mine then { t.feed s1.now (err.toNat + 4) with phase := offset } else t }

/-- How far an ACK lies beyond the first unacknowledged flit, where it does. -/
def ackAhead (first ack : Nat) : Nat :=
  let d := (ack + 65536 - first) % 65536
  if d < 32768 then d else 0

/-- An ACK arrives on a port (R587, R589): it frees what it covers, the wholly acknowledged messages leave. -/
def PortState.acked (x : PortState) (now ack : Nat) : PortState :=
  let k := ackAhead x.base ack
  if k = 0 ∨ x.outstanding < k then x
  else { x with
    base := ack, progress := now
    unacked := x.unacked.filter fun e => decide (e.2.1 < e.2.2.flits) || decide (ackAhead e.1 ack < e.2.2.flits) }

/-- The message that the flits of a port have carried (Table 15-4). -/
def msgOf (b : List Byte) : FabMsg :=
  let be (o n : Nat) : Nat := beNat ((b.drop o).take n)
  ⟨be 0 2, be 2 1 / 16, bitOf (be 3 1) 0, be 4 2, be 6 1, be 7 1, be 12 4, be 16 4, be 20 4, (b.drop 24).take (be 8 4)⟩

/-- Messages that need SOC or HBM (Table 13-7, source 0x04). -/
def needsMemory (type : Nat) : Bool := [0x0001, 0x0010, 0x0012, 0x0020, 0x0022].contains type

/-- A message has arrived whole: a second copy is discarded (R593); in a sleep one that needs memory wakes the module (R541). [DEDUCED, unsafe, log entry 42] -/
def State.takeMessage (s : State) (p : Nat) (m : FabMsg) : State :=
  if s.fab.seen.contains (m.src, m.id) then s
  else
    let s1 := { s with fab := { s.fab with seen := ((m.src, m.id) :: s.fab.seen).take 4096, inbox := s.fab.inbox ++ [(p, m)] } }
    if s1.asleep && needsMemory m.type then s1.wakeBy 0x04 0xFF 0xF (p * 2 ^ 60) else s1

/-- A field of a flit that arrives, big-endian (Table 15-2, R11). -/
def flitField (f : List Byte) (o n : Nat) : Nat := beNat ((f.drop o).take n)

/-- The CRC of a flit holds. -/
def flitOk (f : List Byte) : Bool := flitField f 252 4 == crc32 (f.take 252)

/-- CTRL of a flit: VC, FIRST, LAST. -/
def flitVc (f : List Byte) : Bool := bitOf (flitField f 1 1) 7
def flitFirst (f : List Byte) : Bool := bitOf (flitField f 1 1) 6
def flitLast (f : List Byte) : Bool := bitOf (flitField f 1 1) 5

/-- ACK and credits of a flit reach the port that it arrives on. [DEDUCED, unsafe, log entry 88] -/
def PortState.heard (x : PortState) (now : Nat) (f : List Byte) : PortState :=
  let y := x.acked now (flitField f 4 2)
  { y with credit0 := min 64 (y.credit0 + flitField f 6 1), credit1 := min 64 (y.credit1 + flitField f 7 1) }

/-- A flit that is discarded with its CRC wrong (R587): one NAK names the SEQ that is expected. [DEDUCED, unsafe, log entry 88] -/
def State.badFlit (s : State) (p : Nat) : State :=
  let s1 := s.count 0x63 (some (fabricPortId p)) none 1
  if (s1.port p).nakSent then s1 else (s1.setPort p { s1.port p with nakSent := true }).sendFlit p 0x02 []

/-- The context of a message, by its header (Table 15-4): CTX_GEN is 0 where it is of none. -/
def messageCtx (b : List Byte) : Option Nat := if flitField b 4 2 = 0 then none else some (flitField b 2 1 / 16)

/-- A MSG flit that is expected joins its message (R591), frees its buffer flit and acknowledges what it covers; one that arrives after a stop is channel state of the capture (R643). -/
def State.takeFlit (s : State) (p : Nat) (f : List Byte) : State :=
  let x := s.port p
  let bytes := (if flitFirst f then [] else x.partials) ++ (f.drop 8).take 244
  let y := x.heard s.now f
  let x1 := { y with
    rxSeq := (x.rxSeq + 1) % 65536, nakSent := false, lastMsg := s.now, partials := if flitLast f then [] else bytes
    freed0 := if flitVc f then y.freed0 else y.freed0 + 1, freed1 := if flitVc f then y.freed1 + 1 else y.freed1 }
  let s0 := if s.slackRuns then s else
    { s with obs := { s.obs with slack := { s.obs.slack with flits := s.obs.slack.flits ++ [(p, messageCtx bytes, f)] } } }
  let s1 := (s0.setPort p x1).count 0x61 (some (fabricPortId p)) none 1
  (if flitLast f then s1.takeMessage p (msgOf bytes) else s1).pumpPort p

/-- MSG (R587, R591): a flit arrives. One that fails its CRC or names a reserved KIND is discarded and counted; a MSG flit is taken where its SEQ is expected; an IDLE flit brings ACK and credits. The other kinds have commands of their own. -/
def execMsg (dt : Nat) (port : FabPort) (flit : List Byte) (s0 : State) : Host.Outcome State Fault Refusal :=
  let s := s0.elapse dt
  let x := s.port port.val
  if !s.board.powered || !(x.mode = .up) then .next s
  else if !flitOk flit then .next (s.badFlit port.val)
  else
    match flitField flit 0 1 with
    | 0 => .next ((s.setPort port.val (x.heard s.now flit)).pumpPort port.val)
    | 1 => if flitField flit 2 2 = x.rxSeq then .next (s.takeFlit port.val flit) else .next s
    | k => if 8 ≤ k then .next (s.count 0x63 (some (fabricPortId port.val)) none 1) else .next s

/-- The MSG flit with a SEQ goes out again (R587). -/
def State.resendFlit (s : State) (p seq : Nat) : State :=
  match (s.port p).unacked.find? fun e => decide ((seq + 65536 - e.1) % 65536 < e.2.1) with
  | some e => let i := (seq + 65536 - e.1) % 65536; s.emitFlit p 0x01 (e.2.2.ctrl i) seq (e.2.2.piece i)
  | none => s

/-- NAK (R587): the flits from the named SEQ on are resent in order. -/
def execNak (port : FabPort) (seq : BitVec 16) (s : State) : Host.Outcome State Fault Refusal :=
  let x := s.port port.val
  if !s.board.powered || s.board.lost || !(x.mode = .up) then .next s
  else
    let x1 := x.acked s.now seq.toNat
    let n := if x1.base = seq.toNat then x1.outstanding else 0
    let again := if x.resend.1 = seq.toNat ∧ 0 < x.resend.2 then x.resend.2 + 1 else 1
    let x2 := { x1 with retries := min 65535 (x1.retries + n), resend := (seq.toNat, again) }
    let s1 := ((s.setPort port.val x2).bumpBy 0x550001 n).count 0x62 (some (fabricPortId port.val)) none n
    .next (((List.range n).foldl (fun s i => s.resendFlit port.val ((seq.toNat + i) % 65536)) s1).pumpPort port.val)

/-- A fabric transfer in progress to a place ends with this status. -/
def State.failXfers (s : State) (p : Nat → Nat → Bool) (st : Status) : State :=
  (List.range 32).foldl (fun s i =>
    let fn := i / 2
    let k := fabRing fn (i % 2)
    match (s.ring k).current with
    | some c => if p fn (desField c.desc 26 6) then s.ringFinish fn k st else s
    | none => s) s

/-- A message that its port has lost goes out on another up port to its place, or fails with NO_ROUTE (R593). -/
def State.reroute (s : State) (m : FabMsg) : State :=
  match s.routeTo m.dst with
  | some p => s.sendOn p m
  | none =>
    let s1 := s.raise stNoRoute (beData [(1, m.dst)])
    if m.type = 0x0001 then s1.failXfers (fun fn place => fn == m.ctx && place == m.dst) stNoRoute else s1

/-- A port goes down: its messages move on, transfers without a route end (R589, R593, R598). -/
def State.dropPort (s : State) (p : Nat) (mode : PortMode) : State :=
  let x := s.port p
  let s1 := s.setPort p { PortState.reset with mode := mode, retries := x.retries, lastMsg := x.lastMsg }
  let s2 := { s1 with fab := { s1.fab with routes := s1.fab.routes.keep fun k _ => k % 16 != p } }
  let s3 := (x.unacked.map (·.2.2) ++ x.waiting).foldl State.reroute s2
  s3.failXfers (fun _ place => (s3.routeTo place).isNone) stLinkDown

/-- LINK_FAIL (R589): one SEQ resent 8 times in a row, or no ACK progress for 100 µs. -/
def execLinkFail (dt : Nat) (port : FabPort) (s0 : State) : Host.Outcome State Fault Refusal :=
  let s := s0.elapse dt
  let x := s.port port.val
  if s.board.powered && x.mode = .up && (decide (8 ≤ x.resend.2) || (!x.unacked.isEmpty && decide (x.progress + 100000 ≤ s.now))) then
    let s1 := ((s.bump 0x550002).raise stLinkDown (beData [(1, port.val)])).strand (fabricPortId port.val) 0x25 none 0
    .next (s1.dropPort port.val .training)
  else .next s

/-- PLACE_ANNOUNCE on a port (R595): the places this tray answers for, one byte each. -/
def State.announce (s : State) (p : Nat) (extra : List Nat) : State :=
  let own := if s.pair.place = 0xFF then [] else [s.pair.place]
  s.sendPayload p 0x0030 0 0 (s.port p).peer ((own ++ s.pair.answers ++ extra).flatMap fun x => beBytes 1 x)

/-- PLACE_ANNOUNCE on every up port. -/
def State.announceAll (s : State) (extra : List Nat) : State := s.portsUp.foldl (fun s p => s.announce p extra) s

/-- LINK_TRAINED (R584, R595). -/
def execLinkTrained (port : FabPort) (s : State) : Host.Outcome State Fault Refusal :=
  let x := s.port port.val
  if s.board.powered && decide (s.power.mode < 3) && (x.mode = .down || x.mode = .training) && s.pair.role != .leaving then
    let s1 := s.setPort port.val { PortState.reset with mode := .up, retries := x.retries, lastMsg := s.now, progress := s.now }
    .next ((s1.strand (fabricPortId port.val) 0x25 none 1).announce port.val [])
  else .next s

/-- The oldest message of a TYPE that has arrived, with its port, and the inbox without it. -/
def State.popMessage (s : State) (type : Nat) : Option (State × Nat × FabMsg) :=
  let open_ := if needsMemory type then s.clocked else s.board.ready && s.slackRuns && s.mgmtUp
  if !open_ then none
  else
    match s.fab.inbox.find? fun e => e.2.type == type with
    | none => none
    | some e => some ({ s with fab := { s.fab with inbox := s.fab.inbox.erase e } }, e.1, e.2)

/-- A payload is discarded (R592); a discarded REPLAY is answered as incomplete. -/
def State.discardPayload (s : State) (type src : Nat) : State :=
  let s1 := s.bump 0x550009
  if type = 0x0020 then s1.compareAnswer src 0 0 2 else s1

/-- A message of a reassembled TYPE joins its payload (R592): the payload where it is whole now. [DEDUCED, unsafe, log entry 42] -/
def State.assemble (s : State) (m : FabMsg) : State × Option (List Byte) :=
  let mine (x : FabPayload) : Bool := x.type == m.type && x.src == m.src && x.xfer == m.xfer
  if m.offset = 0 then
    if m.final then (s, some m.body)
    else if 8 ≤ (s.fab.payloads.filter fun x => x.src == m.src).length then (s.discardPayload m.type m.src, none)
    else ({ s with fab := { s.fab with payloads := s.fab.payloads ++ [⟨m.type, m.src, m.xfer, m.body, s.now, m.ctx⟩] } }, none)
  else
    match s.fab.payloads.find? mine with
    | none => (s, none)
    | some x =>
      let rest := s.fab.payloads.filter fun y => !mine y
      if x.bytes.length ≠ m.offset then (s, none)
      else if m.final then ({ s with fab := { s.fab with payloads := rest } }, some (x.bytes ++ m.body))
      else ({ s with fab := { s.fab with payloads := rest ++ [{ x with bytes := x.bytes ++ m.body, last := s.now }] } }, none)

/-- DMA_RESULT to the sender of a transfer (R599). -/
def State.dmaResult (s : State) (m : FabMsg) (tag : Nat) (st : Status) : State :=
  (s.sendTo m.src 0x0002 m.ctx 0 (beData [(4, tag), (2, st.toNat)])).1

/-- A CTX_GONE notice, one for each sender and generation (R470). [DEDUCED, unsafe, log entry 42] -/
def State.noteGone (s : State) (m : FabMsg) : State :=
  let k := (m.src, m.ctx, m.gen)
  let s1 := s.bump 0x710006
  if s1.fab.notices.contains k then s1
  else ({ s1 with fab := { s1.fab with notices := k :: s1.fab.notices } }.sendTo m.src 0x0034 m.ctx 0 (beData [(1, m.ctx), (2, m.gen)])).1

/-- The checks of R597 on the first segment of a transfer. -/
def State.rxRefusal (s : State) (m : FabMsg) (cva total : Nat) : Option Status :=
  if !s.ctxLive m.ctx (BitVec.ofNat 16 m.gen) then some stCtxGone
  else if !bitOf (s.reg m.ctx 0x701040) m.src then some stRxRefused
  else if 2 ^ 38 < cva + total ∨ !s.cvaMapped m.ctx cva total then some stNotMapped
  else none

/-- A transfer that is received has ended. -/
def State.dropRx (s : State) (x : FabRx) : State :=
  { s with fab := { s.fab with rx := s.fab.rx.filter fun y => !(y.src == x.src && y.xfer == x.xfer) } }.discharge x.ctx x.seq

/-- Data of a transfer lands from byte `pos` of its range on; with SIGNAL the last 8 bytes are kept for the end (R599). -/
def State.landData (s : State) (x : FabRx) (pos : Nat) (data : List Byte) : State × FabRx × Option Status :=
  let n := if x.signal then x.total - min 8 x.total - pos else data.length
  let now := data.take n
  match s.writeCvaN x.ctx (some x.seq) (x.cva + pos) now with
  | .ok s1 => (s1, { x with tail := x.tail ++ data.drop n }, none)
  | .error st => (s, x, some st)

/-- The transfer has arrived (R596, R599): with SIGNAL its last bytes land and every WAIT of the context is tested (R203). -/
def State.landTail (s : State) (x : FabRx) : State × Status :=
  if x.signal then
    match s.writeCvaN x.ctx (some x.seq) (x.cva + (x.total - x.tail.length)) x.tail with
    | .ok s1 => ((List.range 8).foldl (fun s k => s.testWait x.ctx k) s1, stOk)
    | .error st => (s, st)
  else (s, stOk)

/-- A segment of an accepted transfer. -/
def State.rxSegment (s : State) (m : FabMsg) (x : FabRx) (pos : Nat) (data : List Byte) : State :=
  let others := s.fab.rx.filter fun y => !(y.src == x.src && y.xfer == x.xfer)
  let keep (s : State) (x : FabRx) : State :=
    if m.final then s.dropRx x else { s with fab := { s.fab with rx := others ++ [{ x with last := s.now }] } }
  if x.refused then keep s x
  else if !s.ctxLive m.ctx (BitVec.ofNat 16 m.gen) then (keep (s.noteGone m) { x with refused := true }).dmaResult m x.tag stCtxGone
  else
    let r := s.landData x pos data
    match r.2.2 with
    | some st => (keep s { x with refused := true }).dmaResult m x.tag st
    | none =>
      if m.final then
        let e := r.1.landTail r.2.1
        (keep e.1 r.2.1).dmaResult m x.tag e.2
      else keep r.1 r.2.1

/-- DMA_DATA (R597, R599): the next segment that has arrived. -/
def execDmaData (s : State) : Host.Outcome State Fault Refusal :=
  match s.popMessage 0x0001 with
  | none => .next s
  | some (s1, _, m) =>
    if m.offset = 0 then
      let be (o n : Nat) : Nat := beNat ((m.body.drop o).take n)
      let x : FabRx := ⟨m.src, m.xfer, m.ctx, be 0 8, be 8 4, be 12 4, bitOf (be 16 4) 0, false, [], 0, s1.now⟩
      match s1.rxRefusal m x.cva x.total with
      | none =>
        let a := s1.admitWork m.ctx
        .next (a.1.rxSegment m { x with seq := a.2 } 0 (m.body.drop 24))
      | some st =>
        let s2 := if st = stCtxGone then s1.noteGone m else if st = stRxRefused then s1.raise stRxRefused (beData [(1, m.src)]) else s1
        .next ((s2.rxSegment m { x with refused := true } 0 []).dmaResult m x.tag st)
    else
      match s1.fab.rx.find? fun y => y.src == m.src && y.xfer == m.xfer with
      | none => .next s1
      | some x => .next (s1.rxSegment m x (m.offset - 24) m.body)

/-- DMA_RESULT (R598): the sender's descriptor completes. -/
def execDmaResult (s : State) : Host.Outcome State Fault Refusal :=
  match s.popMessage 0x0002 with
  | none => .next s
  | some (s1, _, m) =>
    let tag := beNat (m.body.take 4)
    let st : Status := BitVec.ofNat 16 (beNat ((m.body.drop 4).take 2))
    let hit (d : Nat) : Bool := match (s1.ring (fabRing m.ctx d)).current with
      | some c => desTag c.desc == tag && (desField c.desc 26 6 == m.src || s1.routeTo (desField c.desc 26 6) == s1.routeTo m.src)
      | none => false
    .next (if hit 0 then s1.ringFinish m.ctx (fabRing m.ctx 0) st else if hit 1 then s1.ringFinish m.ctx (fabRing m.ctx 1) st else s1)

/-- REASSEMBLY_TIMEOUT (R592): the next segment of a payload has not arrived within 10 ms; what a DMA_DATA payload has written stays written. -/
def execReassemblyTimeout (dt : Nat) (s0 : State) : Host.Outcome State Fault Refusal :=
  let s := s0.elapse dt
  let late (t : Nat) : Bool := decide (t + 10000000 ≤ s.now)
  let s1 := { s with fab := { s.fab with payloads := s.fab.payloads.filter fun x => !late x.last } }
  let s2 := (s.fab.payloads.filter fun x => late x.last).foldl (fun s x => s.discardPayload x.type x.src) s1
  .next ((s.fab.rx.filter fun x => late x.last).foldl (fun s x => (s.dropRx x).discardPayload 0x0001 x.src) s2)

/-- PLACE_ANNOUNCE (R595): the route table takes the places that the partner of the port answers for; a spare that is adopting one of them is refused (R625). -/
def execPlaceAnnounce (s : State) : Host.Outcome State Fault Refusal :=
  match s.popMessage 0x0030 with
  | none => .next s
  | some (s1, p, m) =>
    let places := m.body.map (·.toNat)
    let routes := places.foldl (fun r x => r.setAt 0 (x * 16 + p) 1) (s1.fab.routes.keep fun k _ => k % 16 != p)
    let s2 := ({ s1 with fab := { s1.fab with routes := routes } }).setPort p { s1.port p with peer := m.src }
    match s2.pair.adopt with
    | some (x, _) =>
      if places.contains x then .next ({ s2 with pair := { s2.pair with adopt := none } }.raise stPlaceInUse (beData [(1, x)])) else .next s2
    | none => .next s2

/-- PEER_VOTE (R594): a vote for more domains restarts the delay of R531. -/
def execPeerVote (s : State) : Host.Outcome State Fault Refusal :=
  match s.popMessage 0x0031 with
  | none => .next s
  | some (s1, _, m) =>
    let v := BitVec.ofNat 9 (beNat (m.body.take 2))
    let fresh := Nat.land v.toNat (511 - s1.voteOf 40)
    .next { s1 with
      fab := { s1.fab with peerVotes := s1.fab.peerVotes.put m.src (s1.now, v) }
      power := { s1.power with deeperSince := if fresh = 0 then s1.power.deeperSince else none } }

/-- PEER_VOTE_SEND (R594): at each change of this tray's vote and every 50 ms. The spec does not say what the vote is: a free value. [DEDUCED, safe, log entry 41] -/
def execPeerVoteSend (dt : Nat) (s0 : State) : Host.Outcome State Fault Refusal :=
  let s := s0.elapse dt
  let v := BitVec.ofNat 9 (s.pick 0)
  if s.board.ready && s.mgmtUp && s.pair.role != .leaving && (v != s.fab.voteSent.1 || decide (s.fab.voteSent.2 + 50000000 ≤ s.now)) then
    .next ({ s.draw with fab := { s.fab with voteSent := (v, s.now) } }.sendAll 0x0031 0 0 (beBytes 2 v.toNat))
  else .next s.draw

/-- PEER_VOTE_LAPSE (R594): 150 ms after the last PEER_VOTE of a place. -/
def execPeerVoteLapse (dt : Nat) (place : Place) (s0 : State) : Host.Outcome State Fault Refusal :=
  let s := s0.elapse dt
  match s.fab.peerVotes.look place.val with
  | some (t, _) => if t + 150000000 ≤ s.now then .next { s with fab := { s.fab with peerVotes := s.fab.peerVotes.del place.val } } else .next s
  | none => .next s

/-- FAB_SCRUB_DONE (R466): a peer's notice, which changes nothing here. -/
def execFabScrubDone (s : State) : Host.Outcome State Fault Refusal :=
  match s.popMessage 0x0033 with
  | none => .next s
  | some (s1, _, _) => .next s1

/-- FAB_CTX_GONE (R470): a peer's notice; the descriptors it concerns end with their DMA_RESULT. -/
def execFabCtxGone (s : State) : Host.Outcome State Fault Refusal :=
  match s.popMessage 0x0034 with
  | none => .next s
  | some (s1, _, _) => .next s1

/-- FAB_XFER_DOORBELL (R628). -/
def execFabXferDoorbell (fn : Fn) (d : RingNo) (value : BitVec 32) (s : State) : Host.Outcome State Fault Refusal :=
  s.doorbell fn.val (0x3010 + 4 * d.val) (.fabXferDoorbell fn d value) fun s => s.ringTail fn.val (fabRing fn.val d.val) value.toNat

/-- FAB_XFER_START (R596, R597, R599): the local range is checked before any flit goes out; a descriptor that meets a poisoned word ends with FABRIC_POISON, and nothing of it is sent. [DEDUCED, unsafe, log entry 88] -/
def execFabXferStart (fn : Fn) (d : RingNo) (s : State) : Host.Outcome State Fault Refusal :=
  let k := fabRing fn.val d.val
  let check (s : State) (x : BitVec 256) : Option Status := s.rangeBad fn.val (desField x 192 64) (desBytes x) 0
  let go (s : State) (seq : Nat) (x : BitVec 256) : State :=
    match s.readCvaN fn.val (some seq) (desField x 192 64) (desBytes x) with
    | none => s.ringFinish fn.val k stFabricPoison
    | some data =>
      let preamble := beData [(8, desField x 128 64), (4, desBytes x), (4, desTag x), (4, if x.getLsbD 25 then 1 else 0), (4, 0)]
      let r := s.sendTo (desField x 26 6) 0x0001 fn.val (desField x 32 16) (preamble ++ data)
      if r.2 then r.1 else s.ringFinish fn.val k stNoRoute
  .next (s.ringStart fn.val k check go)

/-- TEST_REQ (R600): accepted by a port that has carried no MSG flit for 10 ms, never by the heartbeat port of a tray in a pair. -/
def execTestReq (dt : Nat) (port : FabPort) (lanes : BitVec 8) (ms : BitVec 32) (s0 : State) : Host.Outcome State Fault Refusal :=
  let s := s0.elapse dt
  let x := s.port port.val
  if !s.board.powered || !(x.mode = .up) then .next s
  else
    let busy := decide (s.now < x.lastMsg + 10000000) || (s.pair.role != .alone && s.pairSetting 0x500007 == port.val)
    let s1 := s.sendFlit port.val 0x07 (beBytes 1 (if busy then 0 else 1))
    if busy then .next s1
    else .next (s1.setPort port.val { s1.port port.val with mode := .testing, test := some ⟨ms.toNat, lanes.toNat % 16, s.now, decide (ms.toNat < 10000)⟩ })

/-- Ask the partner of the next port of the round for its test (R600): one port at a time; a scheduled test waits for an idle window (R601). -/
def State.askNext (s : State) : State :=
  let idle (e : Nat) : Bool :=
    let x := s.port (e % 16)
    x.mode = .up && decide (s.now ≥ x.lastMsg + 10000000) && !(s.pair.role != .alone && s.pairSetting 0x500007 == e % 16)
  let running := s.fab.ports.any fun e => e.2.test.isSome || e.2.asked.isSome
  match if running then none else s.fab.berQueue.find? idle with
  | none => s
  | some e =>
    let p := e % 16
    let t : BerTest := ⟨if 16 ≤ e then 1000 else 10000, 0xF, s.now, decide (16 ≤ e)⟩
    let s1 := { s with fab := { s.fab with berQueue := s.fab.berQueue.erase e } }.sendFlit p 0x06 (beBytes 1 t.lanes ++ beBytes 3 0 ++ beBytes 4 t.ms)
    s1.setPort p { s1.port p with asked := some t }

/-- TEST_ACK (R600, R601): the test runs, or is put off to the next idle window. -/
def execTestAck (port : FabPort) (accepted : Bool) (s : State) : Host.Outcome State Fault Refusal :=
  let x := s.port port.val
  match x.asked with
  | none => .next s
  | some t =>
    if accepted then .next (s.setPort port.val { x with mode := .testing, asked := none, test := some { t with start := s.now } })
    else
      let s1 := s.setPort port.val { x with asked := none }
      .next { s1 with fab := { s1.fab with berQueue := s1.fab.berQueue ++ [if t.scheduled then port.val + 16 else port.val] } }

/-- A lane has failed its test (R601, R705): `port` 0xFF for PCIe. [DEDUCED, unsafe, log entry 42] -/
def State.laneFailed (s : State) (port lane errors : Nat) : State :=
  let s1 := s.raise stBerFail (beData [(1, port), (1, lane), (4, min errors 0xFFFFFFFF)])
  let key := (if port = 0xFF then 16 else port, lane)
  let s2 := { s1 with fab := { s1.fab with failedLanes := if s1.fab.failedLanes.contains key then s1.fab.failedLanes else s1.fab.failedLanes ++ [key] } }
  s2.health (if port = 0xFF then 0xFFF else fabricPortId port) stBerFail 8 0 none (lane * 256 + port) 0

/-- BER_TEST (Table 15-7): 1 tests every fabric port in turn; 2 the PCIe lanes, whose errors are free values. [DEDUCED, unsafe, log entry 42] -/
def State.berStart (s : State) (value : Nat) : State :=
  if value = 1 then { s with fab := { s.fab with berQueue := s.portsUp } }.askNext
  else if value = 2 then
    (((List.range 16).filter fun i => 0 < s.pick i).foldl (fun t i => t.laneFailed 0xFF i (s.pick i)) s.draw).settleHealth
  else s

/-- BER_TEST is written (R600). -/
def execBerTest (value : BitVec 8) (s : State) : Host.Outcome State Fault Refusal :=
  if s.woOpen && (value == 1 || value == 2) then .next (s.berStart value.toNat) else .next s

/-- BER_SCHEDULE (R600): every BER_SCHEDULE_S, one port at a time. -/
def execBerSchedule (dt : Nat) (s0 : State) : Host.Outcome State Fault Refusal :=
  let s := s0.elapse dt
  let period := s.dictVal 0x540001
  if !s.mgmtUp || period = 0 then .next s
  else if s.fab.berAt + period * 1000000000 ≤ s.now then
    .next ({ s with fab := { s.fab with berAt := s.now, berQueue := s.portsUp.map (· + 16) } }.askNext)
  else .next s.askNext

/-- BER_TEST_END (R600, R601): the port then retrains. -/
def execBerTestEnd (dt : Nat) (port : FabPort) (errors : List Nat) (s0 : State) : Host.Outcome State Fault Refusal :=
  let s := s0.elapse dt
  let x := s.port port.val
  match x.test with
  | none => .next s
  | some t =>
    if s.board.powered && decide (t.start + t.ms * 1000000 ≤ s.now) then
      let lanes := (List.range 4).filter fun l => bitOf t.lanes l
      let count (l : Nat) : Nat := (errors[l]?).getD 0
      let limit := if t.scheduled then 10 else 0
      let s1 := s.setDict (0x541001 + port.val) (min (2 ^ 64 - 1) ((lanes.map count).foldl (· + ·) 0))
      let s2 := (lanes.filter fun l => decide (limit < count l)).foldl (fun s l => s.laneFailed port.val l (count l)) s1
      .next ((s2.dropPort port.val .training).askNext).settleHealth
    else .next s

end Sys2Proof.Machine
end

