-- ==== Sys2Proof/Machine/Pair.lean ====
section
/-! DEFINITION. The pair: heartbeats, the lease token, the mirror, takeover, comparison and spares (15_fabric_failover_and_spares.md R602 to R627; 18 R702, R703). -/

namespace Sys2Proof.Machine

/-- ROLE of Table 15-8 as a pair body gives it; codes above 7 are not assigned. -/
def roleOf : Nat → Option PairRole
  | 0 => some .init
  | 1 => some .alone
  | 2 => some .shadow
  | 3 => some .syncing
  | 4 => some .standby
  | 5 => some .active
  | 6 => some .fenced
  | 7 => some .leaving
  | _ => none

/-- Bytes 0 to 39 of a pair body (Table 15-10). -/
def pairBytes (b : PairBody) (kind : Nat) : List Byte :=
  beData [(1, kind), (1, b.role), (2, b.pairId), (1, b.place), (1, b.partner), (2, b.health), (8, b.epoch), (8, b.tide), (4, b.seq),
    (4, b.leftUs), (4, b.mirrorSeq), (4, b.config)]

/-- The management processors take part in the pair: the tray is ready and in a role other than ALONE and LEAVING. -/
def State.pairOpen (s : State) : Bool := s.board.ready && s.mgmtUp && s.pair.role != .alone && s.pair.role != .leaving

/-- The MAC of a TSN pair frame holds (R604). -/
def State.pairMac (s : State) (kind : Nat) (b : PairBody) : Bool :=
  b.mac == (hmac512 (s.slotKey (s.pairSetting 0x500008)) (pairBytes b kind)).take 16

/-- A pair body arrives from the partner (R604): false where it is not for this tray; a wrong MAC on TSN is dropped and counted. -/
def State.hear (s : State) (tsn : Bool) (kind : Nat) (b : PairBody) : State × Bool :=
  let port := s.portsUp.contains (s.pairSetting 0x500007)
  if !s.pairOpen || !(if tsn then s.net.linkA || s.net.linkB else port) then (s, false)
  else if tsn && !s.pairMac kind b then (s.bump 0x550008, false)
  else (s, b.pairId == s.pairSetting 0x500002 && b.place == s.pairSetting 0x500005)

/-- Both trays acted in overlapping times (R613): SPLIT_DETECTED, once until the partner is heard in another role. -/
def State.noteSplit (s : State) (b : PairBody) : State :=
  if b.role ≠ 5 then { s with pair := { s.pair with split := false } }
  else if s.acts && !s.pair.split then
    (({ s with pair := { s.pair with split := true } }).bump 0x550005).raise stSplitDetected (beData [(8, s.pair.epoch), (8, b.epoch)])
  else s

/-- The epoch of a pair body is judged (R613): a higher one, or an equal one of a lower-numbered holder, ends this tray's ACTIVE role. -/
def State.judgeEpoch (s0 : State) (kind : Nat) (b : PairBody) : State :=
  let s := s0.noteSplit b
  let holds := b.role == 5 || kind == 0x14
  let yields := s.pair.role = .active && (decide (s.pair.epoch < b.epoch) || (s.pair.epoch == b.epoch && holds && decide (b.place < s.pair.place)))
  let s1 := if yields then s.fence else s
  let newer := decide (s1.pair.epoch < b.epoch)
  { s1 with pair := { s1.pair with
    epoch := max s1.pair.epoch b.epoch, seen := max s1.pair.seen b.epoch
    holder := if holds && (newer || (s1.pair.epoch == b.epoch && s1.pair.role != .active)) then b.place else s1.pair.holder
    released := s1.pair.released && !newer } }

/-- HEARTBEAT_SEND (R604): once per 1 ms. -/
def execHeartbeatSend (dt : Nat) (s0 : State) : Host.Outcome State Fault Refusal :=
  let s := s0.elapse dt
  if s.pairOpen && decide (s.pair.heartbeatAt + 1000000 ≤ s.now) then
    .next ({ s with pair := { s.pair with heartbeatAt := s.now } }.sendPairKind 0x10 false)
  else .next s

/-- Give the pages of mirror staging back. -/
def State.dropStaging (s : State) : State :=
  let s1 := (s.pair.staging.flatMap fun m => m.frames).foldl State.unref s
  { s1 with pair := { s1.pair with staging := [] } }

/-- Enter SYNCING (R617): a snapshot is awaited. -/
def State.enterSyncing (s : State) : State :=
  let s1 := (s.dropStaging).enterRole .syncing
  { s1 with pair := { s1.pair with snapshot := false, mirrorApplied := 0, roots := [] } }

/-- SYNCING ends (R617): records up to the active's MIRROR_SEQ are applied. [DEDUCED, unsafe, log entry 45] -/
def State.settleSync (s : State) : State :=
  if s.pair.role = .syncing ∧ s.pair.snapshot = true ∧ s.pair.partnerMirror ≤ s.pair.mirrorApplied then
    { s with pair := { s.pair with role := .standby, since := s.now } }
  else s

/-- Record of a live mirrored request for a snapshot: its REQ_ADMIT and TOKENS records, each with its length. [DEDUCED, unsafe, log entry 45] -/
def snapshotOf (c : Nat) (r : Request) : List Byte :=
  let rec1 := beBytes 1 1 ++ beBytes 1 c ++ leBytes 128 r.desc.toNat ++ beData [(8, r.admitTide), (4, r.adapterGen)] ++ r.prompt.flatMap fun t => beBytes 4 t.toNat
  let rec2 := beBytes 1 2 ++ beBytes 1 c ++ beData [(4, reqTag r.desc), (4, 0), (4, r.out.length)] ++ r.out.flatMap fun t => beBytes 4 t.toNat
  beBytes 4 rec1.length ++ rec1 ++ beBytes 4 rec2.length ++ rec2

/-- Record of a context's prefix roots for a snapshot. [DEDUCED, unsafe, log entry 45] -/
def State.rootsRecord (s : State) (c : Nat) : List Byte :=
  let roots := s.serving.nodes.vals.filter fun n => n.parent.isNone && n.ctx == c
  let body := beBytes 1 5 ++ beBytes 1 c ++ roots.flatMap fun n => beData [(2, n.gen.toNat), (1, n.model), (2, n.adapter), (4, n.adapterGen)]
  beBytes 4 body.length ++ body

/-- Send the SNAPSHOT (R617). The spec does not give its layout: mirror sequence (4 B), then length (4 B), kind, context and content of each record. -/
def State.sendSnapshot (s : State) : State :=
  let live (c : Nat) : List Byte := ((s.requestsOf c).filter fun e => e.2.state != .ending).flatMap fun e => snapshotOf c e.2
  let body := beBytes 4 s.pair.mirrorSent ++ s.mirroredCtxs.flatMap fun c => live c ++ s.rootsRecord c
  ({ s with pair := { s.pair with mirrorSince := none } }.sendTo (s.pairSetting 0x500005) 0x0012 0 0 body).1

/-- Answer for the start-up comparison in INIT (R620): whether the boot sweep has found no mismatch. The spec does not name the message: COMPARE_RESULT. [DEDUCED, unsafe, log entry 43] -/
def State.sendStartup (s : State) : State :=
  s.compareAnswer (s.pairSetting 0x500005) 0 0 (if s.integ.mismatched.isEmpty then 0 else 1)

/-- What a heartbeat's ROLE brings (Table 15-9, R616, R617, R620): `was` is the partner's role before. -/
def State.meetPartner (s : State) (was : Option PairRole) (role : PairRole) : State :=
  match s.pair.role, role with
  | .init, .active => { s.enterRole .shadow with pair := { (s.enterRole .shadow).pair with passes := 0, fails := 0 } }
  | .init, .init => if !s.pair.startupOk || was != some .init then s.sendStartup else s
  | .fenced, .active => if s.integ.persistent.isNone && s.integ.recovering.isNone then s.enterSyncing else s
  | .active, .syncing => if was = some .syncing then s else s.sendSnapshot
  | .active, .standby => if was = some .standby then s else { s with pair := { s.pair with mirrorLost := false } }
  | _, _ => s

/-- CONFIG_MISMATCH once per change of the partner's digest (R618). The spec does not say which context the event names: a free value. [DEDUCED, unsafe, log entry 43] -/
def State.noteConfig (s : State) (config : Nat) : State :=
  if config = s.pairDigest then { s with pair := { s.pair with mismatch := none } }
  else if s.pair.mismatch = some config then s
  else ({ s.draw with pair := { s.pair with mismatch := some config } }).raise stConfigMismatch (beData [(1, s.pick 0 % 16)])

/-- HEARTBEAT (R605, R613, R618, Table 15-9); one for the place that a spare is adopting refuses the adoption (R625). -/
def execHeartbeat (dt : Nat) (path : BeatPath) (body : PairBody) (s0 : State) : Host.Outcome State Fault Refusal :=
  let s := s0.elapse dt
  let tsn := path = .tsn
  match s.pair.adopt with
  | some (p, _) =>
    if s.mgmtUp && body.place == p && (!tsn || s.pairMac 0x10 body) then
      .next ({ s with pair := { s.pair with adopt := none } }.raise stPlaceInUse (beData [(1, p)]))
    else .next s
  | none =>
    let h := s.hear tsn 0x10 body
    match if h.2 then roleOf body.role else none with
    | none => .next h.1
    | some role =>
      let was := h.1.pair.partnerRole
      let s1 := h.1.judgeEpoch 0x10 body
      let s2 := { s1 with pair := { s1.pair with
        tsnHeard := if tsn then s1.now else s1.pair.tsnHeard, fabHeard := if tsn then s1.pair.fabHeard else s1.now
        tsnLost := s1.pair.tsnLost && !tsn, fabLost := s1.pair.fabLost && tsn, silent := false
        partnerRole := some role, partnerHealth := body.health, partnerMirror := body.mirrorSeq } }
      .next (((s2.noteConfig body.config).meetPartner was role).settleSync)

/-- PATH_LOST (R605): 3 intervals of 1 ms without a valid heartbeat; with both paths lost, PEER_SILENT. -/
def execPathLost (dt : Nat) (path : BeatPath) (s0 : State) : Host.Outcome State Fault Refusal :=
  let s := s0.elapse dt
  let tsn := path = .tsn
  let lost := if tsn then s.pair.tsnLost else s.pair.fabLost
  let heard := if tsn then s.pair.tsnHeard else s.pair.fabHeard
  if s.pairOpen && !lost && decide (heard + 3000000 ≤ s.now) then
    let s1 := { s with pair := { s.pair with tsnLost := s.pair.tsnLost || tsn, fabLost := s.pair.fabLost || !tsn } }
    let s2 := (s1.bump 0x550003).raise stPathLost (beData [(1, if tsn then 0 else 1)])
    if s2.pair.tsnLost && s2.pair.fabLost && !s2.pair.silent then
      .next ({ s2 with pair := { s2.pair with silent := true } }.raise stPeerSilent [])
    else .next s2
  else .next s

/-- RENEW_SEND (R609, R610, R645): every 10 ms while this tray holds the lease; a tray that Slack has stopped sends none. -/
def execRenewSend (dt : Nat) (s0 : State) : Host.Outcome State Fault Refusal :=
  let s := s0.elapse dt
  if s.pairOpen && s.pair.role = .active && s.slackRuns && decide (s.pair.renewAt + 10000000 ≤ s.now) && decide (s.now < s.pair.leaseEnd) then
    let witness := s.pairSetting 0x510001 == 1
    let s1 := if witness then s else { s with pair := { s.pair with leaseEnd := s.now + 50000000 } }
    let s2 := { s1 with pair := { s1.pair with renewAt := s1.now } }.sendPairKind 0x11 true
    .next (if witness then { s2 with pair := { s2.pair with renews := ((s2.pair.seqs.valAt 0 0x11, s2.now) :: s2.pair.renews).take 8 } } else s2)
  else .next s

/-- Send a body of this KIND back on a heartbeat path, echoing SEQ (R609). -/
def State.answerPair (s : State) (path : BeatPath) (kind seq : Nat) : State :=
  s.sendPair (match path with | .tsn => .tsnA | .fabric => .fabric) false (s.pairBody kind seq s.mirrorSeq s.pairDigest)

/-- RENEW (R609, R611): answered where its epoch is the highest seen; it cancels a claim (Table 15-12). -/
def execRenew (dt : Nat) (path : BeatPath) (body : PairBody) (s0 : State) : Host.Outcome State Fault Refusal :=
  let h := (s0.elapse dt).hear (path = .tsn) 0x11 body
  if !h.2 then .next h.1
  else
    let current := decide (h.1.pair.seen ≤ body.epoch) && decide (h.1.pair.epoch ≤ body.epoch)
    let s1 := h.1.judgeEpoch 0x11 body
    let s2 := if decide (h.1.pair.seen ≤ body.epoch) then s1.answerPair path 0x12 body.seq else s1
    let renews := decide (h.1.pair.epoch ≤ body.epoch)
    .next (if renews && s2.pair.role != .active then
      { s2 with pair := { s2.pair with
        heard := s2.now, claim := none, released := false, leaseEnd := if current then s2.now + 1000 * body.leftUs else s2.pair.leaseEnd } }
    else s2)

/-- RENEW_ACK (R610): the RENEW it answers counts from its transmission. -/
def execRenewAck (dt : Nat) (path : PairPath) (body : PairBody) (s0 : State) : Host.Outcome State Fault Refusal :=
  let s := s0.elapse dt
  let tsn := path != .fabric
  if !s.pairOpen then .next s
  else if tsn && !s.pairMac 0x12 body then .next (s.bump 0x550008)
  else if body.pairId != s.pairSetting 0x500002 || s.pair.role != .active then .next s
  else
    match s.pair.renews.find? fun r => r.1 == body.seq with
    | none => .next s
    | some r =>
      .next { s with pair := { s.pair with
        leaseEnd := max s.pair.leaseEnd (r.2 + 50000000), renews := s.pair.renews.filter fun x => decide (r.2 < x.2) } }

/-- LEASE_END (R610). -/
def execLeaseEnd (dt : Nat) (s0 : State) : Host.Outcome State Fault Refusal :=
  let s := s0.elapse dt
  if s.board.powered && s.pair.role = .active && decide (s.pair.leaseEnd ≤ s.now) then .next s.fence else .next s

/-- The prompt copy and the delivered tokens of a mirrored request, as its pages hold them. -/
def MirrorReq.bytes (m : MirrorReq) : List Byte := (m.prompt ++ m.tokens).flatMap fun t => leBytes 4 t.toNat

/-- Mirror staging's pages of a request cover its tokens (R615): further pages are charged to its context; where none can be had, none are added. -/
def State.stagePages (s : State) (m : MirrorReq) : State × MirrorReq :=
  let n := ceilDiv (4 * (m.prompt.length + m.tokens.length)) granule - m.frames.length
  let got : State × List Nat :=
    if n = 0 ∨ s.quotaOk m.ctx n 0 = false then (s, [])
    else match s.takeCopyFrames m.ctx n [] with
      | some x => x
      | none => (s, [])
  let frames := m.frames ++ got.2
  ({ got.1 with hbm := storeFrames got.1.hbm frames m.bytes }, { m with frames := frames })

/-- Put a request into mirror staging in place of the one with its context and tag. [DEDUCED, unsafe, log entry 45] -/
def State.stage (s : State) (m : MirrorReq) : State :=
  let r := s.stagePages m
  { r.1 with pair := { r.1.pair with staging := (r.1.pair.staging.filter fun x => !(x.ctx == m.ctx && x.tag == m.tag)) ++ [r.2] } }

/-- Big-endian 32-bit words of a record. -/
def beTokens (bs : List Byte) : List (BitVec 32) := (chunks 4 (bs.length / 4) bs).map fun b => BitVec.ofNat 32 (beNat b)

/-- Apply one mirror record to mirror staging (R615). [DEDUCED, unsafe, log entry 45] -/
def State.applyRecord (s : State) (kind c : Nat) (content : List Byte) : State :=
  let be (o n : Nat) : Nat := beNat ((content.drop o).take n)
  let mine (tag : Nat) (x : MirrorReq) : Bool := x.ctx == c && x.tag == tag
  match kind with
  | 1 =>
    let d : BitVec 1024 := BitVec.ofNat 1024 (leNat (content.take 128))
    s.stage ⟨c, reqTag d, d, be 128 8, be 136 4, beTokens (content.drop 140), [], []⟩
  | 2 =>
    match s.pair.staging.find? (mine (be 0 4)) with
    | some m => s.stage { m with tokens := m.tokens.take (be 4 4) ++ beTokens (content.drop 12) }
    | none => s
  | 3 =>
    match s.pair.staging.find? (mine (be 0 4)) with
    | some m => m.frames.foldl State.unref { s with pair := { s.pair with staging := s.pair.staging.filter fun x => !mine (be 0 4) x } }
    | none => s
  | 5 => { s with pair := { s.pair with roots := s.pair.roots.setAt [] c content } }
  | _ => s

/-- MIRROR (R615, R617): the next record that has arrived, applied in STANDBY, or in SYNCING once the snapshot is; answered with MIRROR_ACK. -/
def execMirror (s : State) : Host.Outcome State Fault Refusal :=
  if s.pair.role = .syncing ∧ s.pair.snapshot = false then .next s
  else
    match s.popMessage 0x0010 with
    | none => .next s
    | some (s1, _, m) =>
      let a := s1.assemble m
      match a.2 with
      | none => .next a.1
      | some b =>
        let n := beNat (b.take 4)
        if (a.1.pair.role = .standby || a.1.pair.role = .syncing) && decide (a.1.pair.mirrorApplied < n) then
          let s2 := a.1.applyRecord (beNat ((b.drop 4).take 1)) (beNat ((b.drop 5).take 1)) (b.drop 8)
          let s3 := { s2 with pair := { s2.pair with mirrorApplied := n } }
          .next ((s3.sendTo (s3.pairSetting 0x500005) 0x0011 0 0 (beBytes 4 n)).1.settleSync)
        else .next a.1

/-- MIRROR_ACK (R616): the highest mirror sequence that the standby has applied. -/
def execMirrorAck (s : State) : Host.Outcome State Fault Refusal :=
  match s.popMessage 0x0011 with
  | none => .next s
  | some (s1, _, m) =>
    let n := max s1.pair.mirrorAcked (beNat (m.body.take 4))
    .next { s1 with pair := { s1.pair with mirrorAcked := n, mirrorSince := if s1.pair.mirrorSent ≤ n then none else some s1.now } }

/-- MIRROR_LOST (R616): no MIRROR_ACK within 1 ms. A standby that lacks records the active has sent leaves for SYNCING (Table 15-9). -/
def execMirrorLost (dt : Nat) (s0 : State) : Host.Outcome State Fault Refusal :=
  let s := s0.elapse dt
  match s.pair.role with
  | .active =>
    if s.mgmtUp && !s.pair.mirrorLost && s.pair.mirrorSince.any (fun t => decide (t + 1000000 ≤ s.now)) then
      let s1 := ((s.bump 0x550006).raise stMirrorLost (beData [(4, s.pair.mirrorSent)]))
      .next { s1 with pair := { s1.pair with mirrorLost := true, mirrorSince := none } }
    else .next s
  | .standby => if s.mgmtUp && decide (s.pair.mirrorApplied < s.pair.partnerMirror) then .next s.enterSyncing else .next s
  | _ => .next s

/-- Records of a snapshot: each after its length. [DEDUCED, unsafe, log entry 45] -/
def snapshotRecords : Nat → List Byte → List (List Byte)
  | 0, _ => []
  | fuel + 1, b =>
    if b.length < 6 then []
    else
      let n := beNat (b.take 4)
      (b.drop 4).take n :: snapshotRecords fuel (b.drop (4 + n))

/-- SNAPSHOT (R617). -/
def execSnapshot (s : State) : Host.Outcome State Fault Refusal :=
  match s.popMessage 0x0012 with
  | none => .next s
  | some (s1, _, m) =>
    let a := s1.assemble m
    match a.2 with
    | none => .next a.1
    | some b =>
      if a.1.pair.role = .syncing then
        let apply (s : State) (r : List Byte) : State := s.applyRecord (beNat (r.take 1)) (beNat ((r.drop 1).take 1)) (r.drop 2)
        let s2 := (snapshotRecords b.length (b.drop 4)).foldl apply a.1.dropStaging
        .next ({ s2 with pair := { s2.pair with snapshot := true, mirrorApplied := beNat (b.take 4) } }.settleSync)
      else .next a.1

/-- Prefix roots from the last ROOTS records (R619 step 2). -/
def State.rootsTaken (s : State) : State :=
  s.pair.roots.foldl (fun s e =>
    (chunks 9 (e.2.length / 9) e.2).foldl (fun s b =>
      let be (o n : Nat) : Nat := beNat ((b.drop o).take n)
      match s.ensureRoot e.1 (BitVec.ofNat 16 (be 0 2)) (be 2 1) (be 3 2) (be 5 4) with
      | none => s
      | some x => x.1) s) s

/-- The request of a mirrored request (R619 step 3): WAITING, RESUMED, its tokens delivered. -/
def State.mirroredRequest (s : State) (m : MirrorReq) (table : Nat) : Request :=
  { ctx := m.ctx, gen := (s.ctx m.ctx).gen, desc := m.desc, state := .waiting, admitTide := m.admitTide, delivered := m.tokens.length
    prefixHit := 0, specProposed := 0, specAccepted := 0, energy := 0, table := table, draftTable := none, adapterGen := m.adapterGen
    status := 0, waitReason := 0, restarts := 0, mixedKv := false, deadlineMissed := false, cancelPending := false, forced := false
    resumed := true, inFlight := false, endReason := 0, prompt := m.prompt, frames := m.frames, out := m.tokens
    counts := countTokens (if reqPenalizePrompt m.desc then countTokens [] m.prompt else []) m.tokens, drawn := [], endDue := false
    noMemSince := none, budgetSince := none, cancels := [] }

/-- Re-admit one mirrored request (R619 step 3). One whose stream is missing is only counted; one whose model, customer or adapter generation is missing ends with CONFIG_MISMATCH. -/
def State.readmit (s : State) (m : MirrorReq) : State × Bool :=
  let d := m.desc
  let c := m.ctx
  let model := (s.model c (reqModel d)).bind fun x => if x.leaving.isSome then none else some x
  let adapter := !reqAdapterValid d ||
    s.serving.adapters.any fun e => e.2.ctx == c && e.2.handle == reqAdapter d && e.2.gen == m.adapterGen
  match (s.stream c (reqStream d)), s.serving.requests.freeFrom 8192 0 with
  | some _, some i =>
    match if adapter && (s.customer c (reqCustomer d)).isSome then model else none with
    | none =>
      let s1 := (s.setRequest i (s.mirroredRequest m 65536)).endRequest i stConfigMismatch 5 true
      (s1.raise stConfigMismatch (beData [(1, c)]), false)
    | some x =>
      let k := s.evicting c fun s => s.kvCreate c 0 x.layers x.hkv x.d x.dv
      if k.2.1 = stOk then
        let r := k.1.mirroredRequest m k.2.2
        let p := k.1.prefixReuse r
        ((p.1.setRequest i { r with prefixHit := p.2 }).bump 0x64000A, true)
      else ((s.setRequest i (s.mirroredRequest m 65536)).endRequest i k.2.1 5 true, false)
  | _, _ => (m.frames.foldl State.unref s, false)

/-- WAIT_REASONs of every context are brought up to date. -/
def State.refreshAll (s : State) : State := (List.range 16).foldl State.refreshWaits s

/-- The takeover (R619). [DEDUCED, unsafe, log entry 44] -/
def State.takeover (s : State) : State :=
  let partner := s.pairSetting 0x500005
  let s1 := ({ s with pair := { s.pair with answers := [partner] } }.sendPairKind 0x14 false).announceAll []
  let live := s1.pair.staging
  let s2 := { s1 with pair := { s1.pair with staging := [] } }.rootsTaken
  let r := live.foldl (fun (a : State × Nat) m => let x := a.1.readmit m; (x.1, a.2 + if x.2 then 1 else 0)) (s2, 0)
  ((r.1.bump 0x550004).raise stTakeover (beData [(8, s.pair.epoch), (4, r.2)])).refreshAll

/-- Enter ACTIVE in an epoch (R610, R619): the lease runs from the claim; the first RENEW is due at once. [DEDUCED, unsafe, log entry 44] -/
def State.enterActive (s : State) (epoch : Nat) : State :=
  let s1 := s.enterRole .active
  let p := { s1.pair with
    epoch := epoch, seen := max s1.pair.seen epoch, holder := s1.pair.place, leaseEnd := s1.now + 50000000, renewAt := 0, renews := []
    claim := none, released := false, mirrorSent := 0, mirrorAcked := 0, mirrorLost := false, mirrorSince := none, need := [] }
  { s1 with pair := p }.takeover

/-- CLAIM for an epoch to the witness (R611). -/
def State.sendClaim (s : State) (epoch : Nat) : State :=
  let n := s.nextPairSeq 0x14
  let body := { n.1 with pair := { n.1.pair with epoch := epoch } }.pairBody 0x14 n.2 n.1.mirrorSeq n.1.pairDigest
  (n.1.sendPair .tsnA true body).sendPair .tsnB true body

/-- Claim the lease (R607, R611): the epoch is in the journal before this tray acts. Under LEASE_POLICY = 1 the witness decides. [DEDUCED, unsafe, log entry 44] -/
def State.startClaim (s : State) : State :=
  let e := max s.pair.seen s.pair.epoch + 1
  let s1 := { s with pair := { s.pair with seen := e } }.journalPut 0x07 (s.pairSetting 0x500002) (leBytes 8 e)
  if s1.pairSetting 0x510001 = 1 then { s1 with pair := { s1.pair with claim := some (e, s1.now) } }.sendClaim e
  else s1.enterActive e

/-- PAIR_RELEASE (R611, R613): the partner gives up the current epoch. -/
def execPairRelease (dt : Nat) (path : BeatPath) (body : PairBody) (s0 : State) : Host.Outcome State Fault Refusal :=
  let h := (s0.elapse dt).hear (path = .tsn) 0x13 body
  if !h.2 then .next h.1
  else
    let s1 := h.1.judgeEpoch 0x13 body
    if s1.slackRuns && body.epoch == s1.pair.epoch && s1.pair.claim.isNone && (s1.pair.role = .standby || s1.pair.role = .syncing) then
      .next ({ s1 with pair := { s1.pair with released := true } }.startClaim)
    else .next s1

/-- RELINQUISH is carried out (R613): refused with PAIR_STATE unless this tray is ACTIVE and its partner is not SYNCING (Table 15-12). -/
def State.relinquish (s : State) : State × Status :=
  if !(s.pair.role = .active) || s.pair.partnerRole == some .syncing then
    (s.raise stPairState (beData [(1, fieldAt (s.pairBody 0x10 0 0 0) 1 1)]), stPairState)
  else (s.giveUp, stOk)

/-- RELINQUISH is written (R613). -/
def execRelinquish (s : State) : Host.Outcome State Fault Refusal :=
  if s.woOpen then .next s.relinquish.1 else .next s

/-- CLAIM_TIMER (R611): 55 ms since the last RENEW of the current epoch. A stopped tray does not claim (R645). -/
def execClaimTimer (dt : Nat) (s0 : State) : Host.Outcome State Fault Refusal :=
  let s := s0.elapse dt
  if s.pairOpen && s.slackRuns && (s.pair.role = .standby || s.pair.role = .syncing) && s.pair.claim.isNone &&
      decide (s.pair.heard + 55000000 ≤ s.now) then .next s.startClaim
  else .next s

/-- INIT_CLAIM_TIMER (Table 15-9). -/
def execInitClaimTimer (dt : Nat) (s0 : State) : Host.Outcome State Fault Refusal :=
  let s := s0.elapse dt
  let wait := if s.pairSetting 0x500009 = 1 then 55000000 else 110000000
  if s.pairOpen && s.slackRuns && s.pair.role = .init && s.pair.startupOk && s.pair.claim.isNone && s.pair.adopt.isNone &&
      decide (s.pair.since + wait ≤ s.now) then .next s.startClaim
  else .next s

/-- CLAIM_RESEND (R611): every 5 ms until a GRANT. -/
def execClaimResend (dt : Nat) (s0 : State) : Host.Outcome State Fault Refusal :=
  let s := s0.elapse dt
  match s.pair.claim with
  | some (e, t) =>
    if s.pairOpen && s.slackRuns && decide (t + 5000000 ≤ s.now) then
      .next ({ s with pair := { s.pair with claim := some (e, s.now) } }.sendClaim e)
    else .next s
  | none => .next s

/-- CLAIM of the partner (R613). -/
def execClaim (dt : Nat) (path : BeatPath) (body : PairBody) (s0 : State) : Host.Outcome State Fault Refusal :=
  let h := (s0.elapse dt).hear (path = .tsn) 0x14 body
  if !h.2 then .next h.1 else .next (h.1.judgeEpoch 0x14 body)

/-- A body of the witness arrives on a TSN port (R604, R612): false where it is not for this pair. [DEDUCED, unsafe, log entry 44] -/
def State.hearWitness (s : State) (path : PairPath) (kind : Nat) (b : PairBody) : State × Bool :=
  if !s.pairOpen || path = .fabric then (s, false)
  else if !s.pairMac kind b then (s.bump 0x550008, false)
  else (s, b.pairId == s.pairSetting 0x500002)

/-- GRANT (R611): the claimant enters ACTIVE for the epoch it claimed. -/
def execGrant (dt : Nat) (path : PairPath) (body : PairBody) (s0 : State) : Host.Outcome State Fault Refusal :=
  let h := (s0.elapse dt).hearWitness path 0x15 body
  match h.1.pair.claim with
  | some (e, _) => if h.2 && body.epoch == e && h.1.slackRuns then .next (h.1.enterActive e) else .next h.1
  | none => .next h.1

/-- DENY (R611, R612): the lease cannot be had now; the claim goes on. -/
def execDeny (dt : Nat) (path : PairPath) (body : PairBody) (s0 : State) : Host.Outcome State Fault Refusal :=
  let h := (s0.elapse dt).hearWitness path 0x16 body
  match h.1.pair.claim with
  | some (e, _) => if h.2 then .next (h.1.raise stLeaseLost (beData [(8, e)])) else .next h.1
  | none => .next h.1

/-- A REPLAY joins the runs to be compared (R623, R702). -/
def execReplay (s : State) : Host.Outcome State Fault Refusal :=
  match s.popMessage 0x0020 with
  | none => .next s
  | some (s1, _, m) =>
    let a := s1.assemble m
    match a.2 with
    | none => .next a.1
    | some b =>
      if a.1.pair.role = .shadow || a.1.pair.role = .standby then
        .next { a.1 with pair := { a.1.pair with replays := a.1.pair.replays ++ [⟨m.src, b, a.1.pair.role = .standby⟩] } }
      else .next a.1

/-- A comparison of R623 has ended. -/
def State.shadowResult (s : State) (src : Nat) (r : Nat × Nat) : State :=
  if s.comparePasses r then
    let n := s.pair.passes + 1
    let s1 := { s with pair := { s.pair with passes := n } }.compareAnswer src r.1 r.2 0
    if s1.dictVal 0x520005 ≤ n ∧ s1.pair.joinBlocked = false then s1.enterSyncing else s1
  else
    let n := s.pair.fails + 1
    let s1 := { s with pair := { s.pair with fails := n, joinBlocked := s.pair.joinBlocked || decide (3 ≤ n) } }
    (s1.compareMismatch r).compareAnswer src r.1 r.2 1

/-- A replay of R702 has ended: a disagreement starts a sweep (R703). [DEDUCED, unsafe, log entry 46] -/
def State.standbyResult (s0 : State) (src : Nat) (r : Nat × Nat) : State :=
  let s := s0.bump 0x603009
  if s.comparePasses r then { s with integ := { s.integ with disagreements := 0 } }.compareAnswer src r.1 r.2 0
  else { s with integ := { s.integ with disagreed := perMillion r } }.startSweep 4

/-- REPLAY_RUN_DONE (R622, R623, R702): the replayed RUN has written these output planes. [DEDUCED, unsafe, log entry 46] -/
def execReplayRunDone (outputs : List Byte) (s : State) : Host.Outcome State Fault Refusal :=
  match if s.computeOpen then s.pair.replays else [] with
  | [] => .next s
  | x :: rest =>
    let s1 := { s with pair := { s.pair with replays := rest } }
    match parseReplay x.payload with
    | none => .next (s1.compareAnswer x.src 0 0 2)
    | some p =>
      let r := s1.compareOutputs p p.outputs outputs
      if x.standby then .next (s1.standbyResult x.src r)
      else if s1.pair.role = .shadow then .next (s1.shadowResult x.src r)
      else .next (s1.compareAnswer x.src 0 0 2)

/-- COMPARE_RESULT (R620, R623, R703). [DEDUCED, unsafe, log entry 43] -/
def execCompareResult (s : State) : Host.Outcome State Fault Refusal :=
  match s.popMessage 0x0021 with
  | none => .next s
  | some (s1, _, m) =>
    let be (o n : Nat) : Nat := beNat ((m.body.drop o).take n)
    let verdict := be 8 1
    if m.src ≠ s1.pairSetting 0x500005 then .next s1
    else
      match s1.pair.role, verdict with
      | .init, 0 => .next { s1 with pair := { s1.pair with startupOk := s1.integ.mismatched.isEmpty } }
      | .init, 1 => .next (s1.compareMismatch (be 0 4, be 4 4))
      | .active, 0 => .next { s1 with integ := { s1.integ with disagreements := 0 } }
      | .active, 1 => if s1.pair.partnerRole == some .standby then .next (s1.startSweep 5) else .next s1
      | _, _ => .next s1

/-- COMPARE_OUTPUT (R624): the partner's OUTPUT of a RUN. -/
def execCompareOutput (s : State) : Host.Outcome State Fault Refusal :=
  match s.popMessage 0x0022 with
  | none => .next s
  | some (s1, _, m) =>
    let a := s1.assemble m
    match a.2 with
    | none => .next a.1
    | some b =>
      if a.1.dictVal 0x520002 = 1 then
        .next ({ a.1 with pair := { a.1.pair with outputs := a.1.pair.outputs.put (32 + m.ctx) b } }.compareOutput m.ctx)
      else .next a.1

/-- STANDBY_REPLAY (R702): every REPLAY_PERIOD_S the active sends the RUN it completed last; a standby that has none to replay runs a sweep in its place. -/
def execStandbyReplay (dt : Nat) (s0 : State) : Host.Outcome State Fault Refusal :=
  let s := s0.elapse dt
  if !s.computeOpen || decide (s.now < s.integ.replayAt + s.dictVal 0x680001 * 1000000000) then .next s
  else
    let s1 := { s with integ := { s.integ with replayAt := s.now } }
    match s1.pair.role with
    | .active =>
      match if s1.pair.partnerRole == some .standby then s1.pair.outputs.look 16 else none with
      | some p =>
        let s2 := { s1 with pair := { s1.pair with outputs := s1.pair.outputs.del 16 } }
        .next (s2.sendTo (s2.pairSetting 0x500005) 0x0020 0 0 p).1
      | none => .next s1
    | .standby => if s1.pair.replays.isEmpty then .next (s1.startSweep 6) else .next s1
    | _ => .next s1

/-- PLACE_ADOPT is carried out (R625). -/
def State.placeAdopt (s : State) (p : Nat) : State × Status :=
  if s.pair.place ≠ 0xFF then (s.raise stPairState (beData [(1, fieldAt (s.pairBody 0x10 0 0 0) 1 1)]), stPairState)
  else ({ s with pair := { s.pair with adopt := some (p, s.now + 110000000) } }.announceAll [p], stOk)

/-- PLACE_ADOPT is written (R625). -/
def execPlaceAdopt (place : Place) (s : State) : Host.Outcome State Fault Refusal :=
  if s.woOpen then .next (s.placeAdopt place.val).1 else .next s

/-- PLACE_ADOPT_TIMEOUT (R625): nobody answered for the place within 110 ms; the spare takes it and enters INIT. -/
def execPlaceAdoptTimeout (dt : Nat) (s0 : State) : Host.Outcome State Fault Refusal :=
  let s := s0.elapse dt
  match s.pair.adopt with
  | none => .next s
  | some (p, t) =>
    if s.mgmtUp && decide (t ≤ s.now) then
      let role : PairRole := if s.pairSetting 0x500001 = 1 then .init else .alone
      let s1 := s.enterRole role
      .next ({ s1 with pair := { s1.pair with place := p, adopt := none, tsnHeard := s1.now, fabHeard := s1.now } }.announceAll [])
    else .next s

end Sys2Proof.Machine
end

