-- ==== Sys2Proof/Machine/Contexts.lean ====
section
/-! DEFINITION. The life of contexts, time-sharing of the compute regions, Breakwater and tenant teardown (11_host_link_contexts_and_trust.md R448, R455 to R471). -/

namespace Sys2Proof.Machine

/-- A teardown of a context becomes due (Table 11-6); one in teardown or scrub is not affected (Table 11-12). [DEDUCED, unsafe, log entry 35] -/
def State.tearDue (s : State) (c : Nat) (destroy byReset : Bool) : State :=
  let x := s.ctx c
  if s.resident c then s.setCtx c { x with tear := .due destroy, tearAt := s.now, byReset := x.byReset || byReset }
  else if x.mode = .free then s
  else s.setCtx c { x with byReset := x.byReset || byReset }

/-- Withdraw the host driver's vote of a function (R529). -/
def State.dropVote (s : State) (fn : Nat) : State := { s with power := { s.power with votes := s.power.votes.del fn } }

/-- A reset of the endpoint or of a function wakes the module (Table 13-7 source 0x08). [DEDUCED, unsafe, log entry 35] -/
def State.resetWakes (s : State) : State := if s.asleep then s.wakeBy 0x08 0xFF 0xF 0 else s

/-- FLR (R448, R529). -/
def execFlr (fn : Fn) (s : State) : Host.Outcome State Fault Refusal :=
  if s.fnPresent fn.val then .next (((s.tearDue fn.val false false).dropVote fn.val).resetWakes) else .next s

/-- VF_ENABLE_CLEAR (R448). -/
def execVfEnableClear (s : State) : Host.Outcome State Fault Refusal :=
  if s.fnPresent 0 then
    let s1 := { s with config := s.config.setAt 0 0 0 }
    .next ((((List.range 16).drop 1).foldl (fun s c => s.tearDue c false false) s1).resetWakes)
  else .next s

/-- A conventional reset of the endpoint (R448, R529): every context's teardown is due, CREATE is held back until they are FREE; configuration space returns to its reset values. [DEDUCED, unsafe, log entry 35] -/
def State.endpointReset (s : State) : State :=
  let s1 := (List.range 16).foldl (fun s c => (s.tearDue c false true).dropVote c) s
  { s1 with config := [] }.resetWakes

/-- ENDPOINT_RESET (R448). -/
def execEndpointReset (s : State) : Host.Outcome State Fault Refusal :=
  if s.board.powered && s.power.mode != 4 then .next s.endpointReset else .next s

/-- Fields of SEC_CTX_CMD (Table 11-9). -/
def secQuota (v : BitVec 64) : BitVec 32 := v.extractLsb' 32 32
def secWeight (v : BitVec 64) : BitVec 4 := v.extractLsb' 20 4
def secFunc (v : BitVec 64) : Nat := (v.extractLsb' 16 4).toNat
def secOpcode (v : BitVec 64) : Nat := (v.extractLsb' 0 8).toNat

/-- The context command that is in progress, with this OPCODE. -/
def State.secCommand (s : State) (op : Nat) : Option (BitVec 64) :=
  if s.board.ready && s.mgmtUp && (s.path 2 0).busy then s.sched.command.filter fun v => secOpcode v == op else none

/-- The context command completes (R458). -/
def State.secDone (s : State) (st : Status) : State := { s with sched := { s.sched with command := none } }.pathDone 2 0 st none

/-- The quotas of the resident contexts other than `c` and this one stay at or below what contexts can have (R458). -/
def State.quotasFit (s : State) (c quota : Nat) : Bool :=
  decide ((((List.range 16).filter fun i => i != c && s.resident i).map fun i => (s.ctx i).quota.toNat).sum + quota ≤ 49283072)

/-- Some teardown that a conventional reset began has not reached FREE (R448). -/
def State.resetPending (s : State) : Bool := s.ctxs.any fun e => e.2.byReset && e.2.mode != .free

/-- CREATE is judged (R458). -/
def State.createRefusal (s : State) (v : BitVec 64) : Option Status :=
  let c := secFunc v
  let x := s.ctx c
  if c ≠ 0 ∧ s.config.valAt 0 0 ≠ 1 then some stFuncAbsent
  else if s.resident c then some stCtxExists
  else if x.mode ≠ .free ∨ s.resetPending = true then some stCtxState
  else if secWeight v = 0 ∨ secQuota v = 0 then some stBadSecCommand
  else if !s.quotasFit c (secQuota v).toNat then some stQuotaOvercommit
  else none

/-- CTX_CREATE (R456, R458): the generation is the last one plus 1, from 65,535 back to 1, and is kept in the journal. -/
def execCtxCreate (s : State) : Host.Outcome State Fault Refusal :=
  match s.secCommand 1 with
  | none => .next s
  | some v =>
    match s.createRefusal v with
    | some st => .next (s.secDone st)
    | none =>
      let c := secFunc v
      let old := s.ctx c
      let gen : BitVec 16 := if old.gen = 65535 then 1 else old.gen + 1
      let s1 := s.setCtx c { Context.reset with mode := .active, gen := gen, quota := secQuota v, weight := secWeight v, ide := old.ide }
      .next ((s1.journalPut 0x06 c (leBytes 2 gen.toNat)).secDone stOk)

/-- CTX_DESTROY (R458): it completes when the context has entered TEARDOWN. -/
def execCtxDestroy (s : State) : Host.Outcome State Fault Refusal :=
  match s.secCommand 2 with
  | none => .next s
  | some v => if s.resident (secFunc v) then .next (s.tearDue (secFunc v) true false) else .next (s.secDone stCtxState)

/-- SET is judged (R458). -/
def State.setRefusal (s : State) (v : BitVec 64) : Option Status :=
  let c := secFunc v
  let x := s.ctx c
  if x.mode = .locked then some stTdiLocked
  else if x.mode ≠ .active then some stCtxState
  else if secWeight v = 0 ∨ secQuota v = 0 then some stBadSecCommand
  else if !s.quotasFit c (secQuota v).toNat then some stQuotaOvercommit
  else if (secQuota v).toNat < s.framesUsed c x.gen then some stQuotaBelowUse
  else none

/-- CTX_SET (R458). -/
def execCtxSet (s : State) : Host.Outcome State Fault Refusal :=
  match s.secCommand 3 with
  | none => .next s
  | some v =>
    match s.setRefusal v with
    | some st => .next (s.secDone st)
    | none => .next ((s.setCtx (secFunc v) { s.ctx (secFunc v) with quota := secQuota v, weight := secWeight v }).secDone stOk)

/-- SEC_SCHED_WRITE (R460, Table 11-10): only PF0 has the register. -/
def execSecSchedWrite (fn : Fn) (value : BitVec 32) (s : State) : Host.Outcome State Fault Refusal :=
  s.regWrite fn.val 0x400110 false (.secSchedWrite fn value) fun s =>
    let excess := bitsOf value.toNat 31 24
    let quantum := bitsOf value.toNat 16 0
    if fn.val = 0 ∧ 1 ≤ excess ∧ 100 ≤ quantum ∧ quantum ≤ 100000 then { s with sched := { s.sched with quantum := quantum, overrun := excess } } else s

/-- A context is a candidate for the compute regions (R461): a RUN job of it may start, or a request of it is startable. A job or a step that is under way keeps it one. [DEDUCED, unsafe, log entry 34] -/
def State.candidate (s : State) (c : Nat) : Bool :=
  s.resident c &&
    ((s.jobs.any fun e => e.2.ctx == c && (e.2.placed || (e.2.fault.isNone && s.mayRun c))) || (s.serving.steps.look c).isSome ||
      (s.mayServe c && s.anyStartable c))

/-- The next candidate in round robin by context number after the last running context (R461), other than `but`. [DEDUCED, unsafe, log entry 34] -/
def State.nextCandidate (s : State) (but : Option Nat) : Option Nat :=
  ((List.range 16).map fun i => (s.sched.last + 1 + i) % 16).find? fun c => s.candidate c && but != some c

/-- The slice of a context in µs, as WEIGHT and QUANTUM_US stand now (R461). -/
def State.sliceOf (s : State) (c : Nat) : Nat := (s.ctx c).weight.toNat * s.sched.quantum

/-- A context becomes the running context. -/
def State.runContext (s : State) (c : Nat) : State :=
  { s with sched := { s.sched with
    running := some c, last := c, sliceStart := s.now, sliceLen := s.sliceOf c, switching := none, clearing := none, holds := some c } }

/-- Every compute region is held by nothing. -/
def State.allRegionsFree (s : State) : Bool := (List.range 6).all fun r => (s.regions.valAt .reset r).holder = .free

/-- The next candidate starts, after the clear of R464 where the on-chip stores hold another context's data. [DEDUCED, unsafe, log entry 34] -/
def State.startNext (s : State) : State :=
  match s.nextCandidate none with
  | none => s
  | some c =>
    if s.sched.holds.isNone || s.sched.holds == some c then s.runContext c
    else { s with sched := { s.sched with clearing := some s.now } }

/-- CONTEXT_START (R461). -/
def execContextStart (dt : Nat) (s0 : State) : Host.Outcome State Fault Refusal :=
  let s := s0.elapse dt
  if s0.computeOpen && s.sched.running.isNone && s.sched.clearing.isNone && s.allRegionsFree then .next s.startNext else .next s

/-- A switch away from the running context begins (R462). [DEDUCED, unsafe, log entry 34] -/
def State.beginSwitch (s : State) : State :=
  { s with sched := { s.sched with switching := some s.now, switchMs := s.sched.overrun } }

/-- SLICE_END (R461, R462): the slice is over, or the running context is no candidate any more. -/
def execSliceEnd (dt : Nat) (s0 : State) : Host.Outcome State Fault Refusal :=
  let s := s0.elapse dt
  match s.sched.running with
  | none => .next s
  | some c =>
    if !s0.clocked || s.sched.switching.isSome || s.sched.clearing.isSome then .next s
    else if !s.candidate c then .next s.beginSwitch
    else if s.sched.sliceStart + 1000 * s.sched.sliceLen ≤ s.now then
      if (s.nextCandidate (some c)).isSome then .next s.beginSwitch
      else .next { s with sched := { s.sched with sliceStart := s.now, sliceLen := s.sliceOf c } }
    else .next s

/-- CONTEXT_SWITCH_REGIONS_FREE (R462 step 3): all six regions are free; the clear of R464 begins where another context is next. It waits for open self-test windows (Table 18-8). -/
def execContextSwitchRegionsFree (dt : Nat) (s0 : State) : Host.Outcome State Fault Refusal :=
  let s := s0.elapse dt
  match s.sched.running, s.sched.switching with
  | some _, some _ =>
    if s0.clocked && s.allRegionsFree && s.integ.windows.isEmpty then
      .next ({ s with sched := { s.sched with running := none, switching := none } }.count 0xC3 none none 1).startNext
    else .next s
  | _, _ => .next s

/-- Blocks of Region 0 to Region 5 record the clear (Table 16-14). -/
def State.strandClear (s : State) : State :=
  ((List.range 6).flatMap fun r => (regionBlocks r).filter fun b => decide (b % 256 / 32 < 5)).foldl (fun s b => s.strand b 0x0A none 0) s

/-- CONTEXT_CLEAR_DONE (R464): 12.0 µs ± 0.1 µs; the next candidate starts. -/
def execContextClearDone (dt : Nat) (s0 : State) : Host.Outcome State Fault Refusal :=
  let s := s0.elapse dt
  match s.sched.clearing with
  | none => .next s
  | some t =>
    if s0.board.powered && !s0.asleep && decide (t + 11900 ≤ s.now) then
      let s1 := (List.range 6).foldl (fun s r => s.modRegion r RegionState.zeroed) s
      let s2 := { s1 with sched := { s1.sched with clearing := none, holds := none } }.strandClear
      .next (if s2.computeOpen then s2.startNext else s2).pumpAll
    else .next s

/-- SLICE_OVERRUN (R463): the job ends with SLICE_OVERRUN and is not requeued. -/
def execSliceOverrun (dt : Nat) (job : Nat) (s0 : State) : Host.Outcome State Fault Refusal :=
  let s := s0.elapse dt
  match s.jobs.look job, s.sched.switching with
  | some j, some t =>
    if s0.clocked && j.placed && j.fault.isNone && s.sched.running == some j.ctx && decide (t + 1000000 * s.sched.switchMs ≤ s.now) then
      .next ({ s with jobs := s.jobs.put job { j.failAt stSliceOverrun j.activeOp with once := true } }.bump 0x710009)
    else .next s
  | _, _ => .next s

/-- Serving state of a context when its work is aborted (R467 step 2): its step ends, open overlays are rolled back (R345), nothing of its requests is drawn or delivered any more, nothing waits for them. [DEDUCED, unsafe, log entry 36] -/
def State.abortServing (s0 : State) (c : Nat) : State :=
  let ended := match s0.serving.steps.look c with | some st => (s0.ranSome c st).closeStep c st | none => s0
  let s := (ended.requestsOf c).foldl (fun s e => s.rollbackAll e.2) ended
  let mine := (s.requestsOf c).map (·.1)
  let stop (r : Request) : Request :=
    if r.ctx = c then { r with
      state := .draining, cancelPending := true, inFlight := false, drawn := [], endDue := false, cancels := [], noMemSince := none, budgetSince := none }
    else r
  let s1 := { s with serving := { s.serving with
    requests := s.serving.requests.mapVals fun _ r => stop r
    rows := s.serving.rows.filter fun x => !mine.any x.isOf
    models := s.serving.models.mapVals fun k m => { m with leaving := if k / 4 = c then none else m.leaving }
    streams := s.serving.streams.mapVals fun k x => { x with closing := if k / 256 = c then none else x.closing }
    adapters := s.serving.adapters.mapVals fun _ a => { a with waiters := if a.ctx = c then [] else a.waiters } } }
  (s1.servingRegions c).foldl (fun s r => s.modRegion r fun x => { x with holder := .free }) s1

/-- Codec work of a context is aborted (R467 step 2): its pictures in progress stop, nothing waits for output. [DEDUCED, unsafe, log entry 36] -/
def State.abortVideo (s : State) (c : Nat) : State :=
  let quiet (r : EventRing) : EventRing := { r with due := [] }
  { s with video := { s.video with
    dec := s.video.dec.mapVals fun _ x =>
      if x.ctx = c then { x with queue := [], feed := none, ring := quiet x.ring, ready := [], core := none, closing := none } else x
    enc := s.video.enc.mapVals fun _ x =>
      if x.ctx = c then { x with frames := [], current := none, ring := quiet x.ring, core := none, closing := none } else x } }

/-- Rings, jobs and page work of a context are aborted (R467 step 2): unstarted work is dropped without records, running jobs drain. [DEDUCED, unsafe, log entry 36] -/
def State.abortRings (s : State) (c : Nat) : State :=
  let ofCtx (src : PageSrc) : Bool := PageSrcFn src == c
  let other (i : CopyItem) : Bool := match i.why with
    | .copy src _ _ => !ofCtx src
    | .cow k => !((s.pm.stalls.look k).any fun w => w.ctx == c)
  let hosts := [0, 1].foldl (fun (m : Store DmaRing) d => m.setAt .reset (hostRing c d) { DmaRing.reset with current := (s.ring (hostRing c d)).current }) s.dma
  let s1 := { s with
    queues := s.queues.keep fun k _ => k / 8 != c
    dma := (hosts.del (fabRing c 0)).del (fabRing c 1)
    jobs := (s.jobs.keep fun _ j => j.ctx != c || j.placed).mapVals fun _ j => if j.ctx = c then { j.failAt stJobFault j.activeOp with once := true } else j
    pm := { s.pm with
      copies := s.pm.copies.filter other, stalls := s.pm.stalls.keep fun _ w => w.ctx != c
      work := s.pm.work.filter fun w => !ofCtx w.cmd.src, waits := s.pm.waits.filter fun w => !ofCtx w.src } }
  if (s.pm.work.any fun w => w.cmd.src == .regs c) || (s.pm.waits.any fun w => w.src == .regs c) then s1.pathDone 0 c stCtxGone none else s1

/-- Step 1 of R467: the fence. A DESTROY completes. [DEDUCED, unsafe, log entry 36] -/
def State.tearFence (s : State) (c : Nat) (destroy : Bool) : State :=
  let s1 := s.setCtx c { s.ctx c with mode := .teardown, tear := .fenced, shut := true }
  if destroy then s1.secDone stOk else s1

/-- Step 2 of R467: the abort; the wait of step 3 begins. The running context begins its switch (R462). [DEDUCED, unsafe, log entry 36] -/
def State.tearAbort (s : State) (c : Nat) : State :=
  let s1 := ((s.abortServing c).abortVideo c).abortRings c
  let running := s.sched.running == some c
  let s2 := s1.setCtx c { s1.ctx c with tear := .waiting, tearAt := s1.now, wasRunning := running }
  if running && s2.sched.switching.isNone then s2.beginSwitch else s2

/-- TEARDOWN (R467 steps 1 and 2). While Slack holds the units only the fence takes place (Table 16-18). -/
def execTeardown (c : Ctx) (s : State) : Host.Outcome State Fault Refusal :=
  if !s.board.ready || s.asleep then .next s
  else
    match (s.ctx c.val).tear with
    | .due d => .next (if s.slackRuns then (s.tearFence c.val d).tearAbort c.val else s.tearFence c.val d)
    | .fenced => if s.slackRuns then .next (s.tearAbort c.val) else .next s
    | _ => .next s

/-- Nothing of the context is outstanding (R467 step 3): no host read, no job that drains. [DEDUCED, unsafe, log entry 36] -/
def State.tearQuiet (s : State) (c : Nat) : Bool :=
  (s.ring (hostRing c 0)).current.isNone && (s.ring (hostRing c 1)).current.isNone && !(s.jobs.any fun e => e.2.ctx == c)

/-- Bytes of the frames that a context owns (R457). -/
def State.ownedBytes (s : State) (c : Nat) : Nat :=
  (s.pm.frames.map fun e => match e.2.owner with | .ctx x _ => if x = c then 2 ^ e.2.k * granule else 0 | .device => 0).sum

/-- TEARDOWN_WAIT_END (R467 steps 3 and 4): the keys are zeroised, the stream is retired, the scrub joins the fill queue. -/
def execTeardownWaitEnd (dt : Nat) (c : Ctx) (s0 : State) : Host.Outcome State Fault Refusal :=
  let s := s0.elapse dt
  let x := s.ctx c.val
  if s0.clocked && x.tear = .waiting && (s.tearQuiet c.val || decide (x.tearAt + 1000000 ≤ s.now)) then
    let s1 := s.setCtx c.val { x with mode := .scrub, tear := .queued, ide := ⟨[], none, false, true⟩, scrubBytes := s.ownedBytes c.val }
    let s2 := { s1 with dma := (s1.dma.del (hostRing c.val 0)).del (hostRing c.val 1) }
    .next { s2 with pm := { s2.pm with fills := s2.pm.fills ++ [⟨0, .scrub c.val⟩] } }
  else .next s

/-- TEARDOWN_SCRUB_START (R465): the fill engine has come to the context's frames. A scrub that a chip-level fault stopped restarts after the recovery, or once the tray's work has drained (Table 11-12). -/
def execTeardownScrubStart (dt : Nat) (c : Ctx) (s0 : State) : Host.Outcome State Fault Refusal :=
  let s := s0.elapse dt
  let x := s.ctx c.val
  let first := match s.pm.fills with | i :: _ => i.why = .scrub c.val | [] => false
  let drained := s.integ.persistent.isNone || !(s.jobs.any fun e => e.2.placed)
  if s0.clocked && x.tear = .queued && first && s.integ.recovering.isNone && drained then
    .next (s.setCtx c.val { x with tear := .scrubbing, tearAt := s.now, scrubBytes := s.ownedBytes c.val })
  else .next s

/-- The frames of a context are zero and free; those marked for retirement are retired (R151, R465). [DEDUCED, unsafe, log entry 37] -/
def State.scrubFrames (s : State) (c : Nat) : State :=
  let own (f : PageFrame) : Bool := match f.owner with | .ctx x _ => x == c | .device => false
  let mine := s.pm.frames.filter fun e => own e.2
  let s1 := mine.foldl (fun s e => s.zeroFrame e.1 e.2.k) s
  let kept := (s1.pm.frames.keep fun _ f => !own f || f.retire).mapVals fun _ f =>
    if own f then { f with owner := .device, refs := 0, pins := 0, spec := false, phase := .retired } else f
  { s1 with pm := { s1.pm with
    frames := kept, maps := s1.pm.maps.keep fun k _ => k / 2 ^ 26 != c, ghosts := s1.pm.ghosts.filter fun g => g.ctx != c
    live := s1.pm.live.filter fun a => a.ctx != c, fills := s1.pm.fills.filter fun i => i.why != FillWhy.scrub c } }

/-- The KV tables, entries and page headers of a context are cleared (R465). [DEDUCED, unsafe, log entry 37] -/
def State.scrubKv (s : State) (c : Nat) : State :=
  let gone := (s.kv.tables.filter fun e => e.2.ctx == c).map (·.1)
  let bases := (s.kv.tables.vals.filter fun t => t.ctx == c).flatMap fun t => t.base :: t.overlay.toList.map (·.base)
  let olds := (s.kv.oldBlocks.filter fun b => gone.contains b.table).map (·.base)
  { s with kv := { s.kv with
    tables := s.kv.tables.keep fun _ t => t.ctx != c
    pages := s.kv.pages.keep fun _ p => p.ctx != c
    blocks := s.kv.blocks.keep fun b _ => !bases.contains b && !olds.contains b
    oldBlocks := s.kv.oldBlocks.filter fun b => !gone.contains b.table
    walks := s.kv.walks.keep fun _ w => !gone.contains w.table
    pending := s.kv.pending.filter fun p => !gone.contains p.table
    reads := s.kv.reads.del c } }

/-- The prefix index loses the nodes of a context. -/
def State.scrubNodes (s : State) (c : Nat) : State :=
  (s.serving.nodes.filter fun e => e.2.ctx == c).foldl (fun s e => match s.serving.nodes.look e.1 with | some n => s.unlinkNode e.1 n | none => s) s

/-- The serving and codec state and the programs of a context are cleared (R465). [DEDUCED, unsafe, log entry 37] -/
def State.scrubEngines (s0 : State) (c : Nat) : State :=
  let s := s0.scrubNodes c
  { s with
    progs := s.progs.keep fun k _ => k / 1024 != c
    serving := { s.serving with
      models := s.serving.models.keep fun k _ => k / 4 != c
      customers := s.serving.customers.keep fun k _ => k / 1024 != c
      lastCustomer := s.serving.lastCustomer.keep fun k _ => k / 8 != c
      requests := s.serving.requests.keep fun _ r => r.ctx != c
      streams := s.serving.streams.keep fun k _ => k / 256 != c
      adapters := s.serving.adapters.keep fun _ a => a.ctx != c
      adapterLast := s.serving.adapterLast.keep fun k _ => k / 256 != c
      sincePrefill := s.serving.sincePrefill.del c, idleSince := s.serving.idleSince.del c }
    video := { s.video with dec := s.video.dec.keep fun _ x => x.ctx != c, enc := s.video.enc.keep fun _ x => x.ctx != c } }

/-- The registers of the page manager, queues, rings, sessions and fabric transfers of a function, and the mirror's data of its context (R465). [DEDUCED, unsafe, log entry 37] -/
def State.scrubRegs (s : State) (c : Nat) : State :=
  let mine (k : Nat) : Bool := k / 2 ^ 28 == c && (within (k % 2 ^ 28) 0x200000 0x200000 || within (k % 2 ^ 28) 0x701000 0x48)
  let cleared (x : Counter) : Counter := if !x.anyCtx && x.ctx == c then { Counter.reset with sel := x.sel } else x
  { s with
    regs := s.regs.keep fun k _ => !mine k
    paths := (s.paths.del (pathKey 0 c)).del (pathKey 1 c)
    obs := { s.obs with counters := s.obs.counters.mapVals fun _ x => cleared x }
    pair := { s.pair with
      staging := s.pair.staging.filter fun m => m.ctx != c, roots := s.pair.roots.del c, outputs := (s.pair.outputs.del c).del (32 + c) } }

/-- The clear of R464 as a scrub applies it to a context that was running (R465); the data of a context that is gone never counts as the next one's (R464). [DEDUCED, unsafe, log entry 37] -/
def State.scrubChip (s : State) (c : Nat) : State :=
  let s1 := if (s.ctx c).wasRunning && s.allRegionsFree then
      ((List.range 6).foldl (fun s r => s.modRegion r fun x => if x.sram = some c then x.zeroed else x) s).strandClear
    else s
  { s1 with sched := { s1.sched with
    holds := if s1.sched.holds = some c then (if (s.ctx c).wasRunning then none else some 16) else s1.sched.holds } }

/-- TEARDOWN_SCRUB_DONE (R465 to R467, R639): 200 µs + S / 1.0 TB/s, the second term to ±0.5 %; FREE, with SCRUB_DONE as an event and on each port with a peer. -/
def execTeardownScrubDone (dt : Nat) (c : Ctx) (s0 : State) : Host.Outcome State Fault Refusal :=
  let s := s0.elapse dt
  let x := s.ctx c.val
  let took := s.now - x.tearAt
  if s0.clocked && x.tear = .scrubbing && decide (200000 + x.scrubBytes * 995 / 1000000 ≤ took) then
    let s1 := ((((s.scrubFrames c.val).scrubKv c.val).scrubEngines c.val).scrubRegs c.val).scrubChip c.val
    let s2 := s1.setCtx c.val { Context.reset with gen := x.gen, shut := true, ide := x.ide }
    let s3 := ((s2.bump 0x710003).bumpBy 0x710004 x.scrubBytes).bumpBy 0x620004 x.scrubBytes
    let s4 := s3.raise stScrubDone (beData [(1, c.val), (2, x.gen.toNat), (8, x.scrubBytes), (8, took)])
    let peers := s4.portsUp.filter fun p => (s4.port p).peer != 0xFF
    .next (peers.foldl (fun s p => s.sendPayload p 0x0033 0 0 (s.port p).peer (beData [(1, c.val), (2, x.gen.toNat)])) s4)
  else .next s

/-- LATE_COMPLETION (R468). -/
def execLateCompletion (c : Ctx) (s : State) : Host.Outcome State Fault Refusal :=
  if s.board.powered && (s.ctx c.val).ide.retired && !s.resident c.val then .next (s.bump 0x710005) else .next s

end Sys2Proof.Machine
end

