-- ==== Sys2Proof/Machine/Trust.lean ====
section
/-! DEFINITION. IDE streams, TDISP and SPDM (11_host_link_contexts_and_trust.md R472 to R488). Replies leave the module on PF0's DOE as `Emission.doe`: IDE_KM at 0x200 + its object, TDISP at 0x100 + its message code, SPDM at its response code; the codes are those of the standards (PRESUMED). -/

namespace Sys2Proof.Machine

/-- PF0's DOE answers: the endpoint is reached and Lighthouse runs. -/
def State.doeOpen (s : State) : Bool := s.fnPresent 0 && decide (s.power.mode < 3) && (s.board.ready || decide (3 ≤ s.board.stage))

/-- A reply on the DOE. -/
def State.reply (s : State) (kind : Nat) (fields : List Nat) : State := s.emit (.doe kind fields)

/-- A request on the DOE. [PRESUMED, unsafe, log entry 31] -/
def State.doeRequest (s : State) (k : State → State) : Host.Outcome State Fault Refusal :=
  if s.doeOpen then .next (k s) else .next s

/-- An IDE_KM error response. -/
def State.ideError (s : State) (c : Nat) : State := s.reply 0x27F [c]

/-- No IDE key is accepted: an identity fault (R487), or the context is in teardown or scrub (Table 11-12). [DEDUCED, unsafe, log entry 32] -/
def State.ideShut (s : State) (c : Nat) : Bool :=
  s.trust.fault || (s.ctx c).mode == .teardown || (s.ctx c).mode == .scrub

/-- Change a context's stream. -/
def State.setIde (s : State) (c : Nat) (x : IdeStream) : State := s.setCtx c { s.ctx c with ide := x }

/-- The key of a stream's key store: set, direction, sub-stream. -/
def ideKey (set : Nat) (tx : Bool) (sub : Nat) : Nat := set * 8 + (if tx then 4 else 0) + sub

/-- KEY_PROG (R472, R473): a key of a set that is not in use by a Secure stream. [DEDUCED, unsafe, log entry 32] -/
def execKeyProg (c : Ctx) (set : Fin 2) (tx : Bool) (sub : Fin 3) (key : BitVec 256) (s : State) : Host.Outcome State Fault Refusal :=
  s.doeRequest fun s =>
    let x := (s.ctx c.val).ide
    if s.ideShut c.val || (x.secure && x.active == some set.val) then s.ideError c.val
    else (s.setIde c.val { x with keys := x.keys.put (ideKey set.val tx sub.val) key, retired := false }).reply 0x203 [c.val, set.val]

/-- Every sub-stream of a set has its keys in both directions (R472). [DEDUCED, unsafe, log entry 32] -/
def IdeStream.complete (x : IdeStream) (set : Nat) : Bool :=
  [true, false].all fun tx => [0, 1, 2].all fun sub => (x.keys.look (ideKey set tx sub)).isSome

/-- K_SET_GO (R473): the stream switches to the set and is Secure. -/
def execKSetGo (c : Ctx) (set : Fin 2) (s : State) : Host.Outcome State Fault Refusal :=
  s.doeRequest fun s =>
    let x := (s.ctx c.val).ide
    if s.ideShut c.val || !x.complete set.val then s.ideError c.val
    else (s.setIde c.val { x with active := some set.val, secure := true }).reply 0x206 [c.val, set.val]

/-- The TDI of a LOCKED context enters ERROR and its teardown starts (R457, R475, R478). -/
def State.tdiError (s : State) (c : Nat) : State :=
  if (s.ctx c).mode = .locked then (s.setCtx c { s.ctx c with tdi := .error }).tearDue c false false else s

/-- IDE_INTEGRITY_FAILURE (R475). -/
def execIdeIntegrityFailure (c : Ctx) (s : State) : Host.Outcome State Fault Refusal :=
  let x := (s.ctx c.val).ide
  if s.fnPresent c.val && x.active.isSome then
    .next (((s.setIde c.val { x with secure := false }).bump 0x710008).tdiError c.val)
  else .next s

/-- TLP_RECEIVE (R474): one to a LOCKED function that does not arrive on its stream in Secure state is dropped, or completed with UR. [DEDUCED, unsafe, log entry 33] -/
def execTlpReceive (fn : Fn) (posted : Bool) (onStream : Bool) (s : State) : Host.Outcome State Fault Refusal :=
  let x := s.ctx fn.val
  if s.fnPresent fn.val && x.mode = .locked && !(onStream && x.ide.secure) then
    let s1 := s.bump 0x710007
    .next (if posted then s1 else s1.emit (.unsupportedRequest fn.val))
  else .next s

/-- A TDISP error response (error code of the standard). -/
def State.tdispError (s : State) (fn code : Nat) : State := s.reply 0x17F [fn, code]

/-- A TDISP request to a function that is a TDI: VF1 to VF15 (Table 11-1). [PRESUMED, unsafe, log entry 31] -/
def State.tdisp (s : State) (fn : Nat) (k : State → State) : Host.Outcome State Fault Refusal :=
  s.doeRequest fun s => if fn = 0 ∨ s.fnPresent fn = false then s.tdispError fn 0x0101 else k s

/-- TDISP state as SEC_CTX_SELF codes it (Table 11-8). [PRESUMED, unsafe, log entry 31] -/
def tdiCode : TdiMode → Nat
  | .unlocked => 0
  | .locked => 1
  | .run => 2
  | .error => 3

/-- TDISP GET_VERSION (R476): TDISP 1.0. -/
def execTdispGetVersion (fn : Fn) (s : State) : Host.Outcome State Fault Refusal :=
  s.tdisp fn.val fun s => s.reply 0x101 [fn.val, 1, 0x10]

/-- TDISP GET_CAPABILITIES (R476): the seven requests supported. -/
def execTdispGetCapabilities (fn : Fn) (s : State) : Host.Outcome State Fault Refusal :=
  s.tdisp fn.val fun s => s.reply 0x102 [fn.val, 0x81, 0x82, 0x83, 0x84, 0x85, 0x86, 0x87]

/-- Every queue and ring of a function is disabled (R477). -/
def State.ringsOff (s : State) (c : Nat) : Bool :=
  ((List.range 8).all fun q => !(s.queue c q).enable) && ((List.range 4).all fun k => !(s.ring (c * 4 + k)).enable)

/-- LOCK_INTERFACE_REQUEST may be accepted (R477, R487). -/
def State.lockable (s : State) (c : Nat) : Bool :=
  let x := s.ctx c
  !s.trust.fault && x.mode = .active && x.tear = .none && s.framesUsed c x.gen == 0 && s.ringsOff c &&
    !(s.serving.models.any fun e => e.1 / 4 == c) && !(s.serving.streams.any fun e => e.1 / 256 == c) &&
    !(s.video.dec.any fun e => e.2.ctx == c) && !(s.video.enc.any fun e => e.2.ctx == c) && x.ide.secure

/-- LOCK_INTERFACE_REQUEST (R477): the context becomes LOCKED, its TDI CONFIG_LOCKED. -/
def execLockInterfaceRequest (fn : Fn) (s : State) : Host.Outcome State Fault Refusal :=
  s.tdisp fn.val fun s =>
    if s.lockable fn.val then (s.setCtx fn.val { s.ctx fn.val with mode := .locked, tdi := .locked }).reply 0x103 [fn.val]
    else s.tdispError fn.val 0x0004

/-- GET_DEVICE_INTERFACE_REPORT (R478): the sizes of W0, W2 and W4, the MSI-X table and PBA, no ATS and no peer-to-peer, and the context's generation, quota and weight. -/
def execGetDeviceInterfaceReport (fn : Fn) (s : State) : Host.Outcome State Fault Refusal :=
  s.tdisp fn.val fun s =>
    let x := s.ctx fn.val
    s.reply 0x104 [fn.val, 2 ^ 26, 2 ^ 20, 2 ^ 36, 0x3FF0000, 0x3FF8000, 0, 0, x.gen.toNat, x.quota.toNat, x.weight.toNat]

/-- GET_DEVICE_INTERFACE_STATE (R476). -/
def execGetDeviceInterfaceState (fn : Fn) (s : State) : Host.Outcome State Fault Refusal :=
  s.tdisp fn.val fun s => s.reply 0x105 [fn.val, tdiCode (s.ctx fn.val).tdi]

/-- START_INTERFACE_REQUEST (R477): CONFIG_LOCKED passes to RUN. -/
def execStartInterfaceRequest (fn : Fn) (s : State) : Host.Outcome State Fault Refusal :=
  s.tdisp fn.val fun s =>
    if (s.ctx fn.val).mode = .locked ∧ (s.ctx fn.val).tdi = .locked then (s.setCtx fn.val { s.ctx fn.val with tdi := .run }).reply 0x106 [fn.val]
    else s.tdispError fn.val 0x0004

/-- STOP_INTERFACE_REQUEST (R457): teardown of the TDI's context; one in teardown is not affected further (Table 11-12). -/
def execStopInterfaceRequest (fn : Fn) (s : State) : Host.Outcome State Fault Refusal :=
  s.tdisp fn.val fun s => (s.tearDue fn.val false false).reply 0x107 [fn.val]

/-- TDISP_UNSUPPORTED (R476): UNSUPPORTED_REQUEST. -/
def execTdispUnsupported (fn : Fn) (code : BitVec 8) (s : State) : Host.Outcome State Fault Refusal :=
  s.doeRequest fun s => s.reply 0x17F [fn.val, 0x0007, code.toNat]

/-- TDI_CONFIG_CHANGE (R478): a change to locked configuration puts the TDI in ERROR. -/
def execTdiConfigChange (fn : Fn) (s : State) : Host.Outcome State Fault Refusal :=
  if s.fnPresent fn.val then .next (s.tdiError fn.val) else .next s

/-- An SPDM ERROR response. [PRESUMED, unsafe, log entry 31] -/
def State.spdmError (s : State) (code : Nat) : State := s.reply 0x7F [code]

/-- A signed SPDM response (R480): the signature of the alias key is a free value of 512 bytes. [DEDUCED, safe, log entry 30] -/
def State.signed (s : State) (kind : Nat) (fields : List Nat) : State := s.draw.reply kind (fields ++ [s.pick 0 % 2 ^ 4096])

/-- SPDM NEGOTIATE_ALGORITHMS (R479): RSASSA-4096, SHA-512, ffdhe4096, AES-256-GCM, or a refusal. -/
def execSpdmNegotiateAlgorithms (matching : Bool) (s : State) : Host.Outcome State Fault Refusal :=
  s.doeRequest fun s =>
    if matching then { s with trust := { s.trust with negotiated := true } }.reply 0x63 [0x40, 0x04, 0x04, 0x02]
    else s.spdmError 0x01

/-- SPDM GET_CERTIFICATE (R480, R487): slot 0 holds the chain, slots 1 to 7 are empty. -/
def execSpdmGetCertificate (slot : Fin 8) (s : State) : Host.Outcome State Fault Refusal :=
  s.doeRequest fun s =>
    if s.trust.fault then s.spdmError 0x05
    else if slot.val ≠ 0 then s.spdmError 0x01
    else s.reply 0x02 (0 :: s.trust.chain.map (·.toNat))

/-- SPDM CHALLENGE (R479, R480, R487). -/
def execSpdmChallenge (slot : Fin 8) (s : State) : Host.Outcome State Fault Refusal :=
  s.doeRequest fun s =>
    if s.trust.fault then s.spdmError 0x05
    else if slot.val ≠ 0 then s.spdmError 0x01
    else s.signed 0x03 [0]

/-- Anti-rollback counters 0 to 15, 4 bytes each; counters 9 to 15 read as 0 (R486). -/
def State.rollbackBytes (s : State) : List Byte :=
  (List.range 16).flatMap fun i => leBytes 4 (if i < 9 then s.trust.counters.valAt 0 i else 0)

/-- A measurement block (Table 11-13). The spec does not give the layout of block 11: active slot, boot attempt count, IDENTITY_STATE, each 1 byte, then zeros. [DEDUCED, safe, log entry 30; PRESUMED, unsafe, log entry 31] -/
def State.measurement (s : State) (i : Nat) : List Byte :=
  if i ≤ 9 then s.trust.digests.valAt (List.replicate 64 0) i
  else if i = 10 then s.rollbackBytes
  else beData [(1, s.fw.active), (1, s.fw.attempts), (1, if s.trust.fault then 1 else 0)] ++ List.replicate 5 0

/-- SPDM GET_MEASUREMENTS (R481, R487): one block, or all with 0xFF. -/
def execSpdmGetMeasurements (index : BitVec 8) (s : State) : Host.Outcome State Fault Refusal :=
  s.doeRequest fun s =>
    let i := index.toNat
    if s.trust.fault then s.spdmError 0x05
    else if i = 0xFF then
      s.signed 0x60 (((List.range 11).flatMap fun k => BitVec.ofNat 8 (k + 1) :: s.measurement (k + 1)).map (·.toNat))
    else if 1 ≤ i ∧ i ≤ 11 then s.signed 0x60 (i :: (s.measurement i).map (·.toNat))
    else s.spdmError 0x01

/-- SPDM KEY_EXCHANGE (R479): at most 4 secured sessions. -/
def execSpdmKeyExchange (session : BitVec 16) (s : State) : Host.Outcome State Fault Refusal :=
  s.doeRequest fun s =>
    let n := session.toNat
    if !s.trust.negotiated then s.spdmError 0x04
    else if s.trust.sessions.contains n then s.spdmError 0x01
    else if 4 ≤ s.trust.sessions.length then s.spdmError 0x0A
    else { s with trust := { s.trust with sessions := s.trust.sessions ++ [n] } }.signed 0x64 [n]

/-- SPDM_SESSION_END (R528): with the last session Lighthouse's votes end. -/
def execSpdmSessionEnd (session : BitVec 16) (s : State) : Host.Outcome State Fault Refusal :=
  s.doeRequest fun s => { s with trust := { s.trust with sessions := s.trust.sessions.erase session.toNat } }.reply 0x6C [session.toNat]

end Sys2Proof.Machine
end

