-- ==== Sys2Proof/Machine/Observe.lean ====
section
/-! DEFINITION. Event counters as the host reaches them, snapshots, Slack, capture records and the wait-for graph (16_counters_global_stop_and_hangs.md R631 to R660); the 32-bit read of EVC_TIDE_NOW (02 R91). -/

namespace Sys2Proof.Machine

/-- Low and high half of a 64-bit value. -/
def lowHalf (v : BitVec 64) : Nat := (v.extractLsb' 0 32).toNat
def highHalf (v : BitVec 64) : BitVec 32 := v.extractLsb' 32 32

/-- EVC_TIDE_NOW_LO_READ (R91): bits [63:32] are latched for the function. -/
def execEvcTideNowLoRead (fn : Fn) (s : State) : Host.Outcome State Fault Refusal :=
  s.regRead fn.val 0x610000 4 (.evcTideNowLoRead fn) fun s =>
    { s with tide := { s.tide with latch := s.tide.latch.setAt 0 fn.val (highHalf s.tide.count) } }.emit
      (.readData fn.val 0x610000 4 (lowHalf s.tide.count))

/-- The key of a counter in `Observe.counters`. -/
def counterKey : CounterRef → Nat
  | .block id i => id.toNat * 4 + i.val
  | .region r j => 0x10000 + r.val * 16 + j.val
  | .chip k => 0x20000 + k.val

/-- Offsets of SEL, CNT and LAST of a counter (Table 16-1). -/
def selOffset : CounterRef → Nat
  | .block id i => 0x660000 + 0x10 * id.toNat + 4 * i.val
  | .region r j => 0x672000 + 0x40 * r.val + 4 * j.val
  | .chip k => 0x674800 + 4 * k.val
def cntOffset : CounterRef → Nat
  | .block id i => 0x620000 + 0x20 * id.toNat + 8 * i.val
  | .region r j => 0x670000 + 0x80 * r.val + 8 * j.val
  | .chip k => 0x674000 + 8 * k.val
def lastOffset : CounterRef → Nat
  | .block id i => 0x640000 + 0x20 * id.toNat + 8 * i.val
  | .region r j => 0x671000 + 0x80 * r.val + 8 * j.val
  | .chip k => 0x674400 + 8 * k.val

/-- A block source is valid at a block (Table 16-4). -/
def blockSource (id code : Nat) : Bool :=
  let ty := id / 32 % 8
  let own : List Nat := match ty with
    | 0 => [0x10, 0x11, 0x12, 0x13, 0x14, 0x15]
    | 1 => [0x20, 0x21]
    | 2 => [0x30, 0x31, 0x32, 0x33, 0x34]
    | 3 => [0x40, 0x41]
    | 4 => [0x48, 0x49]
    | 5 => [0x50, 0x51, 0x52, 0x53]
    | 6 => [0x60, 0x61, 0x62, 0x63, 0x64]
    | _ => []
  [0x01, 0x02, 0x03].contains code || (code == 0x04 && hasRing id) || own.contains code

/-- Block codes and region codes of Table 16-4. -/
def blockCodes : List Nat :=
  [0x01, 0x02, 0x03, 0x04, 0x10, 0x11, 0x12, 0x13, 0x14, 0x15, 0x20, 0x21, 0x30, 0x31, 0x32, 0x33, 0x34, 0x40, 0x41, 0x48, 0x49, 0x50,
    0x51, 0x52, 0x53, 0x60, 0x61, 0x62, 0x63, 0x64]
def regionCodes (r : Nat) : List Nat := [0x80, 0x81, 0x82] ++ (if r < 6 then [0x83, 0x84, 0x85] else [])

/-- SOURCE is one that Table 16-4 gives for this counter (R632, R634); 0 counts nothing. [DEDUCED, unsafe, log entry 53] -/
def sourceOk (c : CounterRef) (source : Nat) : Bool :=
  if source = 0 then true
  else match c with
    | .block id _ => blockSource id.toNat source
    | .region r _ => (regionCodes r.val).contains source || (256 ≤ source && blockCodes.contains (source - 256))
    | .chip _ => (0xC0 ≤ source && source ≤ 0xC8) || (256 ≤ source && (blockCodes ++ regionCodes 0).contains (source - 256))

/-- A function's snapshot bank. -/
def State.snap (s : State) (fn : Nat) : SnapBank := s.obs.snaps.valAt .reset fn

/-- Change a function's snapshot bank. -/
def State.setSnap (s : State) (fn : Nat) (x : SnapBank) : State := { s with obs := { s.obs with snaps := s.obs.snaps.setAt .reset fn x } }

/-- The counter exists: its ID names a block (R631). -/
def counterExists : CounterRef → Bool
  | .block id _ => isBlock id.toNat
  | _ => true

/-- EVC_SEL_WRITE (R632): from PF0 only; refused with CFG_ERR for a source that is not given there, and for MODE = 1 with CTX_ANY = 1. -/
def execEvcSelWrite (fn : Fn) (c : CounterRef) (value : BitVec 32) (s : State) : Host.Outcome State Fault Refusal :=
  s.regWrite fn.val (selOffset c) false (.evcSelWrite fn c value) fun s =>
    if fn.val ≠ 0 ∨ counterExists c = false then s
    else if sourceOk c (value.extractLsb' 0 9).toNat && !(value.getLsbD 28 && value.getLsbD 24) then
      { s with obs := { s.obs with counters := s.obs.counters.setAt .reset (counterKey c) { Counter.reset with sel := value &&& 0x91F001FF } } }
    else s.setSnap 0 { s.snap 0 with cfgErr := true }

/-- A function may see a counter's word (R639): PF0 where the filter names no context in its confidential period, and a function its own context's. -/
def State.counterSeen (s : State) (fn : Nat) (c : Counter) : Bool :=
  (fn == 0 && (c.anyCtx || !s.confidential c.ctx)) || (!c.anyCtx && c.ctx == fn)

/-- The word a function reads (R636, R639). -/
def State.counterWord (s : State) (fn key : Nat) (last : Bool) : BitVec 64 :=
  let c := s.obs.counters.valAt .reset key
  if s.counterSeen fn c then (if last then c.last else c.word false) else 0

/-- EVC_CNT_LO_READ (R637): bits [63:32] of the same word are latched for the function. -/
def execEvcCntLoRead (fn : Fn) (c : CounterRef) (last : Bool) (s : State) : Host.Outcome State Fault Refusal :=
  let off := if last then lastOffset c else cntOffset c
  s.regRead fn.val off 4 (.evcCntLoRead fn c last) fun s =>
    let s1 := s.observe
    let w := if counterExists c then s1.counterWord fn.val (counterKey c) last else 0
    { s1 with obs := { s1.obs with latch := s1.obs.latch.setAt 0 fn.val (highHalf w) } }.emit (.readData fn.val off 4 (lowHalf w))

/-- SCOPE and TARGET name counters (R638). [DEDUCED, unsafe, log entry 53] -/
def snapOk (scope target : Nat) : Bool :=
  match scope with
  | 0 => isBlock target
  | 1 => decide (target % 16 < 11)
  | 2 => true
  | _ => false

/-- A write of EVC_SNAP_CTRL (Table 16-5): SCOPE and TARGET are stored, CFG_ERR is W1C, GO starts a snapshot or sets CFG_ERR. -/
def SnapBank.control (x : SnapBank) (v : Nat) : SnapBank :=
  let scope := bitsOf v 13 12
  let target := bitsOf v 11 0
  let x1 := { x with scope := scope, target := target, cfgErr := x.cfgErr && !bitOf v 14 }
  if bitOf v 15 then
    if x.going.isSome || !snapOk scope target then { x1 with cfgErr := true } else { x1 with going := some (scope, target) }
  else x1

/-- EVC_SNAP_GO (R638). -/
def execEvcSnapGo (fn : Fn) (value : BitVec 32) (s : State) : Host.Outcome State Fault Refusal :=
  s.regWrite fn.val 0x675000 false (.evcSnapGo fn value) fun s => s.setSnap fn.val ((s.snap fn.val).control (value ||| 0x8000).toNat)

/-- The counters of a scope in the order of R638. -/
def snapKeys (scope target : Nat) : List Nat :=
  let block (id : Nat) : List Nat := (List.range 4).map fun i => id * 4 + i
  match scope with
  | 0 => block target
  | 1 => ((List.range 16).map fun j => 0x10000 + target % 16 * 16 + j) ++ (regionBlocks (target % 16)).flatMap block
  | _ => (List.range 64).map fun k => 0x20000 + k

/-- EVC_SNAP_DONE (R638): every counter of the scope at one instant; SEQ counts up. [DEDUCED, unsafe, log entry 53] -/
def execEvcSnapDone (dt : Nat) (fn : Fn) (s0 : State) : Host.Outcome State Fault Refusal :=
  let s := s0.elapse dt
  let x := s.snap fn.val
  match if s.board.powered && s.board.ready then x.going else none with
  | none => .next s
  | some (scope, target) =>
    let s1 := s.observe
    let words := (snapKeys scope target).map fun k => s1.counterWord fn.val k false
    .next (s1.setSnap fn.val { x with going := none, seq := x.seq + 1, tide := s1.tide.count, data := words.take 256 })

/-- Change the Slack registers. -/
def State.setSlack (s : State) (k : Slack) : State := { s with obs := { s.obs with slack := k } }

/-- A Slack command of the HOST is carried out: TRIGGER only in RUNNING (R641, R650). -/
def State.slackTriggerOp (s : State) : State × Status :=
  if s.slackRuns then (s.slackStop 0, stOk) else (s, stSlackState)

/-- SCAN only in CAPTURED (R650). -/
def State.slackScanOp (s : State) : State × Status :=
  if s.obs.slack.mode = .captured then (s.setSlack { s.obs.slack with mode := .scanning }, stOk) else (s, stSlackState)

/-- RESUME only in CAPTURED (R650): the held units are released as they stand; scrubs last as long again as the stop lasted (Table 16-18); a fault that waits is handled. [DEDUCED, safe, log entry 52] -/
def State.slackResumeOp (s : State) : State × Status :=
  let k := s.obs.slack
  if k.mode = .captured then
    let s1 := (s.setSlack { k with mode := .running, faultPending := none, repeats := [], flits := [] }).pumpAll
    let late (x : Context) : Context := if x.tear = .scrubbing then { x with tearAt := x.tearAt + (s.now - k.stopAt) } else x
    let s2 := { s1 with ctxs := s1.ctxs.mapVals fun _ x => late x }
    (match k.faultPending with | some c => s2.handleFault c | none => s2, stOk)
  else (s, stSlackState)

/-- A Slack command from PF0's EVC_SLACK_CTRL, which keeps its status in CMD_STATUS (Table 16-10), or from the dictionary (R664). -/
def State.slackCommand (s : State) (who : SlackWriter) (cmd : Instr) (op : State → State × Status) : Host.Outcome State Fault Refusal :=
  match who with
  | .register fn => s.regWrite fn.val 0x680000 true cmd fun s =>
      if fn.val ≠ 0 then s
      else
        let r := op s
        r.1.setSlack { r.1.obs.slack with status := r.2 }
  | .dictionary => if s.woOpen then .next (op s).1 else .next s

/-- SLACK_TRIGGER (R641, R650). -/
def execSlackTrigger (who : SlackWriter) (s : State) : Host.Outcome State Fault Refusal :=
  s.slackCommand who (.slackTrigger who) State.slackTriggerOp

/-- SLACK_RESUME (R650). -/
def execSlackResume (who : SlackWriter) (s : State) : Host.Outcome State Fault Refusal :=
  s.slackCommand who (.slackResume who) State.slackResumeOp

/-- SLACK_SCAN (R650). -/
def execSlackScan (who : SlackWriter) (s : State) : Host.Outcome State Fault Refusal :=
  s.slackCommand who (.slackScan who) State.slackScanOp

/-- SLACK_TIDE_AT (R641, Table 16-6): Tide has reached EVC_SLACK_AT with source 2 armed; or a counter of Tide has reached THRESHOLD meanwhile. [DEDUCED, unsafe, log entry 53] -/
def execSlackTideAt (dt : Nat) (s0 : State) : Host.Outcome State Fault Refusal :=
  let s := s0.elapse dt
  if !s.board.powered || !s.board.ready then .next s
  else
    let s1 := if s.matchReached s0.obs.counters then s.slackStop 1 else s
    .next (if s1.obs.slack.atTide.toNat ≤ s1.tideNat then s1.slackStop 2 else s1)

/-- STOP (R646, R647): a RUNNING tray with PEER armed stops; an answer with the same TRIGGER_ID ends the repeats on the port. [DEDUCED, safe, log entry 52] -/
def execStop (port : FabPort) (body : StopBody) (s : State) : Host.Outcome State Fault Refusal :=
  let k := s.obs.slack
  if !s.board.powered || !s.board.ready || !((s.port port.val).mode = .up) then .next s
  else if s.slackRuns then
    if s.slackArmed 4 then .next (s.slackHold 5 (min 255 (body.hops.toNat + 1)) port.val (some (body.triggerId, body.originTide))) else .next s
  else if body.triggerId = k.triggerId then .next (s.setSlack { k with repeats := k.repeats.del port.val })
  else .next s

/-- STOP_REPEAT (R646): every 200 ns, until 100 µs after the stop. -/
def execStopRepeat (dt : Nat) (port : FabPort) (s0 : State) : Host.Outcome State Fault Refusal :=
  let s := s0.elapse dt
  let k := s.obs.slack
  match k.repeats.look port.val with
  | none => .next s
  | some t =>
    if k.stopAt + 100000 ≤ s.now then .next (s.setSlack { k with repeats := k.repeats.del port.val })
    else if t + 200 ≤ s.now && s.portsUp.contains port.val then
      .next ((s.setSlack { k with repeats := k.repeats.put port.val s.now }).sendStop port.val)
    else .next s

/-- The header of a capture record (Table 16-11). -/
def capHeader (type block bytes tide : Nat) (pre : Bool) (ctx : Option Nat) (gen : Nat) (hidden : Bool) : List Byte :=
  leBytes 16 (tide % 2 ^ 64 * 2 ^ 64 + bytes % 2 ^ 16 * 2 ^ 48 + block % 2 ^ 12 * 2 ^ 36 + ctx.getD 0 % 16 * 2 ^ 32 +
    (if ctx.isSome then gen % 2 ^ 16 else 0) * 2 ^ 16 + (if hidden then 2 ^ 15 else 0) + (if ctx.isSome then 2 ^ 14 else 0) +
    (if pre then 2 ^ 13 else 0) + type % 256)

/-- A record of the stop: its Tide is that of the stop (Table 16-11), marked as the stop's was (R72); zero where it is suppressed, padded to a multiple of 64 bytes (R652, R654). -/
def State.capRecord (s : State) (type block : Nat) (ctx : Option Nat) (hidden : Bool) (body : List Byte) : List Byte :=
  let gen := match ctx with | some c => (s.ctx c).gen.toNat | none => 0
  let n := roundUp (16 + body.length) 64
  let b := if hidden then List.replicate body.length 0 else body
  capHeader type block n s.obs.slack.tide.toNat s.obs.slack.preStep ctx gen hidden ++ b ++ List.replicate (n - 16 - body.length) 0

/-- STATE of Table 2-7. -/
def tideCode : TideMode → Nat
  | .free => 0
  | .acquiring => 1
  | .locked => 2
  | .holdover => 3

/-- The TRAY record (Table 16-12). -/
def State.trayRecord (s : State) : List Byte :=
  let k := s.obs.slack
  s.capRecord 1 0xFFF none false
    (leBytes 4 k.triggerId.toNat ++ leBytes 1 k.source ++ leBytes 1 k.hops ++ leBytes 1 (k.triggerId.toNat / 2 ^ 24) ++ leBytes 1 s.pair.place ++
      leBytes 8 k.originTide.toNat ++ leBytes 1 (tideCode s.tide.mode) ++ leBytes 1 k.port ++ [0, 0] ++
      leBytes 4 (min 0xFFFFFFFF (ceilDiv s.tide.errFine errUnit)))

/-- The OP_TAG of operator `i` of the job that holds a block's region (R196); 0 for a block that no job holds. -/
def State.opTagAt (s : State) (block i : Nat) : Nat :=
  match (s.regions.valAt .reset (block / 256)).holder with
  | .job id =>
    match (s.jobs.look id).bind fun j => s.progs.look j.prog with
    | some p => ((p.operators[i]?).map fun r => bitsOf r.toNat 31 0).getD 0
    | none => 0
  | _ => 0

/-- TYPE of a record of a held unit (Table 16-12). -/
def heldType : HeldBody → Nat
  | .blockState .. => 2
  | .channel .. => 3
  | .scan _ => 6

/-- The body of such a record (Table 16-12). -/
def State.heldBody (s : State) (block : Nat) : HeldBody → List Byte
  | .blockState st err i =>
    leBytes 1 st ++ leBytes 1 (if err then 1 else 0) ++ [0, 0] ++ leBytes 4 (if block / 256 < 6 then s.opTagAt block i.toNat else 0) ++ leBytes 4 i.toNat ++
      List.replicate 36 0
  | .channel a b kind hop order l =>
    leBytes 2 a.toNat ++ leBytes 2 b.toNat ++ leBytes 1 kind ++ leBytes 1 hop ++ leBytes 2 l.length ++ leBytes 4 order.toNat ++ List.replicate 36 0 ++ l
  | .scan bits => bits

/-- A record that the capture path reads out of a held unit; of a context in its confidential period it is suppressed (R654). -/
def State.heldRecord (s : State) (h : HeldUnit) : List Byte :=
  let hidden := match h.ctx with | some c => s.confidential c.val | none => false
  s.capRecord (heldType h.body) h.block.toNat (h.ctx.map (·.val)) hidden (s.heldBody h.block.toNat h.body)

/-- The STRANDLINE record of a block: 64 records, oldest first (Table 16-12). -/
def State.ringRecord (s : State) (id : Nat) : List Byte :=
  let l := (s.ring? id).reverse
  s.capRecord 4 id none false ((l ++ List.replicate (64 - l.length) 0).flatMap fun (r : BitVec 128) => leBytes 16 r.toNat) |>.take 1088

/-- A COUNTERS record; counts of a context in its confidential period read as 0 (R489). [DEDUCED, unsafe, log entry 53] -/
def State.countersRecord (s : State) (block : Nat) (keys : List Nat) : List Byte :=
  let word (k : Nat) : BitVec 64 :=
    let c := s.obs.counters.valAt .reset k
    if c.anyCtx || !s.confidential c.ctx then c.word false else 0
  s.capRecord 5 block none false (keys.flatMap fun k => leBytes 8 (word k).toNat)

/-- The END record: capture bytes, END included. -/
def State.endRecord (s : State) (before : Nat) : List Byte := s.capRecord 8 0xFFF none false (leBytes 8 (before + 64))

/-- The END record of the wait-for graph, with the Tide of its round. -/
def State.graphEnd (s : State) (before : Nat) : List Byte :=
  capHeader 8 0xFFF 64 s.tideNat (!s.tide.stepped) none 0 false ++ leBytes 8 (before + 64) ++ List.replicate 40 0

/-- The CHANNEL records of the fabric MSG flits received since the stop (R643, KIND 2), in their order on each port; which block a flit was on its way to is free. [DEDUCED, unsafe, log entry 53] -/
def State.flitRecords (s : State) : List Byte :=
  s.obs.slack.flits.zipIdx.flatMap fun x =>
    let p := x.1.1
    let order := ((s.obs.slack.flits.take x.2).filter fun y => y.1 == p).length
    s.capRecord 3 (fabricPortId p) x.1.2.1 (match x.1.2.1 with | some c => s.confidential c | none => false)
      (leBytes 2 (fabricPortId p) ++ leBytes 2 (allBlocks.getD (s.pick x.2 % allBlocks.length) 0) ++ leBytes 1 2 ++ leBytes 1 p ++
        leBytes 2 x.1.2.2.length ++ leBytes 4 order ++ List.replicate 36 0 ++ x.1.2.2)

/-- A record of a held unit is a CHANNEL record of a fabric MSG flit: those come from the ports themselves. -/
def heldFlit (h : HeldUnit) : Bool := match h.body with | .channel _ _ kind _ _ _ => kind == 2 | _ => false

/-- The records of R649 in order. BLOCK_STATE and the other CHANNEL records come from the held units. -/
def State.captureBytes (s : State) (held : List HeldUnit) : List Byte :=
  let units := held.filter fun h => isBlock h.block.toNat
  let body := s.trayRecord ++ ((units.filter fun h => heldType h.body == 2) ++ (units.filter fun h => heldType h.body == 3 && !heldFlit h)).flatMap s.heldRecord ++
    s.flitRecords ++ (allBlocks.filter hasRing).flatMap s.ringRecord ++ allBlocks.flatMap (fun id => s.countersRecord id (snapKeys 0 id)) ++
    (List.range 11).flatMap (fun r => s.countersRecord (r * 256 + 0xFF) ((List.range 16).map fun j => 0x10000 + r * 16 + j)) ++
    s.countersRecord 0xFFF (snapKeys 2 0)
  body ++ s.endRecord body.length

/-- Offset of the wait-for graph in the capture buffers (R651). -/
def graphBase : Nat := 252 * 2 ^ 20

/-- Write capture bytes at an offset; what lies beyond the part's end is not written. -/
def State.writeCapture (s : State) (off limit : Nat) (bs : List Byte) : State :=
  { s with obs := { s.obs with capture := s.obs.capture.writeN off (bs.take (limit - off)) } }

/-- SLACK_CAPTURE_DONE (R649): CAPTURING passes to CAPTURED. -/
def execSlackCaptureDone (dt : Nat) (held : List HeldUnit) (s0 : State) : Host.Outcome State Fault Refusal :=
  let s := s0.elapse dt
  let k := s.obs.slack
  if s.board.powered && k.mode = .capturing then
    let s1 := { s.draw with obs := { s.obs with capture := s.obs.capture.zeroRange 0 graphBase } }
    let s2 := (s1.writeCapture 0 graphBase (s.captureBytes held)).setSlack { k with mode := .captured }
    .next (s2.raise stSlackStopped (beData [(4, k.triggerId.toNat), (1, k.source), (1, k.hops), (8, k.tide.toNat)]))
  else .next s

/-- Length of the capture: it ends behind the last record that is not all zero, its END. -/
def Observe.captureLength (o : Observe) : Nat :=
  (o.capture.keys.filter fun a => decide (a < graphBase)).foldl (fun m a => max m ((a / 64 + 1) * 64)) 0

/-- A SCAN record is suppressed whole, or not yielded at all (R654). -/
def State.scanHidden (s : State) (h : HeldUnit) : Bool :=
  let r := h.block.toNat / 256
  (match h.ctx with | some c => s.confidential c.val | none => false) || (s.anyConfidential && (r == 6 || r == 7 || r == 9))

/-- SCAN_DONE (R650): SCAN records and a new END follow the capture; SCANNING passes to SCANNED. -/
def execScanDone (dt : Nat) (scan : List HeldUnit) (s0 : State) : Host.Outcome State Fault Refusal :=
  let s := s0.elapse dt
  let k := s.obs.slack
  if s.board.powered && k.mode = .scanning then
    let units := scan.filter fun h => heldType h.body == 6 && isBlock h.block.toNat && h.block.toNat != unitId 8 2
    let body := units.flatMap fun h => s.capRecord 6 h.block.toNat (h.ctx.map (·.val)) (s.scanHidden h) (s.heldBody h.block.toNat h.body)
    let n := s.obs.captureLength
    let s1 := (s.writeCapture n graphBase (body ++ s.endRecord (n + body.length))).setSlack { k with mode := .scanned }
    .next (s1.raise stScanDone (beData [(4, body.length)]))
  else .next s

/-- An edge whose holder lies outside the module's power to move (Table 16-16). -/
def edgeExternal (e : WfgEdge) : Bool := [0x01, 0x02, 0x09, 0x0A, 0x0C].contains e.reason

/-- Nodes of an edge by their true identifiers. -/
def wfgNode (kind ctx id : Nat) : Nat × Nat := (kind, ctx * 2 ^ 40 + id)
def edgeWaiter (e : WfgEdge) : Nat × Nat := wfgNode e.waiterKind e.waiterCtx e.waiterId
def edgeHolder (e : WfgEdge) : Nat × Nat := wfgNode e.holderKind e.holderCtx e.holderId

/-- A node of the graph (Table 16-16): kind, context (0xFF for none), identifier. -/
abbrev WfgNode := Nat × Nat × Nat

/-- An edge from a waiter to a holder; SINCE is filled in where it is reported. -/
def edgeOf (source reason : Nat) (waiter holder : WfgNode) : WfgEdge :=
  ⟨0, waiter.1, holder.1, waiter.2.1, holder.2.1, waiter.2.2, holder.2.2, reason, source⟩

/-- Nodes of Table 16-16. A PAGE_CMD's source is its queue, 0xFF for the registers, and its number the low bits of its TAG. [DEDUCED, unsafe, log entry 54] -/
def requestNode (c i : Nat) : WfgNode := (1, c, i)
def stepNode (c : Nat) (x : ServingStep) : WfgNode := (3, c, x.seq % 2 ^ 32)
def walkNode (c table epoch : Nat) : WfgNode := (4, c, table * 65536 + epoch % 65536)
def editNode (c table opcode : Nat) : WfgNode := (5, c, table * 65536 + opcode)
def wfgLink (p vc : Nat) : WfgNode := (7, 0xFF, p * 256 + vc)
def regionNode (r : Nat) : WfgNode := (9, 0xFF, r)
def peerNode (place : Nat) : WfgNode := (13, 0xFF, place)
def framesNode (zone : Option Nat) : WfgNode := (12, 0xFF, match zone with | some k => k + 1 | none => 0)
def State.jobNode (s : State) (j : Job) : WfgNode :=
  (2, j.ctx, j.q * 65536 + (((s.queue j.ctx j.q).entries.find? fun e => e.id == j.entry).map (·.idx)).getD 0)
/-- The node of a page command (Table 16-13): its source and its tag. [DEDUCED, unsafe, log entry 54] -/
def pageNode (c : PmCmd) : WfgNode :=
  (6, PageSrcFn c.src, (match c.src with | .regs _ => 0xFF | .ring _ q => q) * 2 ^ 24 + recTag c.record % 2 ^ 24)

/-- What the serving scheduler reports (R657): requests on their customers, streams, frames and steps, jobs on regions, regions on what holds them, and stream records that wait for MIRROR_ACK. [DEDUCED, unsafe, log entry 54] -/
def State.servingEdges (s : State) : List WfgEdge :=
  let request (e : Nat × Request) : List WfgEdge :=
    let n := requestNode e.2.ctx e.1
    let w := s.waitOf e.1 e.2
    (if w = stBudgetWait then [edgeOf 0 0x01 n (10, e.2.ctx, reqCustomer e.2.desc)]
     else if w = stStreamFull then [edgeOf 0 0x02 n (11, e.2.ctx, reqStream e.2.desc)]
     else if w = stNoMemory then [edgeOf 0 0x03 n (framesNode none)] else []) ++
      (match s.serving.steps.look e.2.ctx with
        | some x =>
          (if x.members.any fun m => m.req == e.1 then [edgeOf 0 0x08 n (stepNode e.2.ctx x)] else []) ++
            (if s.mirrors e.2.ctx && !s.mirrorCovers e.1 then [edgeOf 0 0x0C (stepNode e.2.ctx x) (peerNode (s.pairSetting 0x500005))] else [])
        | none => [])
  let held := (List.range 6).filter fun r => (s.regions.valAt .reset r).holder != .free
  let job (e : Nat × Job) : List WfgEdge :=
    if !e.2.placed && s.freeRegions.isEmpty then held.map fun r => edgeOf 0 0x06 (s.jobNode e.2) (regionNode r) else []
  let region (r : Nat) : List WfgEdge :=
    match (s.regions.valAt .reset r).holder with
    | .job id => ((s.jobs.look id).map fun j => edgeOf 0 0x07 (regionNode r) (s.jobNode j)).toList
    | .serving c => match s.serving.steps.look c with
      | some x => if x.regions.contains r then [edgeOf 0 0x07 (regionNode r) (stepNode c x)] else []
      | none => []
    | _ => []
  s.serving.requests.flatMap request ++ s.jobs.flatMap job ++ held.flatMap region

/-- What the page manager reports (R657): pending edits on the walks that hold their epoch or an earlier one, walks that would begin on the pending edits of their table, and waiting RELEASE commands on their frames. [DEDUCED, unsafe, log entry 54] -/
def State.pageEdges (s : State) : List WfgEdge :=
  let owner (id : Nat) : Nat := ((s.kv.tables.look id).map (·.ctx)).getD 0xFF
  let edit (p : KvPending) : List WfgEdge :=
    ((s.kv.walks.vals.filter fun w => w.table == p.table && decide (w.epoch.toNat ≤ p.epoch.toNat)).map fun w =>
      edgeOf 1 0x04 (editNode (owner p.table) p.table p.edit.opcode) (walkNode (owner p.table) p.table w.epoch.toNat)) ++
    ((s.serving.requests.filter fun e => e.2.table == p.table && !e.2.inFlight && (e.2.state = .prefill || e.2.state = .decode)).map fun e =>
      edgeOf 1 0x05 (walkNode e.2.ctx p.table (((s.kv.tables.look p.table).map (·.epoch.toNat)).getD 0)) (editNode e.2.ctx p.table p.edit.opcode))
  let release (c : PmCmd) : WfgEdge :=
    let dpa := ((s.pageAt (PageSrcFn c.src) (recGran c.record) (recSize c.record)).map fun m => m.frame * granule).getD 0
    edgeOf 1 0x03 (pageNode c) (framesNode (if isLocal s.pm.localGib dpa then some (stackOf s.pm.localGib dpa) else none))
  s.kv.pending.flatMap edit ++ s.pm.waits.map release

/-- What the fabric arbiters report (R657): the virtual channels of a port that wait for credit, and the port while flits are unacknowledged. [DEDUCED, unsafe, log entry 54] -/
def State.linkEdges (s : State) : List WfgEdge :=
  (List.range 16).flatMap fun p =>
    let x := (s.port p).begun
    let sends (bulk : Bool) : Bool :=
      (x.waiting.any fun m => isBulk m.type == bulk) || x.unacked.any fun e => isBulk e.2.2.type == bulk && decide (e.2.1 < e.2.2.flits)
    if x.mode = .up then
      (if sends false && x.credit0 == 0 then [edgeOf 2 0x09 (wfgLink p 0) (peerNode x.peer)] else []) ++
        (if sends true && x.credit1 == 0 then [edgeOf 2 0x09 (wfgLink p 1) (peerNode x.peer)] else []) ++
        (match x.unacked.head? with
          | some e => if 0 < x.outstanding then [edgeOf 2 0x0A (wfgLink p (if isBulk e.2.2.type then 1 else 0)) (peerNode x.peer)] else []
          | none => [])
    else []

/-- What Lighthouse reports (R657): its requests that wait while it serves another. An update command is served before a message of channel 4, and that before one of channel 5. [DEDUCED, unsafe, log entry 54] -/
def State.lighthouseEdges (s : State) : List WfgEdge :=
  let waiting := (if (s.path 3 0).busy then [3] else []) ++ (if (s.mbx.valAt .reset 4).outFull then [1] else []) ++
    (if (s.mbx.valAt .reset 5).outFull then [2] else [])
  match waiting with
  | h :: rest => rest.map fun w => edgeOf 3 0x0B (8, 0xFF, w) (8, 0xFF, h)
  | [] => []

/-- The edges that the four sources report now, each with the Tide at which its wait began (R657, Table 16-15): not later than now. [DEDUCED, unsafe, log entry 54] -/
def State.waitEdges (s : State) (sinces : List Nat) : List WfgEdge :=
  let l := s.servingEdges ++ s.pageEdges ++ s.linkEdges ++ s.lighthouseEdges
  l.zipIdx.map fun e => { e.1 with since := min s.tideNat ((sinces[e.2]?).getD s.tideNat) }

/-- The same waiter, holder, reason and SINCE (R658). -/
def edgeSame (a b : WfgEdge) : Bool := (edgeWaiter a) == (edgeWaiter b) && (edgeHolder a) == (edgeHolder b) && a.reason == b.reason && a.since == b.since

/-- Nodes reached from some nodes along edges, in at most `fuel` rounds. -/
def wfgReach (l : List WfgEdge) : Nat → List (Nat × Nat) → List (Nat × Nat)
  | 0, seen => seen
  | fuel + 1, seen =>
    let more := (l.filter fun e => seen.contains (edgeWaiter e) && !seen.contains (edgeHolder e)).map edgeHolder
    if more.isEmpty then seen else wfgReach l fuel (seen ++ more.eraseDups)

/-- The edge lies on a cycle: its holder reaches its waiter. -/
def onCycle (l : List WfgEdge) (e : WfgEdge) : Bool := (wfgReach l l.length [(edgeHolder e)]).contains (edgeWaiter e)

/-- The nodes of the cycle that an edge lies on: those that reach and are reached. -/
def cycleNodes (l : List WfgEdge) (e : WfgEdge) : List (Nat × Nat) :=
  (wfgReach l l.length [(edgeWaiter e)]).filter fun n => (wfgReach l l.length [n]).contains (edgeWaiter e)

/-- A WFG_EDGE record (Table 16-15); of a context in its confidential period the IDs and GEN read as zero (R660). -/
def State.edgeRecord (s : State) (persistent inCycle : WfgEdge → Bool) (e : WfgEdge) : List Byte :=
  let hides (c : Nat) : Bool := c < 16 && s.confidential c
  let gen (c : Nat) : Nat := if c < 16 then (s.ctx c).gen.toNat else 0
  let hidden := hides e.waiterCtx || hides e.holderCtx
  let z (v : Nat) : Nat := if hidden then 0 else v
  let flags := (if edgeExternal e then 1 else 0) + (if persistent e then 2 else 0) + (if inCycle e then 4 else 0)
  let body := leBytes 8 e.since ++ leBytes 1 e.waiterKind ++ leBytes 1 e.holderKind ++ leBytes 1 e.waiterCtx ++ leBytes 1 e.holderCtx ++
    leBytes 2 (z (gen e.waiterCtx)) ++ leBytes 2 (z (gen e.holderCtx)) ++ leBytes 4 (z e.waiterId) ++ leBytes 4 (z e.holderId) ++
    leBytes 1 e.reason ++ leBytes 1 e.source ++ leBytes 1 flags
  let ctx := if e.waiterCtx < 16 then some e.waiterCtx else none
  capHeader 7 0xFFF 64 s.tideNat (!s.tide.stepped) ctx (z (gen e.waiterCtx)) hidden ++ body ++ List.replicate (48 - body.length) 0

/-- HANG_CYCLE once for each distinct set of nodes; it triggers the HANG source (R659). [DEDUCED, unsafe, log entry 54] -/
def State.reportCycle (s : State) (l : List WfgEdge) (e : WfgEdge) : State :=
  let nodes := sortBy (fun a b => decide (a.1 < b.1) || (a.1 == b.1 && decide (a.2 < b.2))) (cycleNodes l e)
  if s.obs.cycles.contains nodes then s
  else
    let oldest := ((l.filter fun x => nodes.contains (edgeWaiter x) && nodes.contains (edgeHolder x)).map (·.since)).foldl min e.since
    let s1 := { s with obs := { s.obs with cycles := s.obs.cycles ++ [nodes] } }.bump 0x670006
    (s1.raise stHangCycle (beData [(1, nodes.length), (8, oldest)])).slackStop 6

/-- HANG_SUSPECT once for an edge (R659). [DEDUCED, unsafe, log entry 54] -/
def State.reportSuspect (s : State) (e : WfgEdge) : State :=
  let age := (s.tideNat - e.since) / 1000000
  if age < s.dictVal 0x670002 || s.obs.suspects.any (edgeSame e) then s
  else
    let s1 := { s with obs := { s.obs with suspects := s.obs.suspects ++ [e] } }.bump 0x670007
    s1.raise stHangSuspect (beData [(1, e.waiterKind), (1, e.reason), (4, age)])

/-- One round of the wait-for graph (R658 to R660). [DEDUCED, unsafe, log entry 54] -/
def State.wfgRound (s : State) (edges : List WfgEdge) : State :=
  let sorted := sortBy (fun a b => decide (a.source < b.source) || (a.source == b.source && decide (a.since < b.since))) edges
  let l := sorted.take 65535
  let persistent (e : WfgEdge) : Bool := !s.slackRuns || s.obs.round.any (edgeSame e)
  let hard := l.filter fun e => !(edgeExternal e) && persistent e
  let inCycle (e : WfgEdge) : Bool := !(edgeExternal e) && persistent e && onCycle hard e
  let body := l.flatMap (s.edgeRecord persistent inCycle)
  let s1 := { s with obs := { s.obs with capture := s.obs.capture.zeroRange graphBase (graphBase + 2 ^ 22), round := l, wfgAt := s.now } }
  let s2 := s1.writeCapture graphBase (graphBase + 2 ^ 22) (body ++ s.graphEnd body.length)
  let s3 := (s2.setDict 0x670004 l.length).bumpBy 0x670005 (sorted.length - l.length)
  hard.foldl State.reportSuspect ((hard.filter inCycle).foldl (fun s e => s.reportCycle hard e) s3)

/-- WFG_BUILD (R658, R660): on demand (0x6700.03) in every state of Slack, or every WFG_PERIOD_MS while the tray runs. -/
def execWfgBuild (dt : Nat) (byTimer : Bool) (sinces : List Nat) (s0 : State) : Host.Outcome State Fault Refusal :=
  let s := s0.elapse dt
  let period := s.dictVal 0x670001
  let due := s.slackRuns && period != 0 && decide (s.obs.wfgAt + period * 1000000 ≤ s.now)
  if s.board.ready && s.mgmtUp && (if byTimer then due else s.obs.wfgAsked) then
    let s1 := s.wfgRound (s.waitEdges sinces)
    .next (if byTimer then s1 else { s1 with obs := { s1.obs with wfgAsked := false } })
  else .next s

end Sys2Proof.Machine
end

