-- ==== Sys2Proof/Machine/Power.lean ====
section
/-! DEFINITION. Power states: votes that are written, entry, retention, wake and what a wake leaves (13_power_states_and_wake.md R522 to R547). What an exit restores stands in SleepExit.lean, the exit itself in PowerExit.lean. -/

namespace Sys2Proof.Machine

/-- Domains that are UP in a state (Table 13-2). -/
def upDomains : Nat → Nat
  | 0 | 1 => 0x1FF
  | 2 => 0x1F0
  | _ => 0

/-- The lowest domain of a vote that is not UP in a state. -/
def firstDown (mode v : Nat) : Option Nat := (List.range 9).find? fun d => bitOf v d && !bitOf (upDomains mode) d

/-- The state that the module is in or is entering. -/
def State.settlesIn (s : State) : Nat := match s.power.entering with | some (t, _) => t | none => s.power.mode

/-- The first holder whose vote the state does not permit, and the domain (Table 13-7 source 0x02). -/
def State.voteAgainst (s : State) : Option (Nat × Nat) :=
  ((List.range 44).filterMap fun h => (firstDown s.settlesIn (s.voteOf h)).map fun d => (h, d)).head?

/-- Cast a holder's vote (R526): a vote restarts the delay of R531, and one that the state does not permit wakes the module. [DEDUCED, unsafe, log entry 55] -/
def State.castVote (s : State) (holder value : Nat) : State :=
  let v : BitVec 9 := BitVec.ofNat 9 value
  let fresh := Nat.land v.toNat (511 - (s.power.votes.valAt 0 holder).toNat)
  let s1 := { s with power := { s.power with
    votes := s.power.votes.setAt 0 holder v, deeperSince := if fresh = 0 then s.power.deeperSince else none } }
  match if s.asleep then firstDown s.settlesIn fresh else none with
  | some d => s1.wakeBy 0x02 holder d 0
  | none => s1

/-- PWR_VOTE_WRITE (R526, Table 13-8): PWR_VOTE of a function, or SESSION_VOTE of a session that is open. -/
def execPwrVoteWrite (who : VoteWriter) (value : BitVec 32) (s : State) : Host.Outcome State Fault Refusal :=
  match who with
  | .host fn => s.regWrite fn.val 0x500000 false (.pwrVoteWrite who value) fun s => s.castVote fn.val (value.toNat % 512)
  | .session n =>
    if s.board.ready && s.mgmtUp && decide (value.toNat < 512) && (s.net.sessions.look n.val).any (fun x => !x.opening) then
      .next (s.castVote (32 + n.val) value.toNat)
    else .next s

/-- No region is held by a job or step and no codec core works (Table 13-4). -/
def State.workOver (s : State) : Bool :=
  ((List.range 6).all fun r => (s.regions.valAt .reset r).holder = .free) &&
    (s.video.dec.all fun e => e.2.core.isNone) && s.video.enc.all fun e => e.2.core.isNone

/-- RUN_TO_IDLE (R532). -/
def execRunToIdle (dt : Nat) (s0 : State) : Host.Outcome State Fault Refusal :=
  let s := s0.elapse dt
  if s.board.powered && s.power.mode == 0 && s.workOver then .next { s with power := { s.power with mode := 1 } } else .next s

/-- Retained pool banks and stacks of the retention selection (R537). -/
def State.retainedBanks (s : State) : Nat := ((List.range 6).map fun r => bitCount (s.dictVal (0x201002 + r)) 0 24).sum
def State.retainedStacks (s : State) : Nat := bitCount (s.dictVal 0x201001) 0 8

/-- I of R537 in mA for so many banks and stacks. -/
def retentionDraw (banks stackCount : Nat) (hot : Bool) : Nat := 600 + 6 * banks + (if hot then 500 else 250) * stackCount

/-- Some region's junction lies in a band at or above 75 °C. -/
def State.hotBand (s : State) : Bool := (List.range 11).any fun r => decide (5 ≤ s.bandOf r)

/-- I at the present junction band (0x2010.08). -/
def State.drawNow (s : State) : Nat := retentionDraw s.retainedBanks s.retainedStacks s.hotBand

/-- Why Deep Sleep cannot be entered (R523, R537): 1 L1.2 is not enabled, 2 the retention budget. -/
def State.floorMiss (s : State) : Option Nat :=
  if s.config.valAt 0 3 ≠ 1 then some 1 else if 2700 < s.drawNow then some 2 else none

/-- Entry to a state begins. -/
def State.beginEntry (s : State) (target : Nat) : State := { s with power := { s.power with entering := some (target, s.now) } }

/-- Entry to Deep Sleep begins with its journal record (R533 step 2), or the floor is missed: reported once until the junction band changes. [DEDUCED, unsafe, log entry 56] -/
def State.tryDeepSleep (s : State) : State :=
  match s.floorMiss with
  | none =>
    let selection := leBytes 1 (s.dictVal 0x201001) ++ (List.range 6).flatMap fun r => leBytes 4 (s.dictVal (0x201002 + r))
    ({ s with power := { s.power with missed := false } }.journalPut 0x08 0 selection).beginEntry 3
  | some why =>
    if s.power.missed then s
    else ({ s with power := { s.power with missed := true } }.keepCounter 0x202004 1).raise stFloorNotReached (beData [(1, why)])

/-- The permitted state has stayed deeper for DROP_DELAY_MS, and no wake holds the module in Idle (R531, R541). [DEDUCED, unsafe, log entry 55] -/
def State.mayDrop (s : State) : Bool :=
  s.board.powered && s.board.ready && s.slackRuns && !s.board.lost && s.integ.recovering.isNone && s.power.entering.isNone &&
    s.power.exiting.isNone && s.power.wake.isNone && decide (s.power.holdUntil ≤ s.now) && decide (s.power.mode < s.permitted) &&
    (match s.power.deeperSince with | some t => decide (t + s.dictVal 0x200003 * 1000000 ≤ s.now) | none => false)

/-- STATE_DROP (R531, R532, Table 13-4): entry to the next deeper state begins. -/
def execStateDrop (dt : Nat) (s0 : State) : Host.Outcome State Fault Refusal :=
  let s := s0.elapse dt
  if !s.mayDrop then .next s
  else
    match s.power.mode with
    | 1 => if s.permitted < 2 then .next s else .next (s.beginEntry 2)
    | 2 => if s.permitted = 4 then .next (s.beginEntry 4) else .next s.tryDeepSleep
    | 3 => .next (s.beginEntry 4)
    | _ => .next s

/-- A state is fully reached (R545). -/
def State.reach (s : State) (target : Nat) : State :=
  { s.raise stStateChanged (beData [(1, s.power.mode), (1, target)]) with
    power := { s.power with mode := target, entering := none, mgmtAwake := false, reachedTide := s.tideNat, reachedPre := !s.tide.stepped } }

/-- Fabric ports are off (Table 13-2). -/
def State.fabricOff (s : State) : State :=
  { s with fab := { s.fab with ports := s.fab.ports.mapVals fun _ p => { PortState.reset with retries := p.retries } } }

/-- POWER_ENTRY_DONE (R532, R533): Deep Sleep and Off are reached only once every queued journal record is durable. [DEDUCED, unsafe, log entry 55] -/
def execPowerEntryDone (dt : Nat) (s0 : State) : Host.Outcome State Fault Refusal :=
  let s := s0.elapse dt
  match if s.board.powered && s.power.exiting.isNone && s.power.wake.isNone then s.power.entering else none with
  | some (2, _) => .next (s.reach 2)
  | some (3, _) =>
    if s.journal.queued.isEmpty then
      let s1 := (s.reach 3).fabricOff
      .next { s1 with
        net := { s1.net with linkB := false }
        power := { s1.power with
          lost := decide (s1.dictVal 0x201001 ≠ 0xFF), brownOut := false, kept := (List.range 7).map fun i => s1.dictVal (0x201001 + i) } }
    else .next s
  | some (_, _) => if s.journal.queued.isEmpty then .next (s.reach 4).powerOff else .next s
  | none => .next s

/-- WAKE_EVENT (R534, R541): the wake that has reached the wake logic, or a vote that the state does not permit, starts the exit at once; an entry in progress stops. [DEDUCED, unsafe, log entry 56] -/
def execWakeEvent (dt : Nat) (s0 : State) : Host.Outcome State Fault Refusal :=
  let s := s0.elapse dt
  if !s.board.powered || s.power.exiting.isSome || !s.asleep then .next s
  else
    let s1 := match s.power.wake, s.voteAgainst with
      | none, some (h, d) => s.wakeBy 0x02 h d 0
      | _, _ => s
    match s1.power.wake with
    | none => .next s1
    | some _ => .next { s1 with power := { s1.power with entering := none, exiting := some s1.now, deeperSince := none } }

/-- WAKE_TIMER_FIRE (R541): Tide has reached WAKE_TIMER, which clears; from Sleep or Deep Sleep it wakes the module. -/
def execWakeTimerFire (dt : Nat) (s0 : State) : Host.Outcome State Fault Refusal :=
  let s := s0.elapse dt
  let t := s.dictVal 0x200005
  if s.board.powered && t != 0 && decide (t ≤ s.tideNat) then
    let s1 := s.setDict 0x200005 0
    .next (if s1.asleep then s1.wakeBy 0x06 0xFF 0xF 0 else s1)
  else .next s

/-- BROWN_OUT (R538, Table 13-10): every retained content is declared lost; from Deep Sleep it wakes the module. -/
def execBrownOut (dt : Nat) (milliamp : BitVec 16) (s0 : State) : Host.Outcome State Fault Refusal :=
  let s := s0.elapse dt
  if s.board.powered && s.power.mode == 3 && decide (3000 < milliamp.toNat) && !s.power.brownOut then
    let s1 := { s with power := { s.power with lost := true, brownOut := true } }.keepCounter 0x202003 1
    .next ((s1.raise stRetentionLost (beData [(2, milliamp.toNat)])).wakeBy 0x07 0xFF 0xF 0)
  else .next s

end Sys2Proof.Machine
end

