-- ==== Sys2Proof/Machine/DictEntries.lean ====
section
/-! DEFINITION. Values of the object dictionary: which a write may store, what it changes, and what each entry reads (02 Table 2-9; 12_object_dictionary_and_mailboxes.md R505 to R507, and the dictionary tables of the other files). -/

namespace Sys2Proof.Machine

/-- The default of a STRING or OCTETS entry: one gate entry, all open, of 1,000,000 ns; MAC addresses of zeros; no name. [DESIGN CHOICE, unsafe, log entry 61] -/
def octDefault (k : Nat) : List Byte :=
  if k = 0x110303 then beBytes 8 (0xFF * 2 ^ 56 + 1000000)
  else if k = 0x500006 ∨ k = 0x510002 then List.replicate 6 0
  else []

/-- The stored value of a STRING or OCTETS entry. -/
def State.dictOctVal (s : State) (k : Nat) : List Byte := s.dictOct.valAt (octDefault k) k

/-- Store a STRING or OCTETS entry. -/
def State.setDictOct (s : State) (k : Nat) (v : List Byte) : State := { s with dictOct := s.dictOct.setAt (octDefault k) k v }

/-- The entry is numeric. -/
def DictRow.numeric (r : DictRow) : Bool := r.ty.size != 0

/-- A mask whose ones are contiguous from the top (0x1100.04). -/
def contiguousMask (v : Nat) : Bool := (List.range 33).any fun n => v == 2 ^ 32 - 2 ^ n

/-- Some bytes are UTF-8 (the standard's well-formed sequences); the fuel is the number of bytes. -/
def utf8From : Nat → List Nat → Bool
  | 0, l => l.isEmpty
  | fuel + 1, l =>
    let tail (b : Nat) : Bool := decide (0x80 ≤ b) && decide (b ≤ 0xBF)
    match l with
    | [] => true
    | a :: r =>
      if a ≤ 0x7F then utf8From fuel r
      else match r with
        | b :: r2 =>
          if 0xC2 ≤ a && a ≤ 0xDF && tail b then utf8From fuel r2
          else match r2 with
            | c :: r3 =>
              let ok3 := tail b && tail c && (if a = 0xE0 then decide (0xA0 ≤ b) else if a = 0xED then decide (b ≤ 0x9F) else true)
              if 0xE0 ≤ a && a ≤ 0xEF && ok3 then utf8From fuel r3
              else match r3 with
                | d :: r4 =>
                  let ok4 := tail b && tail c && tail d && (if a = 0xF0 then decide (0x90 ≤ b) else if a = 0xF4 then decide (b ≤ 0x8F) else true)
                  if 0xF0 ≤ a && a ≤ 0xF4 && ok4 then utf8From fuel r4 else false
                | [] => false
            | [] => false
        | [] => false

/-- Valid UTF-8. -/
def utf8 (bs : List Byte) : Bool := utf8From bs.length (bs.map (·.toNat))

/-- A gate control list is well formed and its intervals sum to the cycle (R495). -/
def gclOk (bs : List Byte) (cycle : Nat) : Bool :=
  let n := bs.length / 8
  let entries := (List.range n).map fun i => beNat ((bs.drop (8 * i)).take 8)
  bs.length % 8 == 0 && (entries.all fun e => bitsOf e 55 32 == 0 && decide (1000 ≤ bitsOf e 31 0)) &&
    ((entries.map fun e => bitsOf e 31 0).sum == cycle)

/-- The retention selection stays within the budget at i_s = 0.25 A when entry `k` takes this value (R537). -/
def State.retentionFits (s : State) (k v : Nat) : Bool :=
  let t := s.setDict k v
  decide (retentionDraw t.retainedBanks t.retainedStacks false ≤ 2700)

/-- A numeric value lies in the entry's Range (R505 step 5). -/
def State.numOk (s : State) (r : DictRow) (k v : Nat) : Bool :=
  if k = 0x500005 then decide (v ≤ 63) || v == 0xFF
  else if k = 0x540001 then v == 0 || (decide (600 ≤ v) && decide (v ≤ 31536000))
  else if k = 0x670001 then v == 0 || (decide (100 ≤ v) && decide (v ≤ 60000))
  else
    decide (r.lo ≤ v) && decide (v ≤ r.hi) &&
      (if k = 0x110004 then contiguousMask v
       else if k = 0x250008 then v % 10 == 0
       else if 0x201001 ≤ k ∧ k ≤ 0x201007 then s.retentionFits k v
       else true)

/-- A STRING or OCTETS value lies in the entry's Range. -/
def State.octOk (s : State) (r : DictRow) (k : Nat) (v : List Byte) : Bool :=
  decide (r.lo ≤ v.length) && decide (v.length ≤ r.hi) &&
    (if k = 0x110303 then gclOk v (s.dictVal 0x110301) else if r.ty = .string then utf8 v else true)

/-- Why a value is refused at step 5 of R505, if it is: VALUE_RANGE, or LOOP_BOUND_INVALID where VMIN_MV would exceed VMAX_MV (R574). -/
def State.valueRefusal (s : State) (r : DictRow) (k : Nat) (v : List Byte) : Option Status :=
  if r.numeric then
    let n := leNat v
    if !s.numOk r k n then some stValueRange
    else if (k = 0x250002 ∧ s.dictVal 0x250003 < n) ∨ (k = 0x250003 ∧ n < s.dictVal 0x250002) then some stLoopBoundInvalid
    else none
  else if s.octOk r k v then none else some stValueRange

/-- LENGTH fits the type (R505 step 4, Table 0-3): the size of a numeric type, or at most the size of STRING or OCTETS. -/
def DictRow.lengthOk (r : DictRow) (n : Nat) : Bool :=
  if r.numeric then n == r.ty.size else decide (n ≤ if r.ty = .string then 255 else 1024)

/-- In FIXED the VOLTAGE loop starts at VSET_MV after a mode write (R571). -/
def State.restartFixed (s : State) : State :=
  if s.dictVal 0x250001 = 2 then (List.range 6).foldl (fun s r => s.setVt r (s.dictVal 0x250004)) s else s

/-- A stored value takes effect (R505; R508 for RW-P entries). Bytes are little-endian for a numeric entry. -/
def State.storeValue (s : State) (k : Nat) (v : List Byte) : State :=
  match dictRow? k with
  | none => s
  | some r =>
    if r.numeric then
      let s1 := s.setDict k (leNat v)
      if k = 0x250001 ∨ k = 0x250004 then s1.restartFixed else s1
    else s.setDictOct k v

/-- SOURCE of Table 2-7. -/
def sourceCode : TideSource → Nat
  | .none => 0
  | .tsnA => 1
  | .tsnB => 2
  | .fabric _ => 3

/-- The error estimate in ns, rounded up, at most `top`. [DEDUCED, safe, log entry 75] -/
def State.errNs (s : State) (top : Nat) : Nat := min top (ceilDiv s.tide.errFine errUnit)

/-- A mask over contexts. -/
def State.ctxMask (s : State) (p : Context → Bool) : Nat := ((List.range 16).map fun c => if p (s.ctx c) then 2 ^ c else 0).sum

/-- VOTE_MASK of a domain: bit h where holder h votes in it, directly or implied (Table 13-8). -/
def State.voteMask (s : State) (d : Nat) : Nat := ((List.range 44).map fun h => if bitOf (withParents (s.voteOf h)) d then 2 ^ h else 0).sum

/-- ROLE of Table 15-8. -/
def roleCode : PairRole → Nat
  | .init => 0
  | .alone => 1
  | .shadow => 2
  | .syncing => 3
  | .standby => 4
  | .active => 5
  | .fenced => 6
  | .leaving => 7

/-- STATE of Slack (Table 16-10). -/
def slackCode : SlackMode → Nat
  | .running => 0
  | .capturing => 1
  | .captured => 2
  | .scanning => 3
  | .scanned => 4

/-- STATE of Table 17-6. -/
def updCode : UpdMode → Nat
  | .idle => 0
  | .receiving => 1
  | .verified => 2
  | .pending => 3
  | .recovery => 4

/-- Bytes that a record takes in the journal (R678). -/
def JournalRec.bytes (r : JournalRec) : Nat := roundUp (32 + r.payload.length) 16

/-- Segments of 128 KiB that records fill, one after another behind 64-byte headers (R678): the segments used and the bytes in the last. [DEDUCED, unsafe, log entry 63] -/
def packSegments (l : List JournalRec) : Nat × Nat :=
  l.foldl (fun a r => if a.2 + r.bytes ≤ 131072 then (a.1, a.2 + r.bytes) else (a.1 + 1, 64 + r.bytes)) (1, 64)

/-- Segments in use. -/
def Journal.segments (j : Journal) : Nat := (packSegments j.records).1

/-- The 32-byte header of a durable record (Table 17-9), and its payload. -/
def JournalRec.image (r : JournalRec) : List Byte :=
  let head (crc commit : Nat) : List Byte :=
    leBytes 32 (r.tide % 2 ^ 64 * 2 ^ 192 + r.seq % 2 ^ 64 * 2 ^ 128 + r.key % 2 ^ 32 * 2 ^ 96 + r.schema % 2 ^ 16 * 2 ^ 80 +
      r.payload.length % 2 ^ 16 * 2 ^ 64 + crc * 2 ^ 32 + r.kind % 2 ^ 8 * 2 ^ 24 + (if r.preStep then 2 ^ 16 else 0) + 0xA5 * 2 ^ 8 + commit)
  head (crc32c (head 0 0 ++ r.payload)) 0 ++ r.payload

/-- HEALTH_RECORD: the HEALTH record of HEALTH_INDEX, 0 the newest; zeros where there is none. [DESIGN CHOICE, unsafe, log entry 61] -/
def State.healthRecord (s : State) : List Byte :=
  match ((s.journal.records.filter fun r => r.kind == 2).reverse)[s.dictVal 0x604001]? with
  | some r => r.image
  | none => List.replicate 64 0

/-- Energy in mJ. -/
def milliJoule (nj : Nat) : Nat := nj / 1000000

/-- Power of 0x2300.04: nJ as mJ in FP32. -/
def milliJouleF (nj : Int) : Nat := (encode32 (round32 ((Val.ofInt nj).divApprox (Val.ofNat 1000000)))).toNat

/-- Entries of 02 to 12 that are computed where they are read. -/
def State.derivedA (s : State) (k : Nat) : Option Nat :=
  match k with
  | 0x140001 => some (tideCode s.tide.mode)
  | 0x140002 => some (sourceCode s.tide.source)
  | 0x140003 => some (s.errNs 0xFFFFFFFF)
  | 0x140008 => some s.tideNat
  | 0x620001 => some s.freeFrames
  | 0x620002 => some s.retiredCount
  | 0x630004 => some s.kv.pages.length
  | 0x630005 => some (33030144 - s.kv.blocks.vals.sum)
  | 0x640006 => some s.serving.nodes.length
  | 0x640009 => some (min (2 ^ 64 - 1) (s.dictVal k + (s.serving.requests.vals.map s.budgetWaited).sum))
  | 0x710001 => some (s.ctxMask fun x => x.mode = .active || x.mode = .locked)
  | 0x710002 => some (s.ctxMask fun x => x.mode = .locked)
  | 0x71000B => some (if s.trust.fault then 1 else 0)
  | 0x100005 => some (s.fw.slot s.fw.booting).fwVersion
  | 0x100006 => some s.schema
  | 0x100007 => some s.board.slot
  | 0x100009 => some (s.now - s.resetAt)
  | 0x110006 => some ((if s.net.linkA then 1 else 0) + (if s.net.linkB then 2 else 0))
  | 0x120001 => some s.net.sessions.length
  | 0x120003 => some (if s.trust.password.isSome then 1 else 0)
  | _ => if 0x121001 ≤ k ∧ k ≤ 0x121008 then some (match s.trust.slots.look (k - 0x121001) with | some x => x.1 | none => 0xFF) else none

/-- Entries of 13 and 14 that are computed where they are read. CTX_ENERGY_MJ reads 0 for a LOCKED context (R579). -/
def State.derivedB (s : State) (k : Nat) : Option Nat :=
  match k with
  | 0x200001 => some s.power.mode
  | 0x201008 => some s.drawNow
  | 0x210001 => some s.limits.cap
  | 0x210003 => some s.limits.capSource
  | 0x210004 => some s.limits.inputW.toNat
  | 0x210005 => some s.limits.packageW.toNat
  | 0x210006 => some s.limits.pBase
  | 0x230001 => some (milliJoule s.limits.packageTotal)
  | 0x230002 => some (milliJoule s.limits.inputTotal)
  | 0x230003 => some (milliJoule s.limits.overheadTotal)
  | 0x230004 => some (milliJouleF s.limits.residual)
  | 0x230005 => some s.limits.divergence.toNat
  | 0x230006 => some (if s.limits.diverged then (if s.limits.sensorFault then 2 else 1) else 0)
  | _ =>
    if 0x203001 ≤ k ∧ k ≤ 0x203009 then some (s.voteMask (k - 0x203001))
    else if 0x220001 ≤ k ∧ k ≤ 0x22000C then some (railLimit (k - 0x220001))
    else if 0x222001 ≤ k ∧ k ≤ 0x22200C then some (s.limits.current.valAt 0 (k - 0x222001))
    else if 0x231001 ≤ k ∧ k ≤ 0x231010 then
      some (if (s.ctx (k - 0x231001)).mode = .locked then 0 else milliJoule (s.ctx (k - 0x231001)).energy)
    else if 0x241001 ≤ k ∧ k ≤ 0x241030 then some (s.limits.vtable.valAt 840 (k - 0x241001))
    else if 0x242001 ≤ k ∧ k ≤ 0x242030 then some (s.limits.margin.valAt 0 (k - 0x242001))
    else none

/-- Entries of 15 to 18 that are computed where they are read. -/
def State.derivedC (s : State) (k : Nat) : Option Nat :=
  match k with
  | 0x500004 => some s.pair.place
  | 0x50000A => some (roleCode s.pair.role)
  | 0x510003 => some s.pair.epoch
  | 0x510004 => some s.pair.holder
  | 0x510005 => some ((s.pair.leaseEnd - s.now) / 1000)
  | 0x660003 => some (slackCode s.obs.slack.mode)
  | 0x660007 => some s.obs.slack.triggerId.toNat
  | 0x800001 => some (updCode s.fw.mode)
  | 0x800002 => some s.fw.active
  | 0x800003 => some (s.fw.pending.getD 0xFF)
  | 0x800004 => some s.fw.attempts
  | 0x800005 => some (if s.fw.slotA.valid then s.fw.slotA.fwVersion else 0)
  | 0x800006 => some (if s.fw.slotB.valid then s.fw.slotB.fwVersion else 0)
  | 0x80000A => some s.fw.reason
  | 0x820001 => some (128 * s.journal.segments)
  | 0x600001 => some s.healthNow
  | 0x600003 => some (if s.integ.repeats.isEmpty then 0 else 1)
  | _ => if 0x601001 ≤ k ∧ k ≤ 0x601006 then some (s.disabledOf (k - 0x601001)) else none

/-- A numeric entry as it reads: computed, or stored. -/
def State.readNum (s : State) (k : Nat) : Nat :=
  match s.derivedA k with
  | some v => v
  | none => match s.derivedB k with
    | some v => v
    | none => match s.derivedC k with
      | some v => v
      | none => s.dictVal k

/-- A STRING or OCTETS entry as it reads. -/
def State.readOct (s : State) (k : Nat) : List Byte :=
  if k = 0x100001 then ascii "Hokupa Devices"
  else if k = 0x100002 then ascii "QX8-H"
  else if k = 0x71000A then sha512 s.trust.deviceId
  else if k = 0x71000C then s.rollbackBytes
  else if k = 0x202001 then leBytes 32 s.power.lastWake.toNat
  else if 0x602001 ≤ k ∧ k ≤ 0x602006 then
    (List.range 24).map fun t => BitVec.ofNat 8 (s.integ.quarantine.valAt 0 ((k - 0x602001) * 32 + t))
  else if k = 0x604002 then s.healthRecord
  else s.dictOctVal k

/-- An entry's value: little-endian for a numeric one. -/
def State.readValue (s : State) (r : DictRow) (k : Nat) : List Byte :=
  if r.numeric then leBytes r.ty.size (s.readNum k) else s.readOct k

end Sys2Proof.Machine
end

