-- ==== Sys2Proof/Machine/Firmware.lean ====
section
/-! DEFINITION. Firmware images, the update path and the journal (17_firmware_images_and_journal.md R665 to R685). -/

namespace Sys2Proof.Machine

/-- Fields of an image header (Table 17-2). -/
def hdrImageBytes (h : List Byte) : Nat := fieldAt h 16 4
def hdrSchema (h : List Byte) : Nat := fieldAt h 24 2
def hdrMinSchema (h : List Byte) : Nat := fieldAt h 26 2
def hdrAnchor (h : List Byte) : Nat := fieldAt h 29 1
def hdrRevoke (h : List Byte) : Bool := fieldAt h 7 1 == 1
def hdrRootKey (h : List Byte) : List Byte := (h.drop 2048).take 512
def hdrSignKey (h : List Byte) : List Byte := (h.drop 2560).take 512

/-- A manifest entry (Table 17-3). -/
structure PartEntry where
  offset : Nat
  bytes : Nat
  version : Nat
  security : Nat
  type : Nat
  digest : List Byte
  deriving DecidableEq, Repr

/-- Manifest entry `i` of a header. -/
def hdrPart (h : List Byte) (i : Nat) : PartEntry :=
  let e := (h.drop (64 + 128 * i)).take 128
  ⟨fieldAt e 0 4, fieldAt e 4 4, fieldAt e 8 4, fieldAt e 12 4, fieldAt e 16 1, (e.drop 32).take 64⟩

/-- The eight parts of a header. -/
def hdrParts (h : List Byte) : List PartEntry := (List.range 8).map (hdrPart h)

/-- Reserved fields of Tables 17-2 and 17-3 are 0. -/
def hdrReservedOk (h : List Byte) : Bool :=
  fieldAt h 7 1 / 2 == 0 && fieldAt h 30 34 == 0 && fieldAt h 1088 960 == 0 &&
    (List.range 8).all fun i => fieldAt h (64 + 128 * i + 17) 15 == 0 && fieldAt h (64 + 128 * i + 96) 32 == 0

/-- Two parts overlap. -/
def partsOverlap (a b : PartEntry) : Bool := decide (a.offset < b.offset + b.bytes) && decide (b.offset < a.offset + a.bytes)

/-- A part's place (Table 17-3) and its lying within IMAGE_BYTES. -/
def PartEntry.placed (p : PartEntry) (image : Nat) : Bool :=
  decide (1 ≤ p.bytes) && p.offset % 4096 == 0 && decide (4096 ≤ p.offset) && decide (p.offset + p.bytes ≤ image)

/-- Check 7 of Table 17-4, with the range of IMAGE_BYTES. -/
def hdrPartsOk (h : List Byte) : Bool :=
  let ps := hdrParts h
  let image := hdrImageBytes h
  fieldAt h 28 1 == 8 && ((List.range 8).all fun t => (ps.filter fun p => p.type == t).length == 1) &&
    decide (4096 ≤ image) && decide (image ≤ 402653184) && (ps.all fun p => p.placed image) &&
    (List.range 8).all fun i => (List.range i).all fun j => !partsOverlap (hdrPart h i) (hdrPart h j)

/-- The anchor that ANCHOR names may sign (check 4, R482). -/
def State.anchorOk (s : State) (h : List Byte) : Bool :=
  let a := hdrAnchor h
  let counter := s.trust.counters.valAt 0 8
  decide (a ≤ 1) && sha512 (hdrRootKey h) == Config.anchor a &&
    (a == (if counter = 0 then 0 else 1) || (a == 1 && hdrRevoke h && counter == 0))

/-- Checks 2 to 8 of Table 17-4 (R669): the first that fails. -/
def State.headerFault (s : State) (h : List Byte) : Option Nat :=
  if !(fieldAt h 0 4 == 0x4D495851 && fieldAt h 4 2 == 4096 && fieldAt h 6 1 == 1 && hdrReservedOk h) then some 2
  else if fieldAt h 8 8 ≠ 0x00000048_2D385851 then some 3
  else if !s.anchorOk h then some 4
  else if !rsaVerify (hdrRootKey h) ((h.drop 3072).take 512) (hdrSignKey h) then some 5
  else if !rsaVerify (hdrSignKey h) ((h.drop 3584).take 512) (h.take 3584) then some 6
  else if !hdrPartsOk h then some 7
  else if !((hdrParts h).all fun p => decide (s.trust.counters.valAt 0 p.type ≤ p.security)) then some 8
  else none

/-- REASON of Table 17-4 with which a header that is received is refused. [DEDUCED, unsafe, log entry 62] -/
def State.headerRefusal (s : State) (h : List Byte) : Option Nat :=
  if s.trust.fault then some 1
  else match s.headerFault h with
    | some r => some r
    | none => if s.schema < hdrMinSchema h then some 9 else none

/-- A recovery boot runs (R677). -/
def State.inRecovery (s : State) : Bool := s.board.stage == 8

/-- STATE after an update has ended without an image: IDLE, and RECOVERY in recovery (R677). [DEDUCED, unsafe, log entry 64] -/
def State.updRest (s : State) : UpdMode := if s.inRecovery then .recovery else .idle

/-- Change the update path. -/
def State.setUpd (s : State) (m : UpdMode) : State := { s with fw := { s.fw with mode := m } }

/-- Fields of an update command (Table 17-5). -/
def updOpcode (v : BitVec 128) : Nat := (v.extractLsb' 0 8).toNat
def updBytes (v : BitVec 128) : Nat := (v.extractLsb' 32 32).toNat
def updCva (v : BitVec 128) : Nat := (v.extractLsb' 64 64).toNat

/-- The update command that is in progress, with this OPCODE. -/
def State.updCommand (s : State) (op : Nat) : Option (BitVec 128) :=
  if s.board.powered && (s.board.ready || s.inRecovery) && !s.asleep && (s.path 3 0).busy && s.fw.taking.isNone then
    s.fw.command.filter fun v => updOpcode v == op
  else none

/-- The update command completes (R670). -/
def State.updFinish (s : State) (st : Status) : State := { s with fw := { s.fw with command := none } }.pathDone 3 0 st none

/-- An answer with its event (R686). -/
def State.updRefuse (s : State) (st : Status) (data : List Byte) : State × Status := (s.raise st data, st)

/-- A command does not fit the state. -/
def State.updStateError (s : State) : State × Status := s.updRefuse stUpdState (beData [(1, updCode s.fw.mode)])

/-- Bytes of a CVA range of PF0's context as an update reads them. In recovery no context exists, and what is read is open. [DEDUCED, unsafe, log entry 64] -/
def State.updRead (s : State) (cva n : Nat) : State × List Byte :=
  if s.inRecovery then (s.draw, (List.range n).map fun i => BitVec.ofNat 8 (s.pick i))
  else (s, (s.readCvaN 0 none cva n).getD [])

/-- The check of a CVA range (R451, R671); in recovery there is nothing to be mapped. -/
def State.updRange (s : State) (cva n : Nat) : Option Status :=
  if s.inRecovery then (if 2 ^ 38 < cva + n then some stLengthBounds else none) else s.rangeBad 0 cva n 0

/-- The slot that a BEGIN writes: the inactive one; in recovery slot A if it is invalid, otherwise slot B (R677). -/
def State.updTarget (s : State) : Nat :=
  if s.inRecovery then (if s.fw.slotA.valid then 1 else 0) else 1 - s.fw.active

/-- BEGIN (R671, Table 17-7). [DEDUCED, unsafe, log entry 62] -/
def State.beginImage (s0 : State) (cva bytes : Nat) : State × Status :=
  if s0.fw.mode ≠ .idle ∧ s0.fw.mode ≠ .verified ∧ s0.fw.mode ≠ .recovery then s0.updStateError
  else if bytes ≠ 4096 then (s0, stLengthBounds)
  else
    match s0.updRange cva 4096 with
    | some st => (s0, st)
    | none =>
      let (s, h) := s0.updRead cva 4096
      match s.headerRefusal h with
      | some r => ({ s with fw := { s.fw with reason := r } }).updRefuse stHdrRefused (beData [(1, r)])
      | none =>
        let t := s.updTarget
        (s.setFw { s.fw.setSlot t ⟨false, h, []⟩ with mode := .receiving, received := 4096, writes := t }, stOk)

/-- UPD_BEGIN: the update command executes, a BEGIN. -/
def execUpdBegin (s : State) : Host.Outcome State Fault Refusal :=
  match s.updCommand 1 with
  | none => .next s
  | some v =>
    let (s1, st) := s.beginImage (updCva v) (updBytes v)
    .next (s1.updFinish st)

/-- DATA is judged (R671). -/
def State.dataRefusal (s : State) (cva bytes : Nat) : Option Status :=
  if bytes = 0 ∨ 67108864 < bytes ∨ hdrImageBytes (s.fw.slot s.fw.writes).header < s.fw.received + bytes then some stLengthBounds
  else s.updRange cva bytes

/-- UPD_DATA (R671): the bytes are taken; UPD_DATA_DONE ends the command. -/
def execUpdData (s : State) : Host.Outcome State Fault Refusal :=
  match s.updCommand 2 with
  | none => .next s
  | some v =>
    if s.fw.mode ≠ .receiving then let (s1, st) := s.updStateError; .next (s1.updFinish st)
    else
      match s.dataRefusal (updCva v) (updBytes v) with
      | some st => .next (s.updFinish st)
      | none =>
        let (s1, bs) := s.updRead (updCva v) (updBytes v)
        .next { s1 with fw := { s1.fw with taking := some bs } }

/-- UPD_DATA_DONE (R672, R680, R685): the body is written in arrival order, once no journal record waits; it pauses after EXTRACT_N and a loss of the feed. -/
def execUpdDataDone (dt : Nat) (s0 : State) : Host.Outcome State Fault Refusal :=
  let s := s0.elapse dt
  match s.fw.taking with
  | none => .next s
  | some bs =>
    if s.board.powered && s.journal.queued.isEmpty && s.pair.role != .leaving && !s.board.lost then
      let x := s.fw.slot s.fw.writes
      .next ({ s with fw := { s.fw.setSlot s.fw.writes { x with body := x.body ++ bs } with
        received := s.fw.received + bs.length, taking := none } }.updFinish stOk)
    else .next s

/-- A part's body in an image. -/
def PartEntry.slice (p : PartEntry) (body : List Byte) : List Byte := (body.drop (p.offset - 4096)).take p.bytes

/-- The first part, in manifest order, of which the body does not have its DIGEST. -/
def FlashSlot.badPart (x : FlashSlot) : Option Nat :=
  ((hdrParts x.header).find? fun p => sha512 (p.slice x.body) != p.digest).map (·.type)

/-- END (Table 17-7). -/
def State.endImage (s : State) : State × Status :=
  if s.fw.mode ≠ .receiving then s.updStateError
  else
    let x := s.fw.slot s.fw.writes
    if s.fw.received < hdrImageBytes x.header then s.updRefuse stImageIncomplete (beData [(4, s.fw.received)])
    else match x.badPart with
      | some t => (s.setUpd s.updRest).updRefuse stBodyDigest (beData [(1, t)])
      | none => (s.setFw { s.fw.setSlot s.fw.writes { x with valid := true } with mode := .verified }, stOk)

/-- UPD_END (R671). -/
def execUpdEnd (s : State) : Host.Outcome State Fault Refusal :=
  match s.updCommand 3 with
  | none => .next s
  | some _ => let (s1, st) := s.endImage; .next (s1.updFinish st)

/-- ABORT (Table 17-7). [DEDUCED, unsafe, log entry 62] -/
def State.abortImage (s : State) : State × Status :=
  if s.fw.mode ≠ .receiving ∧ s.fw.mode ≠ .verified then s.updStateError
  else (s.setFw { s.fw.setSlot s.fw.writes { s.fw.slot s.fw.writes with valid := false } with mode := s.updRest }, stOk)

/-- UPD_ABORT (R671). -/
def execUpdAbort (s : State) : Host.Outcome State Fault Refusal :=
  match s.updCommand 4 with
  | none => .next s
  | some _ => let (s1, st) := s.abortImage; .next (s1.updFinish st)

/-- ACTIVATE (Table 17-7), by UPD_CTRL or 0x8000.07. -/
def State.activateImage (s : State) : State × Status :=
  if s.fw.mode ≠ .verified then s.updStateError
  else (s.setFw { s.fw with pending := some s.fw.writes, attempts := 0, mode := .pending }, stOk)

/-- UPD_ACTIVATE (R671). -/
def execUpdActivate (s : State) : Host.Outcome State Fault Refusal :=
  match s.updCommand 5 with
  | none => .next s
  | some _ => let (s1, st) := s.activateImage; .next (s1.updFinish st)

/-- CANCEL (Table 17-7), by UPD_CTRL or 0x8000.08. -/
def State.cancelImage (s : State) : State × Status :=
  if s.fw.mode ≠ .pending then s.updStateError
  else (s.setFw { s.fw with pending := none, mode := .verified }, stOk)

/-- UPD_CANCEL (R671). -/
def execUpdCancel (s : State) : Host.Outcome State Fault Refusal :=
  match s.updCommand 6 with
  | none => .next s
  | some _ => let (s1, st) := s.cancelImage; .next (s1.updFinish st)

/-- BOOT_ATTEMPT_TIMEOUT (R675): a pending slot has not reached ready within 120 s. -/
def execBootAttemptTimeout (dt : Nat) (s0 : State) : Host.Outcome State Fault Refusal :=
  let s := s0.elapse dt
  if s.board.powered && !s.board.ready && !s.board.bootWaits && !s.board.stuck && s.fw.pending == some s.fw.booting &&
      decide (s.board.bootAt + 120000000000 ≤ s.now) then
    .next (s.noteAttempt.moduleReset false)
  else .next s

/-- JOURNAL_RECORD_DURABLE (R679): records are made durable in SEQ order. -/
def execJournalRecordDurable (s : State) : Host.Outcome State Fault Refusal :=
  match s.journal.queued with
  | r :: rest =>
    if s.board.powered then
      .next { s with journal := { s.journal with queued := rest, records := s.journal.records ++ [r], durable := r.seq + 1 } }
    else .next s
  | [] => .next s

/-- Compaction starts, if none runs (R682). [DEDUCED, unsafe, log entry 63] -/
def State.compact (s : State) : State :=
  if s.journal.canTake && s.journal.compacting.isNone then
    { s with journal := { s.journal with compacting := some (s.journal.nextSeq - 1) } }
  else s

/-- JOURNAL_COMPACT (R682): by the write of 0x8200.02, or at 75 % of the 1,024 segments. -/
def execJournalCompact (byWrite : Bool) (s : State) : Host.Outcome State Fault Refusal :=
  if if byWrite then s.woOpen else s.board.ready && s.mgmtUp && decide (768 ≤ s.journal.segments) then .next s.compact else .next s

/-- Records of a kind. -/
def ofKind (l : List JournalRec) (k : Nat) : List JournalRec := l.filter fun r => r.kind == k

/-- The newest `n` records of a list. -/
def newest (n : Nat) (l : List JournalRec) : List JournalRec := l.drop (l.length - n)

/-- Records of a list of which none that follows has the same key. -/
def newestPer (same : JournalRec → JournalRec → Bool) : List JournalRec → List JournalRec
  | [] => []
  | r :: rest => if rest.any (same r) then newestPer same rest else r :: newestPer same rest

/-- SEQ of the newest DEFAULTS record, 0 if there is none. -/
def defaultsSeq (l : List JournalRec) : Nat := ((ofKind l 0x0B).map (·.seq)).foldl max 0

/-- Schemas of the valid slots, oldest and newest (R684). -/
def Firmware.schemaRange (f : Firmware) : Nat × Nat :=
  let l := (if f.slotA.valid then [hdrSchema f.slotA.header] else []) ++ (if f.slotB.valid then [hdrSchema f.slotB.header] else [])
  (l.foldl min 65535, l.foldl max 0)

/-- What compaction keeps (Table 17-10). [DEDUCED, unsafe, log entry 63] -/
def keptRecords (f : Firmware) (l : List JournalRec) : List JournalRec :=
  let range := f.schemaRange
  let values := (ofKind l 0x01).filter fun r => decide (defaultsSeq l < r.seq) && decide (range.1 ≤ r.schema) && decide (r.schema ≤ range.2)
  let perKey := newestPer fun a b => a.key == b.key
  let all := newestPer (fun a b => a.key == b.key && a.schema == b.schema) values ++ newest 32768 (ofKind l 0x02) ++
    newest 1024 (ofKind l 0x03) ++ perKey (ofKind l 0x04) ++ perKey (ofKind l 0x05) ++ perKey (ofKind l 0x06) ++
    perKey (ofKind l 0x07) ++ newest 1 (ofKind l 0x08) ++ newest 256 (ofKind l 0x09) ++ newest 1 (ofKind l 0x0A) ++ newest 1 (ofKind l 0x0B)
  l.filter fun r => all.contains r

/-- HEALTH, WAKE and UPDATE records that a compaction drops (0x8200.08). -/
def droppedRecords (l : List JournalRec) : Nat :=
  ((ofKind l 0x02).length - 32768) + ((ofKind l 0x03).length - 1024) + ((ofKind l 0x09).length - 256)

/-- COMPACT_DONE (R682): what is kept and a COMPACT_DONE record become the journal, with the next GENERATION. -/
def execCompactDone (s : State) : Host.Outcome State Fault Refusal :=
  let j := s.journal
  if s.board.powered && j.compacting.isSome && j.canTake && j.queued.isEmpty then
    let gen := j.generation + 1
    let done : JournalRec := ⟨j.nextSeq, 0x0D, 0, s.schema, s.tideNat, !s.tide.stepped, leBytes 8 gen⟩
    let s1 := { s with journal := { j with
      records := keptRecords s.fw j.records ++ [done], nextSeq := j.nextSeq + 1, durable := j.nextSeq + 1, generation := gen, compacting := none } }
    let dropped := droppedRecords j.records
    .next ((if dropped = 0 then s1 else s1.keepCounter 0x820008 dropped).keepCounter 0x820003 1)
  else .next s

/-- A program or erase error in a slot (R685): VALID 0, IDLE; a DATA in progress ends. [DEDUCED, unsafe, log entry 62; DEDUCED, unsafe, log entry 63] -/
def State.slotFault (s : State) (i : Nat) : State :=
  let busy := s.fw.taking.isSome && s.fw.writes == i
  let f := s.fw.setSlot i { s.fw.slot i with valid := false }
  let s1 := s.setFw { f with
    mode := s.updRest, pending := if f.pending = some i then none else f.pending, taking := if busy then none else f.taking }
  if busy then s1.updFinish stFlashFault else s1

/-- FLASH_FAULT at a flash offset (R685, Table 17-1). -/
def execFlashFault (offset : BitVec 30) (s : State) : Host.Outcome State Fault Refusal :=
  if !s.board.powered then .next s
  else
    let o := offset.toNat
    let s1 := s.raise stFlashFault (beData [(4, o)])
    if o < 0x18000000 then .next (s1.slotFault 0)
    else if o < 0x30000000 then .next (s1.slotFault 1)
    else if o < 0x38000000 then .next { s1 with journal := { s1.journal with retired := s1.journal.retired + 1 } }
    else .next s1

end Sys2Proof.Machine
end

