-- ==== Sys2Proof/Machine/Dictionary.lean ====
section
/-! DEFINITION. Reads and writes of the object dictionary, as QOP and the mailboxes make them (12_object_dictionary_and_mailboxes.md R505, R508, R509, R514; 19 R741; 17 R677). -/

namespace Sys2Proof.Machine

/-- The dictionary answers: at ready, and in recovery (R677, R734). -/
def State.dictServes (s : State) : Bool := (s.board.ready || s.inRecovery) && s.mgmtUp

/-- Indices that answer in recovery (R677). -/
def recoveryIndex (i : Nat) : Bool := [0x1000, 0x1100, 0x1200, 0x8000].contains i

/-- The row of an entry that exists now (R507). [DEDUCED, unsafe, log entry 64] -/
def State.entryRow (s : State) (k : Nat) : Option DictRow :=
  if s.inRecovery && !recoveryIndex (k / 256) then none else dictRow? k

/-- Who asks: the role of R18, and the session slot of a QOP request. -/
structure Asker where
  role : Nat
  session : Option Nat
  deriving DecidableEq, Repr

/-- Steps 1 to 3 of R505 for a READ. -/
def State.readRefusal (s : State) (a : Asker) (k : Nat) : Option Status :=
  match s.entryRow k with
  | none => some stNoEntry
  | some r => if a.role < r.role then some stRoleDenied else if r.access = .wo then some stAccessDenied else none

/-- The value of an entry as this asker reads it: SESSION_VOTE is the session's own vote. [DEDUCED, safe, log entry 70] -/
def State.askedValue (s : State) (a : Asker) (r : DictRow) (k : Nat) : List Byte :=
  if k = 0x200004 then leBytes 2 (match a.session with | some n => (s.power.votes.valAt 0 (32 + n)).toNat | none => 0)
  else s.readValue r k

/-- A READ (R505): status and value, little-endian for a numeric entry. -/
def State.readEntry (s : State) (a : Asker) (k : Nat) : State × Status × List Byte :=
  match s.readRefusal a k, s.entryRow k with
  | some st, _ => (s, st, [])
  | none, some r => (s, stOk, s.askedValue a r k)
  | none, none => (s, stNoEntry, [])

/-- Steps 1 to 6 of R505 for a WRITE. [DEDUCED, safe, log entry 70] -/
def State.writeRefusal (s : State) (a : Asker) (k : Nat) (v : List Byte) : Option Status :=
  match s.entryRow k with
  | none => some stNoEntry
  | some r =>
    if a.role < r.role then some stRoleDenied
    else if r.access = .ro then some stAccessDenied
    else if r.access = .wo ∧ s.pair.role = .leaving then some stAccessDenied
    else if k = 0x200004 ∧ a.session = none then some stAccessDenied
    else if !r.lengthOk v.length then some stTypeMismatch
    else match s.valueRefusal r k v with
      | some st => some st
      | none => if r.access = .rwp && !s.journal.canTake then some stPersistFailed else none

/-- The first instant ADMIN_BASE_TIME + k · ADMIN_CYCLE_NS that lies at least 1 ms in the future (R495). -/
def State.gclInstant (s : State) : Nat :=
  let base := s.dictVal 0x110302
  let cycle := s.dictVal 0x110301
  let t := s.tideNat + 1000000
  if t ≤ base then base else base + ceilDiv (t - base) cycle * cycle

/-- CONFIG_CHANGE (R495). -/
def State.gclSchedule (s : State) : State := { s with net := { s.net with gclDue := true, gclAt := some s.gclInstant } }

/-- MARGIN_CLEAR (0x2420.31): value − 1 is a region, 7 names them all. -/
def State.clearMargins (s : State) (v : Nat) : State :=
  { s with limits := { s.limits with marginClear := s.limits.marginClear ++ (if v = 7 then List.range 6 else [v - 1]) } }

/-- SWEEP_START by the dictionary (R701). -/
def State.sweepRequest (s : State) : State := if s.clocked && !s.limits.tripped then s.startSweep 0 else s

/-- A write of a WO entry acts, with its status. -/
def State.writeCommand (s : State) (k v : Nat) : State × Status :=
  match k with
  | 0x10000A => ({ s with net := { s.net with restore := true } }, stOk)
  | 0x110304 => (s.gclSchedule, stOk)
  | 0x242031 => (s.clearMargins v, stOk)
  | 0x510006 => s.relinquish
  | 0x530001 => s.placeAdopt v
  | 0x540002 => (s.berStart v, stOk)
  | 0x660001 => s.slackTriggerOp
  | 0x660004 => s.slackResumeOp
  | 0x660005 => s.slackScanOp
  | 0x670003 => ({ s with obs := { s.obs with wfgAsked := true } }, stOk)
  | 0x680002 => (s.sweepRequest, stOk)
  | 0x800007 => s.activateImage
  | 0x800008 => s.cancelImage
  | 0x820002 => (s.compact, stOk)
  | _ => (s, stOk)

/-- A write of an RW entry acts at once, with its status. [DEDUCED, unsafe, log entry 69] -/
def State.writePlain (s : State) (a : Asker) (k : Nat) (v : List Byte) : State × Status :=
  if k = 0x200004 then (match a.session with | some n => (s.castVote (32 + n) (leNat v), stOk) | none => (s, stOk))
  else if k = 0x210001 then let s1 := s.setCap 1 (leNat v); (s1, s1.limits.capStatus)
  else (s.storeValue k v, stOk)

/-- An answer to a WRITE, unless the record of an RW-P entry is waited for. -/
abbrev WriteAnswer := Option (Status × List Byte)

/-- An RW-P value is given to the journal (R508): its reply waits. -/
def State.persist (s : State) (k : Nat) (v : List Byte) (dest : ReplyTo) : State :=
  let s1 := s.journalPut 0x01 (k * 256) v
  { s1 with net := { s1.net with writes := s1.net.writes ++ [⟨k, v, s.journal.nextSeq, dest⟩] } }

/-- A WRITE (R505, R508): at the first failure nothing is changed. -/
def State.writeEntry (s : State) (a : Asker) (k : Nat) (v : List Byte) (dest : ReplyTo) : State × WriteAnswer :=
  match s.writeRefusal a k v, s.entryRow k with
  | some st, _ => (s, some (st, []))
  | none, none => (s, some (stNoEntry, []))
  | none, some r =>
    match r.access with
    | .rwp => (s.persist k v dest, none)
    | .wo => let (s1, st) := s.writeCommand k (leNat v); (s1, some (st, []))
    | _ =>
      let (s1, st) := s.writePlain a k v
      (s1, some (st, if st = stOk then s1.askedValue a r k else []))

/-- RESTORE_DEFAULTS is written (R509): persisted values are discarded at the next reset. -/
def execRestoreDefaults (s : State) : Host.Outcome State Fault Refusal :=
  if s.woOpen then .next (s.writeCommand 0x10000A 1).1 else .next s

/-- GCL_CONFIG_CHANGE (R495): a write of 1 to CONFIG_CHANGE acts. -/
def execGclConfigChange (s : State) : Host.Outcome State Fault Refusal :=
  if s.woOpen then .next s.gclSchedule else .next s

/-- GCL_ACTIVATE (R495): the administrative list becomes operational. -/
def execGclActivate (dt : Nat) (s0 : State) : Host.Outcome State Fault Refusal :=
  let s := s0.elapse dt
  match s.net.gclAt with
  | none => .next s
  | some t =>
    if s.board.powered && s.board.ready && decide (t ≤ s.tideNat) then
      .next { s with net := { s.net with
        gclDue := false, gclAt := none, gclOper := s.dictOctVal 0x110303, gclBase := s.dictVal 0x110302, gclCycle := s.dictVal 0x110301 } }
    else .next s

/-- The RW-P entries of 0x1100, 0x1102 and 0x1103 (R514). -/
def netEntries : List Nat := [0x110003, 0x110004, 0x110005, 0x110201, 0x110202, 0x110203, 0x110204, 0x110301, 0x110302, 0x110303, 0x110305]

/-- The default of an entry as it is persisted. -/
def defaultValue (k : Nat) : List Byte :=
  match dictRow? k with
  | some r => if r.numeric then leBytes r.ty.size (dictDefault k) else octDefault k
  | none => []

/-- NET_RESET (R514): one VALUE record per entry that carries its default; the reply waits for the last. -/
def State.netDefaults (s : State) (dest : ReplyTo) : State :=
  let s1 := netEntries.foldl (fun s k => s.journalPut 0x01 (k * 256) (defaultValue k)) s
  { s1 with net := { s1.net with writes := s1.net.writes ++ [⟨0, [], s1.journal.nextSeq - 1, dest⟩] } }

end Sys2Proof.Machine
end

