-- ==== Sys2Proof/Machine/Qop.lean ====
section
/-! DEFINITION. The TSN ports and QOP: frames, sessions, proofs and events (12_object_dictionary_and_mailboxes.md R493 to R506, R520). -/

namespace Sys2Proof.Machine

/-- The value of an entry of 0x1100 or 0x1102 in effect since the last reset (R507). -/
def State.netVal (s : State) (k : Nat) : Nat := s.net.active.valAt (dictDefault k) k

/-- A TSN port is up. -/
def State.tsnUp (s : State) : TsnPort → Bool
  | .a => s.net.linkA
  | .b => s.net.linkB

/-- The number of a TSN port. -/
def tsnNo : TsnPort → Nat
  | .a => 0
  | .b => 1

/-- The module's VLAN tag with the priority of QOP, 0 untagged (Table 12-5). -/
def State.vlanTag (s : State) (pcp : Nat) : Nat := let v := s.netVal 0x110203; if v = 0 then 0 else pcp * 8192 + v

/-- The burst of a flow meter in millionths of a bit: 16 KiB (R497). [PRESUMED, unsafe, log entry 66] -/
abbrev meterBurst : Nat := 16384 * 8 * 1000000

/-- Bytes of a frame that carries so many bytes of UDP or ICMP payload: Ethernet, VLAN tag, IPv4 and 8-byte header. [PRESUMED, unsafe, log entry 66] -/
def State.frameBytes (s : State) (payload : Nat) (tagged : Bool) : Nat :=
  max 64 (14 + (if s.netVal 0x110203 = 0 then 0 else 4) + (if tagged then 6 else 0) + 20 + 8 + payload + 4)

/-- A frame of a class meets its port's meter (R497): it passes and is charged, or is dropped and counted. [PRESUMED, unsafe, log entry 66] -/
def State.meter (s : State) (port cls bytes : Nat) : State × Bool :=
  let k := port * 4 + cls
  let m := s.net.meters.valAt (meterBurst, s.now) k
  let level := min meterBurst (m.1 + (s.now - m.2) * s.dictVal (0x110401 + cls))
  let cost := bytes * 8 * 1000000
  if cost ≤ level then ({ s with net := { s.net with meters := s.net.meters.put k (level - cost, s.now) } }, true)
  else ({ s with net := { s.net with meters := s.net.meters.put k (level, s.now) } }.bump 0x610003, false)

/-- The header of a QOP frame (Table 12-2) with its value. -/
structure QopHead where
  type : Nat
  session : Nat
  status : Nat
  seq : Nat
  index : Nat
  sub : Nat
  flags : Nat
  value : List Byte
  deriving DecidableEq, Repr

/-- The bytes of a frame before its MAC. -/
def QopHead.bytes (h : QopHead) : List Byte :=
  beData [(2, 0x5146), (1, 1), (1, h.type), (2, h.session), (2, h.status), (4, h.seq), (2, h.index), (1, h.sub), (1, h.flags),
    (2, h.value.length), (6, 0)] ++ h.value

/-- The MAC of a frame under a session key (R501). -/
def QopHead.mac (h : QopHead) (key : List Byte) : List Byte := (hmac512 key (h.bytes ++ List.replicate 16 0)).take 16

/-- A big-endian field of a frame. -/
def beField (bs : List Byte) (o n : Nat) : Nat := beNat ((bs.drop o).take n)

/-- The TYPEs that a client sends (Table 12-3). -/
def clientTypes : List Nat := [0x01, 0x03, 0x05, 0x10, 0x11]

/-- A received payload as a frame, if it is one (R498). [DEDUCED, unsafe, log entry 67] -/
def qopParse (p : List Byte) : Option QopHead :=
  let len := beField p 16 2
  let h : QopHead := ⟨beField p 3 1, beField p 4 2, beField p 6 2, beField p 8 4, beField p 12 2, beField p 14 1, beField p 15 1, (p.drop 24).take len⟩
  if decide (40 ≤ p.length) && p.length == 40 + len && decide (len ≤ 1024) && beField p 0 2 == 0x5146 && beField p 2 1 == 1 &&
      clientTypes.contains h.type && h.flags / 2 == 0 && beField p 18 6 == 0 then some h
  else none

/-- The MAC that a payload carries. -/
def qopMac (p : List Byte) : List Byte := p.drop (p.length - 16)

/-- Change a session. -/
def State.setSession (s : State) (n : Nat) (x : QopSession) : State := { s with net := { s.net with sessions := s.net.sessions.put n x } }

/-- Send a frame of a session (R496, R501): on both ports with an R-TAG under FRER, else on port A, or on port B while port A is down. -/
def State.sendSession (s : State) (n : Nat) (x : QopSession) (h : QopHead) : State :=
  let mac := if h.type = 0x02 ∨ h.type = 0x7F then List.replicate 16 0 else h.mac x.key
  let body := h.bytes ++ mac
  let tag := s.vlanTag (s.netVal 0x110204)
  let out (s : State) (p : TsnPort) (r : Option Nat) : State := if s.tsnUp p then s.emit (.qop (tsnNo p) tag r x.ip.toNat x.udp.toNat body) else s
  if s.netVal 0x110202 = 1 then ((out (out s .a (some x.rtag)) .b (some x.rtag))).setSession n { x with rtag := (x.rtag + 1) % 65536 }
  else out s (if s.net.linkA then .a else .b) none

/-- Send an ERROR that belongs to no session (R499); under FRER the spec gives its R-TAG no counter. [DEDUCED, unsafe, log entry 67] -/
def State.sendError (s : State) (f : QopFrame) (seq : Nat) (st : Status) : State :=
  let body := (QopHead.mk 0x7F 0 st.toNat seq 0 0 0 []).bytes ++ List.replicate 16 0
  let tag := s.vlanTag (s.netVal 0x110204)
  let out (s : State) (p : TsnPort) (r : Option Nat) : State := if s.tsnUp p then s.emit (.qop (tsnNo p) tag r f.ip.toNat f.udp.toNat body) else s
  if s.netVal 0x110202 = 1 then let r := some (s.pick 0 % 65536); out (out s.draw .a r) .b r
  else out s (if s.net.linkA then .a else .b) none

/-- A session's slot is freed: its vote goes with it. -/
def State.dropSession (s : State) (n : Nat) : State :=
  { s with
    net := { s.net with sessions := s.net.sessions.del n }
    power := { s.power with votes := s.power.votes.del (32 + n) } }

/-- A write of the session waits for its record. -/
def State.awaited (s : State) (n : Nat) : Bool := s.net.writes.any fun w => match w.reply with | .qop m _ => m == n | _ => false

/-- A session ends with its CLOSE (R503): STATUS OK to the client's own CLOSE, else SESSION_CLOSED. -/
def State.endSession (s : State) (n : Nat) (st : Status) (seq : Nat) : State :=
  match s.net.sessions.look n with
  | none => s
  | some x => if x.opening then s.dropSession n else (s.sendSession n x ⟨0x05, x.number, st.toNat, seq, 0, 0, 0, []⟩).dropSession n

/-- A session closes; requests that it has in flight are replied to first (Table 12-12). [DEDUCED, unsafe, log entry 67] -/
def State.closeSession (s : State) (n : Nat) (st : Status) (seq : Nat) : State :=
  match s.net.sessions.look n with
  | none => s
  | some x => if s.awaited n then s.setSession n { x with closing := some st } else s.endSession n st seq

/-- A deferred close follows once nothing is awaited. -/
def State.settleClose (s : State) (n : Nat) : State :=
  match s.net.sessions.look n with
  | none => s
  | some x => match x.closing with
    | some st => if s.awaited n then s else s.endSession n st (if st = stOk then x.lastSeq.getD 0 else 0)
    | none => s

/-- Reply to a READ or WRITE (R504); a request with SEQ 0xFFFF_FFFF closes the session after its reply (R503). -/
def State.replyQop (s : State) (n seq index sub : Nat) (st : Status) (value : List Byte) : State :=
  match s.net.sessions.look n with
  | none => s
  | some x =>
    let s1 := s.sendSession n x ⟨0x12, x.number, st.toNat, seq, index, sub, 0, if st = stOk then value else []⟩
    if seq = 0xFFFFFFFF then s1.closeSession n stSessionClosed 0 else s1

/-- The slot of the session that a frame names and comes from (R502). -/
def State.sessionOf (s : State) (f : QopFrame) (number : Nat) (opening : Bool) : Option Nat :=
  (s.net.sessions.find? fun e =>
    e.2.number == number && e.2.opening == opening && e.2.ip == f.ip && e.2.udp == f.udp && e.2.closing.isNone).map (·.1)

/-- Numbers of the sessions that an R-TAG stream belongs to: the session named, or for OPEN_REQ the opening one of the same nonce. -/
def State.streamOf (s : State) (f : QopFrame) (h : QopHead) : Option Nat :=
  (s.net.sessions.find? fun e => e.2.ip == f.ip && e.2.udp == f.udp &&
    (if h.type = 1 then e.2.opening && (h.value.drop 2).take 32 == e.2.clientNonce else e.2.number == h.session)).map (·.1)

/-- Distance from R-TAG `b` to `a` in sequence order, as an integer in −32,768 to 32,767. -/
def tagAhead (a b : Nat) : Int :=
  let d := (a + 65536 - b) % 65536
  if d < 32768 then (d : Int) else (d : Int) - 65536

/-- What vector recovery with history length 32 makes of an R-TAG (R494, R496). -/
inductive TagVerdict where
  | take | copy | rogue
  deriving DecidableEq, Repr

/-- The verdict on an R-TAG: the history restarts after 100 ms without an accepted frame. [DEDUCED, unsafe, log entry 68] -/
def QopSession.judge (x : QopSession) (now tag : Nat) : TagVerdict :=
  match x.seen with
  | [] => .take
  | last :: _ =>
    if x.heard + 100000000 ≤ now then .take
    else if (tagAhead tag last).natAbs ≥ 32 then .rogue
    else if x.seen.contains tag then .copy
    else .take

/-- The session with an R-TAG noted. [DEDUCED, unsafe, log entry 68] -/
def QopSession.note (x : QopSession) (now tag : Nat) : QopSession :=
  let old := if x.heard + 100000000 ≤ now then [] else x.seen
  let top := match old with | last :: _ => if 0 ≤ tagAhead tag last then tag else last | [] => tag
  { x with seen := top :: (((tag :: old).filter fun t => t != top).filter fun t => decide ((tagAhead t top).natAbs < 32)) }

/-- Elimination of copies (R496), under FRER_ENABLE alone: the frame goes on, or is dropped; an eliminated copy is counted. [DEDUCED, unsafe, log entry 68] -/
def State.eliminate (s : State) (f : QopFrame) (h : QopHead) : State × Bool :=
  match (if s.netVal 0x110202 = 1 then f.rtag else none), s.streamOf f h with
  | some tag, some n =>
    match s.net.sessions.look n with
    | none => (s, true)
    | some x =>
      match x.judge s.now tag.toNat with
      | .copy => (s.bump 0x610004, false)
      | .rogue => (s, false)
      | .take => (s.setSession n (x.note s.now tag.toNat), true)
  | _, _ => (s, true)

/-- A QOP frame arrives (R496 to R498, R734): it is kept for the exit in Deep Sleep (R544), dropped before ready, metered, parsed, and its second copy eliminated. A frame of another TYPE than the row's is none of its own. -/
def State.qopFrame (s : State) (f : QopFrame) (type : Nat) (cmd : Instr) (k : State → QopHead → State) : Host.Outcome State Fault Refusal :=
  if !s.board.powered || !s.tsnUp f.port || !(s.board.ready || s.inRecovery) then .next s
  else if s.power.mode = 3 then
    (if f.port = .a then .next (s.holdFor cmd 0x03 (f.ip.toNat * 2 ^ 32)) else .next s)
  else if !s.mgmtUp then .next s
  else
    let other := match qopParse f.payload with | some h => h.type != type | none => false
    if other then .next s
    else
      let (s1, ok) := s.meter (tsnNo f.port) 2 (s.frameBytes f.payload.length f.rtag.isSome)
      if !ok then .next s1
      else match qopParse f.payload with
        | none => .next (s1.bump 0x610002)
        | some h => let (s2, go) := s1.eliminate f h; .next (if go then k s2 h else s2)

/-- A frame is dropped without reply (R502). -/
def State.authDrop (s : State) : State := s.bump 0x610005

/-- The key of a key slot, or SHA-512 of the password for 0xFF (R500). -/
def State.proofKey (s : State) (slot : Nat) : Option (List Byte) :=
  if slot = 0xFF then s.trust.password else (s.trust.slots.look slot).map (·.2)

/-- The place of a key slot among the locks: the password is slot 8. -/
def lockSlot (slot : Nat) : Nat := if slot = 0xFF then 8 else slot

/-- A session number that is free, and is not 0 (R499): the spec leaves the choice open. -/
def State.freeNumber (s : State) (start : Nat) : Nat :=
  let used := s.net.sessions.vals.map (·.number)
  (((List.range 9).map fun i => (start + i) % 65535 + 1).find? fun n => !used.contains n).getD 1

/-- A session slot that is free. -/
def State.freeSessionSlot (s : State) : Option Nat := s.net.sessions.freeFrom 8 0

/-- The stream of an OPEN_REQ begins with its R-TAG. -/
def firstTag (f : QopFrame) : List Nat := match f.rtag with | some t => [t.toNat] | none => []

/-- OPEN_REQ (R499). [DEDUCED, unsafe, log entry 67] -/
def State.openSession (s : State) (f : QopFrame) (h : QopHead) : State :=
  let slot := fieldAt h.value 0 1
  let events := fieldAt h.value 1 1
  if h.value.length ≠ 34 ∨ (7 < slot ∧ slot ≠ 0xFF) ∨ 1 < events ∨ h.session ≠ 0 then s.bump 0x610002
  else if qopMac f.payload ≠ List.replicate 16 0 then s.authDrop
  else
    let s1 := s.bump 0x610001
    match s1.freeSessionSlot with
    | none => s1.sendError f h.seq stQopSessionLimit
    | some n =>
      if (s1.proofKey slot).isNone then s1.sendError f h.seq stAuthFailed
      else if (s1.net.locked.look (lockSlot slot)).isSome then s1.sendError f h.seq stSlotLocked
      else
        let number := s1.freeNumber (s1.pick 0)
        let nonce := (List.range 32).map fun i => BitVec.ofNat 8 (s1.pick (1 + i))
        let x : QopSession := {
          number := number, opening := true, keySlot := slot, events := events == 1, clientNonce := h.value.drop 2, moduleNonce := nonce
          ip := f.ip, udp := f.udp, key := [], role := 0, lastSeq := none, eventSeq := 0, queue := [], lost := false, heard := s1.now
          idleMs := 0, rtag := 0, seen := firstTag f, closing := none }
        (s1.draw.setSession n x).sendSession n x ⟨0x02, number, 0, h.seq, 0, 0, 0, nonce⟩

/-- OPEN_REQ (R499). -/
def execOpenReq (f : QopFrame) (s : State) : Host.Outcome State Fault Refusal :=
  s.qopFrame f 0x01 (.openReq f) fun s h => s.openSession f h

/-- The proof of R500. -/
def State.proof (s : State) (x : QopSession) (key : List Byte) : List Byte :=
  hmac512 key (ascii "QOP1" ++ beBytes 1 x.keySlot ++ x.clientNonce ++ x.moduleNonce ++ sha512 s.trust.deviceId)

/-- A wrong proof (R502): the fifth on a key slot within 60 s locks it for 60 s. -/
def State.wrongProof (s : State) (slot : Nat) : State :=
  let k := lockSlot slot
  let times := ((s.net.failures.valAt [] k).filter fun t => decide (s.now < t + 60000000000)) ++ [s.now]
  let s1 := s.bump 0x610006
  if 5 ≤ times.length then
    { s1 with net := { s1.net with failures := s1.net.failures.del k, locked := s1.net.locked.put k (s1.now + 60000000000) } }
  else { s1 with net := { s1.net with failures := s1.net.failures.put k times } }

/-- OPEN_AUTH (R500 to R502). [DEDUCED, unsafe, log entry 67] -/
def State.authenticate (s : State) (f : QopFrame) (h : QopHead) : State :=
  match s.sessionOf f h.session true with
  | none => s.authDrop
  | some n =>
    match s.net.sessions.look n with
    | none => s
    | some x =>
      if qopMac f.payload ≠ List.replicate 16 0 then s.authDrop
      else
        let s1 := s.bump 0x610001
        let key := (s1.proofKey x.keySlot).getD []
        if h.value = s1.proof x key then
          let role := if x.keySlot = 0xFF then 0 else ((s1.trust.slots.look x.keySlot).map (·.1)).getD 0
          let y := { x with
            opening := false, role := role, key := hmac512 key (ascii "QOP1-S" ++ x.clientNonce ++ x.moduleNonce)
            lastSeq := some h.seq, heard := s1.now, idleMs := s1.dictVal 0x120002 }
          (s1.setSession n y).sendSession n y ⟨0x04, y.number, 0, h.seq, 0, 0, 0, leBytes 1 role⟩
        else
          let s2 := s1.sendSession n x ⟨0x7F, x.number, stAuthFailed.toNat, h.seq, 0, 0, 0, []⟩
          (s2.dropSession n).wrongProof x.keySlot

/-- OPEN_AUTH (R500). -/
def execOpenAuth (f : QopFrame) (s : State) : Host.Outcome State Fault Refusal :=
  s.qopFrame f 0x03 (.openAuth f) fun s h => s.authenticate f h

/-- A frame of an open session (R502): its MAC, its sender and its SEQ are judged; an accepted one is counted. [DEDUCED, unsafe, log entry 67] -/
def State.sessionFrame (s : State) (f : QopFrame) (h : QopHead) (k : State → Nat → QopSession → State) : State :=
  match s.sessionOf f h.session false with
  | none => s.authDrop
  | some n =>
    match s.net.sessions.look n with
    | none => s
    | some x =>
      let late := match x.lastSeq with | some q => decide (h.seq ≤ q) | none => false
      if qopMac f.payload ≠ (hmac512 x.key (f.payload.take (f.payload.length - 16) ++ List.replicate 16 0)).take 16 || late then s.authDrop
      else
        let y := { x with lastSeq := some h.seq, heard := s.now }
        k ((s.setSession n y).bump 0x610001) n y

/-- QOP CLOSE (R503): answered with CLOSE. -/
def execQopClose (f : QopFrame) (s : State) : Host.Outcome State Fault Refusal :=
  s.qopFrame f 0x05 (.qopClose f) fun s h => s.sessionFrame f h fun s n _ => s.closeSession n stOk h.seq

/-- Over QOP a numeric value is big-endian (R11), an octet string is as it stands. -/
def wireOrder (k : Nat) (v : List Byte) : List Byte :=
  match dictRow? k with
  | some r => if r.numeric then v.reverse else v
  | none => v

/-- QOP READ (R505). -/
def execQopRead (f : QopFrame) (s : State) : Host.Outcome State Fault Refusal :=
  s.qopFrame f 0x10 (.qopRead f) fun s h => s.sessionFrame f h fun s n x =>
    let k := h.index * 256 + h.sub
    let (s1, st, v) := s.readEntry ⟨x.role, some n⟩ k
    s1.replyQop n h.seq h.index h.sub st (wireOrder k v)

/-- QOP WRITE (R505). -/
def execQopWrite (f : QopFrame) (s : State) : Host.Outcome State Fault Refusal :=
  s.qopFrame f 0x11 (.qopWrite f) fun s h => s.sessionFrame f h fun s n x =>
    let k := h.index * 256 + h.sub
    let (s1, answer) := s.writeEntry ⟨x.role, some n⟩ k (wireOrder k h.value) (.qop n h.seq)
    match answer with
    | some (st, v) => s1.replyQop n h.seq h.index h.sub st (wireOrder k v)
    | none => s1

/-- Send the oldest event of a session (R506). -/
def State.sendEvent (s : State) (n : Nat) : State :=
  match s.net.sessions.look n with
  | none => s
  | some x =>
    match x.queue with
    | [] => s
    | e :: rest =>
      let y := { x with queue := rest, eventSeq := (x.eventSeq + 1) % 2 ^ 32, lost := false }
      (s.setSession n y).sendSession n y ⟨0x20, x.number, 0, y.eventSeq, 0, 0, if x.lost then 1 else 0, beData [(2, e.code.toNat), (8, e.tide)] ++ e.data⟩

/-- QOP_EVENT (R506): every open session with an unsent event sends its oldest. -/
def execQopEvent (s : State) : Host.Outcome State Fault Refusal :=
  if (s.board.ready || s.inRecovery) && s.mgmtUp && (s.net.linkA || s.net.linkB) then .next (s.net.sessions.keys.foldl State.sendEvent s)
  else .next s

/-- OPEN_TIMEOUT (R499): an opening session without a valid OPEN_AUTH for 1 s. -/
def execOpenTimeout (dt : Nat) (session : SessionNo) (s0 : State) : Host.Outcome State Fault Refusal :=
  let s := s0.elapse dt
  match s.net.sessions.look session.val with
  | some x => if s.mgmtUp && x.opening && decide (x.heard + 1000000000 ≤ s.now) then .next (s.dropSession session.val) else .next s
  | none => .next s

/-- SLOT_LOCK_EXPIRE (R502). -/
def execSlotLockExpire (dt : Nat) (slot : Fin 9) (s0 : State) : Host.Outcome State Fault Refusal :=
  let s := s0.elapse dt
  match s.net.locked.look slot.val with
  | some t => if t ≤ s.now then .next { s with net := { s.net with locked := s.net.locked.del slot.val } } else .next s
  | none => .next s

/-- SESSION_IDLE_TIMEOUT (R503). -/
def execSessionIdleTimeout (dt : Nat) (session : SessionNo) (s0 : State) : Host.Outcome State Fault Refusal :=
  let s := s0.elapse dt
  match s.net.sessions.look session.val with
  | some x =>
    if s.mgmtUp && !x.opening && x.closing.isNone && decide (x.heard + x.idleMs * 1000000 ≤ s.now) then
      .next (s.closeSession session.val stSessionClosed 0)
    else .next s
  | none => .next s

/-- A frame to the module's IPv4 address on a port passes the meter of the class of other frames and is answered on the port (R493, R497). -/
def State.answered (s : State) (port : TsnPort) (target : BitVec 32) (bytes kind : Nat) (fields : List Nat) : Host.Outcome State Fault Refusal :=
  if !s.board.powered || !(s.board.ready || s.inRecovery) || !s.mgmtUp || !s.tsnUp port || target.toNat ≠ s.netVal 0x110003 then .next s
  else
    let (s1, ok) := s.meter (tsnNo port) 3 bytes
    .next (if ok then s1.emit (.ether (tsnNo port) kind fields) else s1)

/-- ARP_REQUEST (R493): the answer carries the address and the port's MAC address. -/
def execArpRequest (port : TsnPort) (target : BitVec 32) (s : State) : Host.Outcome State Fault Refusal :=
  s.answered port target 64 0x0806 (target.toNat :: (s.dictOctVal (0x110001 + tsnNo port)).map (·.toNat))

/-- ICMP_ECHO (R493): the reply carries the request's data. -/
def execIcmpEcho (port : TsnPort) (target : BitVec 32) (data : List Byte) (s : State) : Host.Outcome State Fault Refusal :=
  s.answered port target (s.frameBytes data.length false) 0x0800 (data.map (·.toNat))

/-- TSN_LINK_CHANGE (R725, 0x1100.06): port B is off in Deep Sleep. -/
def execTsnLinkChange (port : TsnPort) (up : Bool) (s : State) : Host.Outcome State Fault Refusal :=
  if !s.board.powered then .next s
  else match port with
    | .a => .next { s with net := { s.net with linkA := up } }
    | .b => .next { s with net := { s.net with linkB := up && s.power.mode != 3 } }

end Sys2Proof.Machine
end

