-- ==== Sys2Proof/Machine/Mailbox.lean ====
section
/-! DEFINITION. Mailboxes: the channels, the commands of the management firmware and of Lighthouse, key slots, and peer messages (12_object_dictionary_and_mailboxes.md R508, R510 to R520). -/

namespace Sys2Proof.Machine

/-- The place of a channel of a function in the state; peer channels stand at 128 and 129. -/
def mbxKey (fn ch : Nat) : Nat := fn * 8 + ch

/-- A mailbox channel. -/
def State.channel (s : State) (k : Nat) : MbxChannel := s.mbx.valAt .reset k

/-- Change a mailbox channel. -/
def State.setChannel (s : State) (k : Nat) (x : MbxChannel) : State := { s with mbx := s.mbx.setAt .reset k x }

/-- MANAGEMENT of MBX_DOMAIN (R525): 0 READY, 1 ASLEEP, 2 RESET, 3 OFF. -/
def State.managementDomain (s : State) : Nat :=
  if !s.board.powered then 3 else if 3 ≤ s.power.mode ∧ s.power.mgmtAwake = false then 1 else if s.mgmtUp then 0 else 2

/-- LIGHTHOUSE of MBX_DOMAIN. -/
def State.lighthouseDomain (s : State) : Nat :=
  if !s.board.powered then 3 else if 3 ≤ s.power.mode then 1 else if s.board.ready || decide (1 < s.board.stage) then 0 else 2

/-- The state of a channel's target domain. -/
def State.targetDomain (s : State) (ch : Nat) : Nat := if ch < 4 then s.managementDomain else s.lighthouseDomain

/-- MBX_DOMAIN of a function: where its DROPS stand. -/
abbrev mbxDomainOff : Nat := 2 ^ 27 + 0x10800

/-- A write that is discarded because the target's domain is not READY (R518). -/
def State.mbxDrop (s : State) (fn : Nat) : State := (s.setReg fn mbxDomainOff (min 65535 (s.reg fn mbxDomainOff + 1))).bump 0x610008

/-- A write arrives on PF0's IDE stream in Secure state (R515). -/
def State.secureAccess (s : State) (viaIde : Bool) : Bool := viaIde && (s.ctx 0).ide.secure

/-- A write to a register of a channel (R510, R515, R518). -/
def State.channelWrite (s : State) (fn ch : Nat) (viaIde : Bool) (k : State → State) : State :=
  if 4 ≤ ch ∧ fn ≠ 0 then s
  else if 4 ≤ ch ∧ s.secureAccess viaIde = false then s.bump 0x710007
  else if s.targetDomain ch ≠ 0 then s.mbxDrop fn
  else k s

/-- The host's access to a register of a channel. -/
def State.channelAccess (s : State) (fn ch reg : Nat) (viaIde : Bool) (cmd : Instr) (k : State → State) : Host.Outcome State Fault Refusal :=
  s.hostAccess ⟨fn, .w2, 0x10000 + 0x100 * ch + reg, 4, true, false, cmd⟩ fun s => s.channelWrite fn ch viaIde k

/-- A write of MBX_OUT_CTRL (Table 12-8, R511, R516): with GO it sends; a GO with LEN outside 8 to 16 is ignored. [DEDUCED, unsafe, log entry 69] -/
def State.outCtrl (s : State) (k v : Nat) : State :=
  let x := s.channel k
  let len := bitsOf v 12 8
  let shown := if bitOf v 2 then false else x.outCollision
  if !bitOf v 0 then s.setChannel k { x with len := len, outCollision := shown }
  else if len < 8 ∨ 16 < len then s
  else
    let s1 := s.setChannel k { x with
      len := len, outMsg := (List.range len).map (x.stage.valAt 0), outSeq := x.outSeq + 1, outFull := true, outCollision := shown || x.outFull }
    if x.outFull then s1.bump 0x610007 else s1

/-- MBX_GO (R511). -/
def execMbxGo (fn : Fn) (ch : MbxNo) (value : BitVec 32) (viaIde : Bool) (s : State) : Host.Outcome State Fault Refusal :=
  s.channelAccess fn.val ch.val 0x40 viaIde (.mbxGo fn ch value viaIde) fun s => s.outCtrl (mbxKey fn.val ch.val) value.toNat

/-- A write of MBX_IN_CTRL (Table 12-9). [DEDUCED, unsafe, log entry 69] -/
def State.inCtrl (s : State) (k v : Nat) : State :=
  let x := s.channel k
  s.setChannel k { x with
    inVector := bitsOf v 7 3, inCollision := if bitOf v 2 then false else x.inCollision, inFull := if bitOf v 1 then false else x.inFull }

/-- MBX_IN_RELEASE (R516). -/
def execMbxInRelease (fn : Fn) (ch : MbxNo) (value : BitVec 32) (viaIde : Bool) (s : State) : Host.Outcome State Fault Refusal :=
  s.channelAccess fn.val ch.val 0xC0 viaIde (.mbxInRelease fn ch value viaIde) fun s => s.inCtrl (mbxKey fn.val ch.val) value.toNat

/-- MBX_DOMAIN as a function reads it (Table 12-11). -/
def State.mbxDomain (s : State) (fn : Nat) : Nat :=
  s.reg fn mbxDomainOff * 2 ^ 16 + (if fn = 0 then s.lighthouseDomain * 4 else 0) + s.managementDomain

/-- MBX_DOMAIN_READ (R517): DROPS clears. -/
def execMbxDomainRead (fn : Fn) (s : State) : Host.Outcome State Fault Refusal :=
  s.hostAccess ⟨fn.val, .w2, 0x10800, 4, false, false, .mbxDomainRead fn⟩ fun s =>
    (s.emit (.readData fn.val mbxDomainOff 4 (s.mbxDomain fn.val))).setReg fn.val mbxDomainOff 0

/-- Deliver a message to an inbound slot (R516): an unread one is overwritten; the vector is raised. -/
def State.deliverMail (s : State) (k : Nat) (words : List Nat) : State :=
  let x := s.channel k
  let s1 := s.setChannel k { x with inMsg := words, inSeq := x.inSeq + 1, inFull := true, inCollision := x.inCollision || x.inFull }
  let s2 := if x.inFull then s1.bump 0x610007 else s1
  if k < 128 ∧ 8 ≤ x.inVector then s2.emit (.msix (k / 8) x.inVector) else s2

/-- Reply on a channel (R512): STATUS and TOKEN, the words, and zeros up to 8 words. [DEDUCED, unsafe, log entry 69] -/
def State.mbxReply (s : State) (k token : Nat) (st : Status) (words : List Nat) : State :=
  let l := (st.toNat * 65536 + token) :: words
  s.deliverMail k (l ++ List.replicate (8 - l.length) 0)

/-- The commands of Table 12-10. -/
def mbxCommands : List Nat := [0x01, 0x02, 0x03, 0x40, 0x41, 0x42, 0x43]

/-- A message that a target has taken: channel key, function, channel, TOKEN, words. -/
structure MbxMail where
  key : Nat
  fn : Nat
  ch : Nat
  token : Nat
  words : List Nat
  deriving DecidableEq, Repr

/-- Word `i` of a message. -/
def MbxMail.word (m : MbxMail) (i : Nat) : Nat := (m.words[i]?).getD 0

/-- Little-endian bytes of the words from `i` on. -/
def MbxMail.bytes (m : MbxMail) (i n : Nat) : List Byte := ((m.words.drop i).flatMap fun w => leBytes 4 w).take n

/-- COMMAND of word 0. -/
def mbxCommand (words : List Nat) : Nat := bitsOf ((words[0]?).getD 0) 31 24

/-- A target that is READY takes a message with such a COMMAND (R511). -/
def State.takeMail (s : State) (fn ch : Nat) (p : Nat → Bool) (k : State → MbxMail → State) : Host.Outcome State Fault Refusal :=
  let key := mbxKey fn ch
  let x := s.channel key
  if (s.board.ready || s.inRecovery) && s.targetDomain ch == 0 && x.outFull && p (mbxCommand x.outMsg) then
    .next (k (s.setChannel key { x with outFull := false }) ⟨key, fn, ch, (x.outMsg[0]?).getD 0 % 65536, x.outMsg⟩)
  else .next s

/-- A message of a command that goes on these channels only (R512 step 2). -/
def State.onChannels (s : State) (m : MbxMail) (secure : Bool) (k : State → State) : State :=
  if decide (4 ≤ m.ch) != secure then s.mbxReply m.key m.token stMbxChannel [] else k s

/-- ECHO, and a COMMAND that Table 12-10 does not list (R512). -/
def execEcho (fn : Fn) (ch : MbxNo) (s : State) : Host.Outcome State Fault Refusal :=
  s.takeMail fn.val ch.val (fun c => c == 1 || !mbxCommands.contains c) fun s m =>
    if mbxCommand m.words ≠ 1 then s.mbxReply m.key m.token stMbxBadCommand []
    else s.onChannels m false fun s => s.mbxReply m.key m.token stOk (m.words.drop 1)

/-- The role of a mailbox access (R512). -/
def mbxRole (fn : Nat) : Nat := if fn = 0 then 1 else 0

/-- Words of little-endian bytes. -/
def wordsOf : Nat → List Byte → List Nat
  | 0, _ => []
  | _, [] => []
  | n + 1, bs => leNat (bs.take 4) :: wordsOf n (bs.drop 4)

/-- DICT_READ (R512): up to 56 bytes of the value from OFFSET. -/
def State.mbxRead (s : State) (m : MbxMail) : State :=
  let k := m.word 1 / 256
  let off := m.word 2
  let a : Asker := ⟨mbxRole m.fn, none⟩
  let total := match s.entryRow k with | some r => if r.access = .wo then 0 else (s.askedValue a r k).length | none => off
  if total < off then s.mbxReply m.key m.token stMbxBadLength []
  else
    let (s1, st, v) := s.readEntry a k
    if st ≠ stOk then s1.mbxReply m.key m.token st []
    else
      let part := (v.drop off).take 56
      s1.mbxReply m.key m.token stOk ((v.length * 65536 + part.length) :: wordsOf 14 part)

/-- DICT_READ (R512). -/
def execDictRead (fn : Fn) (ch : MbxNo) (s : State) : Host.Outcome State Fault Refusal :=
  s.takeMail fn.val ch.val (fun c => c == 2) fun s m => s.onChannels m false fun s => s.mbxRead m

/-- DICT_WRITE (R512). -/
def State.mbxWrite (s : State) (m : MbxMail) : State :=
  let k := m.word 1 / 256
  let len := bitsOf (m.word 2) 31 16
  if m.fn ≠ 0 then s.mbxReply m.key m.token stRoleDenied []
  else if 52 < len ∨ m.words.length < 3 + ceilDiv len 4 then s.mbxReply m.key m.token stMbxBadLength []
  else
    let (s1, answer) := s.writeEntry ⟨mbxRole m.fn, none⟩ k (m.bytes 3 len) (.mbx m.fn m.ch m.token)
    match answer with
    | some (st, _) => s1.mbxReply m.key m.token st (if st = stOk then [k * 256] else [])
    | none => s1

/-- DICT_WRITE (R512). -/
def execDictWrite (fn : Fn) (ch : MbxNo) (s : State) : Host.Outcome State Fault Refusal :=
  s.takeMail fn.val ch.val (fun c => c == 3) fun s m => s.onChannels m false fun s => s.mbxWrite m

/-- Answer a pending write: a key of 0 is a NET_RESET. -/
def State.answerWrite (s : State) (w : PendingWrite) : State :=
  match w.reply with
  | .mbx fn ch token => s.mbxReply (mbxKey fn ch) token stOk (if w.key = 0 then [] else [w.key * 256])
  | .qop n seq => (s.replyQop n seq (w.key / 256) (w.key % 256) stOk (wireOrder w.key w.value)).settleClose n

/-- RW_P_DURABLE (R508): the oldest pending write whose record is durable takes effect and is replied to. -/
def execRwPDurable (s : State) : Host.Outcome State Fault Refusal :=
  match s.net.writes with
  | w :: rest =>
    if s.dictServes && decide (w.record < s.journal.durable) then
      let s1 := { s with net := { s.net with writes := rest } }
      .next ((if w.key = 0 then s1 else s1.storeValue w.key w.value).answerWrite w)
    else .next s
  | [] => .next s

/-- Every session of a key slot closes (R503, R513). -/
def State.closeSlot (s : State) (slot : Nat) : State :=
  (s.net.sessions.keep fun _ x => x.keySlot == slot).keys.foldl (fun s n => s.closeSession n stSessionClosed 0) s

/-- Set or discard the partial key of a channel. -/
def State.setPart (s : State) (ch : Nat) (x : Option (Nat × Nat × List Byte)) : State :=
  { s with trust := { s.trust with parts := match x with | some y => s.trust.parts.put ch y | none => s.trust.parts.del ch } }

/-- A key command that breaks R513: any partial key of the channel is discarded. -/
def State.badKey (s : State) (m : MbxMail) : State := (s.setPart m.ch none).mbxReply m.key m.token stMbxBadCommand []

/-- KEY_SET (R513). -/
def State.setKey (s : State) (m : MbxMail) : State :=
  if m.words.length < 10 then s.mbxReply m.key m.token stMbxBadLength []
  else
    let slot := bitsOf (m.word 1) 31 24
    let role := bitsOf (m.word 1) 23 16
    let part := bitsOf (m.word 1) 15 8
    let key := m.bytes 2 32
    if 7 < slot ∨ 3 < role ∨ 1 < part then s.badKey m
    else match part, s.trust.parts.look m.ch with
      | 0, none => (s.setPart m.ch (some (slot, role, key))).mbxReply m.key m.token stOk []
      | 0, some _ => s.badKey m
      | _, none => s.badKey m
      | _, some (sl, ro, first) =>
        if sl = slot ∧ ro = role then
          let s1 := s.setPart m.ch none
          let s2 := { s1 with trust := { s1.trust with slots := s1.trust.slots.put slot (role, first ++ key) } }
          (s2.closeSlot slot).mbxReply m.key m.token stOk []
        else s.badKey m

/-- KEY_SET (R513). -/
def execKeySet (fn : Fn) (ch : MbxNo) (s : State) : Host.Outcome State Fault Refusal :=
  s.takeMail fn.val ch.val (fun c => c == 0x40) fun s m => s.onChannels m true fun s => s.setKey m

/-- KEY_CLEAR (R513). -/
def State.clearKey (s : State) (m : MbxMail) : State :=
  let slot := bitsOf (m.word 1) 31 24
  if 7 < slot then s.badKey m
  else
    let s1 := { s with trust := { s.trust with slots := s.trust.slots.del slot } }
    (s1.closeSlot slot).mbxReply m.key m.token stOk []

/-- KEY_CLEAR (R513). -/
def execKeyClear (fn : Fn) (ch : MbxNo) (s : State) : Host.Outcome State Fault Refusal :=
  s.takeMail fn.val ch.val (fun c => c == 0x41) fun s m => s.onChannels m true fun s => s.clearKey m

/-- PASSWORD_SET (R513, Table 12-13). [DEDUCED, unsafe, log entry 69] -/
def State.setPassword (s : State) (m : MbxMail) : State :=
  let n := m.word 1 % 256
  if n < 8 ∨ 48 < n then s.mbxReply m.key m.token stBadPassword []
  else if m.words.length < 2 + ceilDiv n 4 then s.mbxReply m.key m.token stMbxBadLength []
  else if !utf8 (m.bytes 2 n) then s.mbxReply m.key m.token stBadPassword []
  else
    let s1 := { s with trust := { s.trust with password := some (sha512 (m.bytes 2 n)) } }
    (s1.closeSlot 0xFF).mbxReply m.key m.token stOk []

/-- PASSWORD_SET (R513). -/
def execPasswordSet (fn : Fn) (ch : MbxNo) (s : State) : Host.Outcome State Fault Refusal :=
  s.takeMail fn.val ch.val (fun c => c == 0x42) fun s m => s.onChannels m true fun s => s.setPassword m

/-- NET_RESET (R514): its reply waits until the records are durable. [DEDUCED, unsafe, log entry 69] -/
def State.resetNet (s : State) (m : MbxMail) : State :=
  if m.word 1 ≠ 0x4E455452 then s.mbxReply m.key m.token stMbxBadCommand []
  else if !s.journal.canTake then s.mbxReply m.key m.token stPersistFailed []
  else s.netDefaults (.mbx m.fn m.ch m.token)

/-- NET_RESET (R514). -/
def execNetReset (fn : Fn) (ch : MbxNo) (s : State) : Host.Outcome State Fault Refusal :=
  s.takeMail fn.val ch.val (fun c => c == 0x43) fun s m => s.onChannels m true fun s => s.resetNet m

/-- PEER_MAIL (R519): a message of 8 to 16 words is delivered to a peer channel, which one the spec leaves open; while the management domain is not READY it is answered with MBX_DOMAIN_DOWN. A status of a message sent earlier ends with the firmware. [DEDUCED, safe, log entry 70] -/
def execPeerMail (s : State) : Host.Outcome State Fault Refusal :=
  match if s.board.ready && s.slackRuns then s.fab.inbox.find? fun e => e.2.type == 0x0032 else none with
  | none => .next s
  | some e =>
    let s1 := { s with fab := { s.fab with inbox := s.fab.inbox.erase e } }
    if e.2.body.length < 32 then .next s1
    else if s1.managementDomain ≠ 0 then .next (s1.sendTo e.2.src 0x0032 0 0 (beData [(2, stMbxDomainDown.toNat)])).1
    else .next (s1.draw.deliverMail (128 + s1.pick 0 % 2) (wordsOf 16 e.2.body))

end Sys2Proof.Machine
end

