-- ==== Sys2Proof/Machine/Boot.lean ====
section
/-! DEFINITION. The boot: verification of a slot, recovery, the journal's scan, settings and their migration, and what ready brings (17_firmware_images_and_journal.md R674 to R684; 19_module_connector_power_and_bring_up.md R732 to R734; 11 R483 to R487; 14 R569, R570). -/

namespace Sys2Proof.Machine

/-- The header of the slot that boots passes checks 2 to 8 (R669); of an image whose header the model does not hold the report says it. [DEDUCED, unsafe, log entry 65] -/
def State.slotHeaderOk (s : State) : Bool :=
  let h := (s.fw.slot s.fw.booting).header
  h.isEmpty || (s.headerFault h).isNone

/-- Every part of the slot that boots has its DIGEST. -/
def State.slotPartsOk (s : State) : Bool :=
  let x := s.fw.slot s.fw.booting
  x.header.isEmpty || x.badPart.isNone

/-- Records that the boot reads: the durable ones, and behind them those just queued. -/
def State.journalView (s : State) : List JournalRec := s.journal.records ++ s.journal.queued

/-- The journal is rebuilt (R681): torn records are skipped, a corrupt segment's scan ends early (`unread` are the SEQs it does not reach), what is not reached is lost. A DEFAULTS record follows RESTORE_DEFAULTS (R509). -/
def State.journalScan (s : State) (r : BootReport) : State :=
  let s1 := { s with journal := { s.journal with records := s.journal.records.filter fun x => !r.unread.contains x.seq, accepting := true } }
  let s2 := s1.bumpBy 0x820004 r.torn
  if s2.net.restore then { s2 with net := { s2.net with restore := false } }.journalPut 0x0B 0 [] else s2

/-- Segments of which the scan has ended early are counted and reported (R681). -/
def State.reportCorrupt (s : State) (segments : List Nat) : State :=
  segments.foldl (fun s seg => (s.raise stJournalCorrupt (beData [(2, seg)])).keepCounter 0x820005 1) s

/-- VALUE records that count: newer than the newest DEFAULTS record (Table 17-10). -/
def State.valueRecords (s : State) : List JournalRec :=
  let l := s.journalView
  (ofKind l 0x01).filter fun r => decide (defaultsSeq l < r.seq)

/-- One record of the journal is restored (Table 17-10, R684). -/
def State.restoreRecord (s : State) (r : JournalRec) : State :=
  match r.kind with
  | 0x03 => { s with power := { s.power with lastWake := BitVec.ofNat 256 (leNat r.payload) } }
  | 0x04 => s.setDict (r.key / 256) (leNat r.payload)
  | 0x05 => { s with limits := { s.limits with margin := s.limits.margin.setAt 0 r.key (leNat r.payload) } }
  | 0x06 => s.setCtx r.key { s.ctx r.key with gen := BitVec.ofNat 16 (leNat r.payload) }
  | _ => s

/-- The values, counters, margins, generations and the last-wake record of the journal are restored (R509, R681, R684). -/
def State.restoreSettings (s : State) : State :=
  let values := s.valueRecords.filter fun r => decide (r.schema ≤ s.schema)
  let s1 := s.journal.records.foldl State.restoreRecord s
  values.foldl (fun s r => s.storeValue (r.key / 256) r.payload) s1

/-- The epoch of this pair that the journal holds (R607). -/
def State.epochSeen (s : State) (pair : Nat) : Nat :=
  (((ofKind s.journal.records 0x07).filter fun r => r.key == pair).map fun r => leNat r.payload).foldl max 0

/-- The entries of 0x5000 and 0x5100 of which the value at reset stays in effect (R630). -/
def pairKeys : List Nat := [0x500001, 0x500002, 0x500003, 0x500005, 0x500007, 0x500008, 0x500009, 0x510001]

/-- The entries of 0x1100 and 0x1102 likewise (R507). -/
def netKeys : List Nat := [0x110003, 0x110004, 0x110005, 0x110201, 0x110202, 0x110203, 0x110204]

/-- The present values of some entries. -/
def State.latched (s : State) (keys : List Nat) : Store Nat :=
  keys.foldl (fun m k => m.setAt (dictDefault k) k (s.dictVal k)) []

/-- Settings that take effect at a reset do so: the pair's (R602, R630), the network's (R507), the cap (R557), FIXED voltage (R571), L of R137 and the Tide unit's (R93). -/
def State.latchSettings (s : State) : State :=
  let pair := { s.pair with
    settings := s.latched pairKeys, partnerMac := s.dictOctVal 0x500006, witnessMac := s.dictOctVal 0x510002
    place := if s.dictVal 0x500003 = 0 then s.board.slot else 0xFF, seen := s.epochSeen (s.dictVal 0x500002) }
  ({ s with
    pair := pair
    net := { s.net with active := s.latched netKeys }
    limits := { s.limits with cap := s.dictVal 0x210002, capSource := 0 }
    pm := { s.pm with localGib := s.dictVal 0x260001 } }).tideLatchSettings.restartFixed

/-- MARGIN_CLEAR takes effect (R570): records of 0 for every margin of the regions it named. -/
def State.applyMarginClear (s : State) : State :=
  let named := s.limits.margin.filter fun e => s.limits.marginClear.contains (e.1 / 8)
  let s1 := named.foldl (fun s e => s.journalPut 0x05 e.1 [0]) s
  { s1 with limits := { s1.limits with margin := named.foldl (fun m e => m.del e.1) s1.limits.margin, marginClear := [] } }

/-- The calibration record (R565, R569). -/
def State.calibrate (s : State) (cal : Option (List Nat × Nat)) : State :=
  match cal with
  | some (vt, base) =>
    { s with limits := { s.limits with
      vtable := ((vt.take 48).zipIdx.foldl (fun (m : Store Nat) x => m.setAt 840 x.2 x.1) []), pBase := base, calValid := true } }
  | none => { s with limits := { s.limits with vtable := [], pBase := 300, calValid := false } }.raise stCalInvalid []

/-- What a migration has counted: kept, moved, scaled, dropped. -/
structure MigrateCount where
  kept : Nat
  moved : Nat
  scaled : Nat
  dropped : Nat
  deriving DecidableEq, Repr

/-- The VALUE record of each KEY that a migration to the present schema carries over (R683). [DEDUCED, unsafe, log entry 63] -/
def State.migrants (s : State) : List JournalRec :=
  let readable := s.valueRecords.filter fun r => decide (r.schema ≤ s.schema)
  let min := hdrMinSchema (s.fw.slot s.fw.booting).header
  (newestPer (fun a b => a.key == b.key) readable).filter fun r => decide (r.schema < s.schema) && decide (min ≤ r.schema)

/-- The newest schema among the VALUE records. -/
def State.newestSchema (s : State) : Nat := (s.valueRecords.map (·.schema)).foldl max 0

/-- A value multiplied by a ratio under RNE and clamped to the new Range. -/
def scaleValue (r : DictRow) (v : List Byte) (num den : Nat) : List Byte :=
  let d := max 1 den
  let q := leNat v * num / d
  let rest := leNat v * num % d
  let up := decide (d < 2 * rest) || (2 * rest == d && q % 2 == 1)
  leBytes r.ty.size (min r.hi (max r.lo (if up then q + 1 else q)))

/-- The action on an entry: the KEY and value that it gives, none where it drops. -/
def migrateTo (act : MigrateAction) (k : Nat) (v : List Byte) : Option (Nat × List Byte) :=
  match act with
  | .keep => some (k, v)
  | .move k2 => some (k2, v)
  | .scale num den => (dictRow? k).map fun r => (k, scaleValue r v num den)
  | .drop => none

/-- Count an action that kept its value. -/
def MigrateCount.add (c : MigrateCount) : MigrateAction → MigrateCount
  | .keep => { c with kept := c.kept + 1 }
  | .move _ => { c with moved := c.moved + 1 }
  | .scale _ _ => { c with scaled := c.scaled + 1 }
  | .drop => { c with dropped := c.dropped + 1 }

/-- The value fits an RW-P entry of the present schema. -/
def State.migrates (s : State) (x : Nat × List Byte) : Bool :=
  match dictRow? x.1 with
  | some r => r.access = .rwp && r.lengthOk x.2.length && (s.valueRefusal r x.1 x.2).isNone
  | none => false

/-- One entry is migrated (R683): its result is written and stored; one that does not fit takes its default. -/
def State.migrateOne (table : List (Nat × MigrateAction)) (sc : State × MigrateCount) (r : JournalRec) : State × MigrateCount :=
  let k := r.key / 256
  let act := ((table.find? fun e => e.1 == k).map (·.2)).getD .keep
  let write (s : State) (k : Nat) (v : List Byte) : State := (s.storeValue k v).journalPut 0x01 (k * 256) v
  match migrateTo act k r.payload with
  | some x =>
    if sc.1.migrates x then (write sc.1 x.1 x.2, sc.2.add act)
    else (if (dictRow? k).isSome then write sc.1 k (defaultValue k) else sc.1, sc.2.add .drop)
  | none => (if (dictRow? k).isSome then write sc.1 k (defaultValue k) else sc.1, sc.2.add .drop)

/-- Settings migration (R683): the results, one MIGRATED record, SETTINGS_MIGRATED. [DEDUCED, unsafe, log entry 63] -/
def State.migrate (s : State) (table : List (Nat × MigrateAction)) : State :=
  let old := s.newestSchema
  let l := s.migrants
  if old = s.schema ∨ l.isEmpty then s
  else
    let (s1, c) := l.foldl (State.migrateOne table) (s, ⟨0, 0, 0, 0⟩)
    let s2 := s1.journalPut 0x0A s.schema ([c.kept, c.moved, c.scaled, c.dropped].flatMap (leBytes 4))
    ((s2.setDict 0x820006 (c.kept + c.moved + c.scaled)).setDict 0x820007 c.dropped).raise stSettingsMigrated
      (beData [(2, old), (2, s.schema), (4, c.dropped)])

/-- The last-wake record of a boot after a loss of the feed, or after Off or EOFF (R545, R715, R722). [DEDUCED, unsafe, log entry 65] -/
def State.bootWake (s : State) : State :=
  if s.board.lossWake then
    ({ s with board := { s.board with lossWake := false } }).recordWake 4 true ⟨9, 0xFF, 0xF, 0, s.tideNat, !s.tide.stepped⟩
  else match s.power.wake with
    | some w => s.recordWake 4 true w
    | none => s

/-- The boot fails verification (R674): of a pending slot it is tried again; the active slot's failure brings the recovery image, and that image's the end. -/
def State.bootFails (s : State) : State :=
  if s.fw.pending = some s.fw.booting then s.noteAttempt.moduleReset false
  else { s with board := { s.board with stage := 8 }, fw := { s.fw with mode := .recovery } }.raise stRecoveryMode (beData [(1, s.fw.active)])

/-- The boot is under way: it is neither over nor stopped. -/
def State.booting (s : State) : Bool :=
  s.board.powered && !s.board.ready && !s.board.bootWaits && !s.board.stuck && !s.board.lost && s.pair.role != .leaving

/-- Set BOOT_STAGE. -/
def State.setStage (s : State) (n : Nat) : State := { s with board := { s.board with stage := n } }

/-- Stage 3 ends (R681, R683): journal, settings, margins, calibration. A migration that cannot write fails the attempt of a pending slot. -/
def State.endStage3 (s : State) (r : BootReport) : State :=
  let s1 := s.journalScan r
  let s2 := s1.restoreSettings.reportCorrupt r.corrupt
  if s2.fw.pending = some s2.fw.booting ∧ s2.newestSchema ≠ s2.schema ∧ !s2.migrants.isEmpty ∧ !s2.journal.canTake then
    s2.noteAttempt.moduleReset false
  else (((((s2.migrate r.migration).applyMarginClear).calibrate r.calibration).latchSettings).bootWake).setStage 4

/-- The identity EEPROM is read (R719): with a bad checksum SERIAL is empty and the MAC addresses are the calibration region's. -/
def State.readIdentity (s : State) (id : Option BoardIdentity) : State :=
  match id with
  | some x =>
    let s1 := (((s.setDictOct 0x100003 x.serial).setDict 0x100004 x.revision.toNat).setDictOct 0x110001 x.macA).setDictOct 0x110002 x.macB
    { s1 with board := { s1.board with fruOk := true } }
  | none =>
    (((s.setDictOct 0x100003 []).setDictOct 0x110001 (Config.calMac 0)).setDictOct 0x110002 (Config.calMac 1)).raise stFruFault []

/-- The bank is measured (R723), in units of 0.1 mF. -/
def State.measureBank (s : State) (tenths : Nat) : State :=
  if tenths < 120 then s.raise stHoldupDegraded (beData [(2, tenths)])
  else { s with board := { s.board with holdupOk := true } }

/-- Measurement `t` + 2 of a boot (R668): the DIGEST of the part of TYPE `t` in the slot's header; of an image whose header the model does not hold the report's. -/
def State.partDigest (s : State) (l : List (List Byte)) (t : Nat) : List Byte :=
  match (hdrParts (s.fw.slot s.fw.booting).header).find? fun p => p.type == t && !(s.fw.slot s.fw.booting).header.isEmpty with
  | some p => p.digest
  | none => (l[t]?).getD []

/-- What the ROM measures (R483 step 2, Table 11-13): itself and the Lighthouse firmware. -/
def State.measureRom (s : State) (l : List (List Byte)) : State :=
  { s with trust := { s.trust with digests := [(1, Config.romDigest), (2, s.partDigest l 0)] } }

/-- What Lighthouse measures (R483 step 3). -/
def State.measureParts (s : State) (l : List (List Byte)) : State :=
  { s with trust := { s.trust with
    digests := (List.range 7).foldl (fun (m : Store (List Byte)) t => m.put (t + 3) (s.partDigest l (t + 1))) s.trust.digests } }

/-- IDENTITY_STATE (R487): no seed could be reconstructed, or the replay-protected area fails authentication. -/
def State.checkIdentity (s : State) (areaOk : Bool) : State :=
  { s with trust := { s.trust with fault := s.trust.seed.isNone || !areaOk } }

/-- Where measurement 2 differs from the one recorded, Lighthouse makes a new alias pair, certifies it with the DeviceID key and stores it wrapped under the alias wrapping key (R485); the pair is a random draw. -/
def State.makeAlias (s : State) : State :=
  let m2 := s.trust.digests.valAt [] 2
  if s.trust.fault || m2 == s.trust.measured then s
  else
    let pair := Config.rsaPair s.free
    let device := Config.unwrap (s.trust.derived 0 []) s.trust.deviceKey
    let wrapped := Config.wrap (s.trust.derived 2 m2) pair.2
    let chain := Config.factoryChain ++ Config.aliasCertificate device pair.1
    { s.draw with trust := { s.trust with aliasId := pair.1, aliasKey := wrapped, measured := m2, chain := chain } }.areaWrite 0 (chain ++ wrapped)

/-- In recovery the recovery image's journal and settings serve its dictionary (R677, R681). [DEDUCED, unsafe, log entry 64] -/
def State.recoveryBoot (s : State) (r : BootReport) : State :=
  if !r.verified then { s with board := { s.board with stage := 0, stuck := true } }
  else (((s.journalScan r).restoreSettings).reportCorrupt r.corrupt).latchSettings.readIdentity r.identity

/-- A stage of the boot ends (Table 19-8). [DEDUCED, unsafe, log entry 65] -/
def State.stageDone (s : State) (r : BootReport) : State :=
  match s.board.stage with
  | 0 => s.setStage 1
  | 1 =>
    let s1 := s.checkIdentity r.areaOk
    if r.verified && s1.slotHeaderOk then ((s1.measureRom r.digests).makeAlias).setStage 2 else s1.bootFails
  | 2 => if r.verified && s.slotHeaderOk && s.slotPartsOk then (s.measureParts r.digests).setStage 3 else s.bootFails
  | 3 => s.endStage3 r
  | 4 => s.setStage 5
  | 5 => (((s.readIdentity r.identity).measureBank r.bankTenths).startSweep 3).setStage 6
  | 6 => if s.integ.sweep.isNone then s.setStage 7 else s
  | 8 => if s.journal.accepting then s else s.recoveryBoot r
  | _ => s

/-- BOOT_STAGE_DONE (R733). -/
def execBootStageDone (dt : Nat) (report : BootReport) (s0 : State) : Host.Outcome State Fault Refusal :=
  let s := s0.elapse dt
  if s.booting then .next (s.stageDone report) else .next s

/-- The anti-rollback counters change by an authenticated write (R486). -/
def State.setCounters (s : State) (m : Store Nat) : State :=
  if m = s.trust.counters then s else { s with trust := { s.trust with counters := m } }.areaWrite 2 ((List.range 16).flatMap fun i => beBytes 4 (m.valAt 0 i))

/-- Counters 0 to 7 are raised to the manifest's SECURITY_VERSIONs; a counter is never lowered (R486, R676 step 2). -/
def State.raiseCounters (s : State) : State :=
  let h := (s.fw.slot s.fw.active).header
  if h.isEmpty then s
  else
    let up (m : Store Nat) (p : PartEntry) : Store Nat := m.setAt 0 p.type (max (m.valAt 0 p.type) p.security)
    s.setCounters ((hdrParts h).foldl up s.trust.counters)

/-- Counter 8 is raised by a revocation record signed under anchor 1 (R482, R676 step 3). [DEDUCED, unsafe, log entry 62] -/
def State.revokeAnchor (s : State) : State :=
  let h := (s.fw.slot s.fw.active).header
  if hdrRevoke h && hdrAnchor h == 1 then s.setCounters (s.trust.counters.setAt 0 8 1) else s

/-- FW_VERSION of both slots, the payload of an UPDATE record (Table 17-10). -/
def Firmware.versions (f : Firmware) : List Byte := leBytes 4 f.slotA.fwVersion ++ leBytes 4 f.slotB.fwVersion

/-- R676: the pending slot that has booted becomes the active one. -/
def State.confirmSlot (s : State) : State :=
  match if s.fw.pending = some s.fw.booting then s.fw.pending else none with
  | none => s.raiseCounters
  | some p =>
    let s1 := s.setFw { s.fw with active := p, pending := none, attempts := 0, mode := .idle }
    let s2 := (s1.raiseCounters).revokeAnchor
    (s2.journalPut 0x09 stActivated.toNat s2.fw.versions).raise stActivated (beData [(4, (s2.fw.slot p).fwVersion)])

/-- What earlier attempts left to report (R674, R675). -/
def State.reportAttempts (s : State) : State :=
  let s1 := s.fw.failed.foldl (fun s n => (s.raise stBootAttemptFailed (beData [(1, n)])).keepCounter 0x800009 1) s
  let s2 := match s1.fw.rolledBack with
    | some v => (s1.raise stRolledBack (beData [(4, v)])).keepCounter 0x80000B 1
    | none => s1
  { s2 with fw := { s2.fw with failed := [], rolledBack := none } }

/-- Ready (R732): READY, the pair role leaves INIT under Table 15-9, MODULE_READY. [DEDUCED, unsafe, log entry 65] -/
def State.becomeReady (s : State) : State :=
  let role : PairRole := if s.pairSetting 0x500001 = 1 then .init else .alone
  let s1 := s.enterRole role
  let s2 := { s1 with board := { s1.board with ready := true }, pair := { s1.pair with tsnHeard := s1.now, fabHeard := s1.now } }
  s2.raise stModuleReady (beData [(4, (s2.now - s2.board.bootAt) / 1000000), (1, s2.fw.booting)])

/-- MODULE_READY (R732, R676). -/
def execModuleReady (dt : Nat) (s0 : State) : Host.Outcome State Fault Refusal :=
  let s := s0.elapse dt
  if s.booting && s.board.stage == 7 then
    let s1 := s.becomeReady.confirmSlot.reportAttempts
    .next (if s1.board.eoffSeen then s1.raise stEoffRecorded [] else s1).settleHealth
  else .next s

end Sys2Proof.Machine
end

