-- ==== Sys2Proof/Machine/Board.lean ====
section
/-! DEFINITION. The connector's pins, the feed, cooling and module resets (19_module_connector_power_and_bring_up.md R713 to R723, R729, R735, R737, R741; 15 R626). -/

namespace Sys2Proof.Machine

/-- Change the board. -/
def State.setBoard (s : State) (b : Board) : State := { s with board := b }

/-- In role LEAVING no job, step or record of any context is left (Table 15-11): what was in flight is lost. [DEDUCED, unsafe, log entry 71] -/
def State.stopWork (s : State) : State :=
  let idle (h : RegionHolder) : RegionHolder := match h with | .job _ => .free | .serving _ => .free | h => h
  { s with
    jobs := []
    regions := s.regions.mapVals fun _ x => { x with holder := idle x.holder }
    serving := { s.serving with steps := [], rows := [] }
    video := { s.video with
      dec := s.video.dec.mapVals fun _ x => { x with core := none }
      enc := s.video.enc.mapVals fun _ x => { x with core := none, current := none } }
    pair := { s.pair with replays := [] }
    integ := { s.integ with windows := [] } }

/-- The lease is given up without RELEASE; heartbeats stop with the role (R626). [DEDUCED, unsafe, log entry 71] -/
def State.leaveRole (s : State) : State :=
  let s1 := s.enterRole .leaving
  { s1 with pair := { s1.pair with leaseEnd := s1.now, renews := [], claim := none, answers := [] } }

/-- The extraction sequence (Table 15-11, R714). In Deep Sleep MGMT wakes first. Before ready the boot stops, and the journal closes if stage 3 has begun (Table 19-11). [DEDUCED, unsafe, log entry 71] -/
def State.extract (s : State) : State :=
  let s1 := ({ s with power := { s.power with mgmtAwake := s.power.mode == 3 } }.stopWork.leaveRole).fabricOff
  let s2 := if !s1.board.ready && decide (3 ≤ s1.board.stage) then { s1 with journal := { s1.journal with accepting := true } } else s1
  s2.journalStop 1

/-- EXTRACT_N changes (R714): the edge to 0 starts the sequence; in Off and EOFF nothing happens. -/
def execExtractN (level : Bool) (s : State) : Host.Outcome State Fault Refusal :=
  let s1 := s.setBoard { s.board with extractN := level }
  if s.board.powered && s.power.mode != 4 && s.board.extractN && !level && s.pair.role != .leaving then .next s1.extract else .next s1

/-- The feed lies between the loss threshold and the over-voltage disconnect (Table 19-4). -/
def feedOk (mv : Nat) : Bool := decide (44000 ≤ mv) && decide (mv ≤ 66000)

/-- Power-on (R715, R721): the sequence starts from the converter; a wake after Off or EOFF is recorded during boot, its WAKE_TIDE counting from the restarted counter. [DEDUCED, unsafe, log entry 65] -/
def State.powerUp (s : State) (source : Option Nat) : State :=
  let w := source.map fun c => (⟨c, 0xFF, 0xF, 0, 0, true⟩ : WakeInfo)
  let s1 := ({ s with power := { s.power with wake := w } }).moduleReset true
  s1.setBoard { s1.board with eoffSeen := s.board.eoff, eoff := false, feedCycled := false }

/-- EOFF_N has read 1 for at least 100 ms (R715). -/
def State.eoffReleased (s : State) : Bool := s.board.eoffN && decide (s.board.eoffAt + 100000000 ≤ s.now)

/-- EOFF (R715): a level of 0 removes every power stage and is latched; no record is written. -/
def execEoff (dt : Nat) (level : Bool) (s0 : State) : Host.Outcome State Fault Refusal :=
  let s := s0.elapse dt
  if level then .next (s.setBoard { s.board with eoffN := true, eoffAt := if s.board.eoffN then s.board.eoffAt else s.now })
  else
    let s1 := s.powerOff
    .next { s1 with
      power := { s1.power with wake := none }
      board := { s1.board with eoffN := false, eoff := true, feedCycled := false } }

/-- WAKE_N (R541, R716): the edge to 0 wakes the module from Sleep and Deep Sleep, and starts power-on from Off and, once EOFF_N is released, from EOFF. -/
def execWakeN (dt : Nat) (level : Bool) (s0 : State) : Host.Outcome State Fault Refusal :=
  let s := s0.elapse dt
  let s1 := s.setBoard { s.board with wakeN := level }
  if level || !s.board.wakeN || !s.board.eoffN then .next s1
  else if !s.board.powered then
    if feedOk s.board.feedMv && (!s.board.eoff || s.eoffReleased) then .next (s1.powerUp (some 5)) else .next s1
  else if s.asleep then .next (s1.wakeBy 0x05 0xFF 0xF 0)
  else .next s1

/-- PERST_N is asserted (R717): a conventional reset of the endpoint. -/
def execPerstN (dt : Nat) (s0 : State) : Host.Outcome State Fault Refusal :=
  let s := s0.elapse dt
  if !s.board.perstN then .next s
  else
    let s1 := s.setBoard { s.board with perstN := false, perstAt := s.now }
    if s.board.powered && !s.board.bootWaits then .next s1.endpointReset else .next s1

/-- PERST_N_RELEASE (R717, R721): after 1 s or more a module reset; at power-on it lets the boot start. -/
def execPerstNRelease (dt : Nat) (s0 : State) : Host.Outcome State Fault Refusal :=
  let s := s0.elapse dt
  let s1 := s.setBoard { s.board with perstN := true }
  if s.board.perstN || !s.board.powered then .next s1
  else if s.board.bootWaits then .next s1.bootStart
  else if s.board.perstAt + 1000000000 ≤ s.now then .next ((s1.journalClose 3).moduleReset false)
  else .next s1

/-- PWR_RESET (R735): the value 0x5A5A_A5A5 from PF0 resets the module; any other is ignored. -/
def execPwrReset (dt : Nat) (fn : Fn) (value : BitVec 32) (s0 : State) : Host.Outcome State Fault Refusal :=
  (s0.elapse dt).regWrite fn.val 0x502008 false (.pwrReset 0 fn value) fun s =>
    if fn.val = 0 ∧ value = 0x5A5AA5A5 then (s.journalClose 3).moduleReset false else s

/-- SLOT_ID_CHANGE (R718): reported, with no other effect until the next module reset. -/
def execSlotIdChange (pins : Place) (s : State) : Host.Outcome State Fault Refusal :=
  let s1 := s.setBoard { s.board with slotPins := pins.val }
  if s.board.powered && s.board.slotPins != pins.val then .next (s1.raise stSlotIdChanged (beData [(1, s.board.slot), (1, pins.val)])) else .next s1

/-- FEED_RANGE (R720): between 44 V and 48 V, or 60 V and 66 V, for more than 1 ms, once per excursion. -/
def execFeedRange (milliVolt : BitVec 16) (s : State) : Host.Outcome State Fault Refusal :=
  let mv := milliVolt.toNat
  if !s.board.powered || s.board.lost || !feedOk mv then .next s
  else
    let out := decide (mv < 48000) || decide (60000 < mv)
    let s1 := s.setBoard { s.board with feedMv := mv, feedReported := out }
    .next (if out && !s.board.feedReported then s1.raise stFeedRange (beData [(2, mv)]) else s1)

/-- The feed is lost (R722): F = 0, picture starts and host DMA hold, the journal closes, FEED_LOST while port A is up. While the stages are off only its return can matter. -/
def State.loseFeed (s : State) (mv : Nat) : State :=
  let s1 := s.setBoard { s.board with feedMv := mv }
  if !s.board.powered then
    if s.board.eoff then s1.setBoard { s1.board with feedCycled := true } else s1.setBoard { s1.board with lossWake := true }
  else if s.board.lost then s1
  else
    let s2 := (s1.setBoard { s1.board with lost := true, lossWake := true }).noteStalls.journalStop 2
    let s2 := { s2 with power := { s2.power with reachedTide := s.tideNat, reachedPre := !s.tide.stepped } }
    if s2.net.linkA then s2.raise stFeedLost (beData [(2, min 65535 mv)]) else s2

/-- FEED_LOSS (R722): below 44.0 V for 50 µs. -/
def execFeedLoss (dt : Nat) (milliVolt : BitVec 16) (s0 : State) : Host.Outcome State Fault Refusal :=
  let s := s0.elapse dt
  if milliVolt.toNat < 44000 then .next (s.loseFeed milliVolt.toNat) else .next s

/-- OVER_VOLTAGE_DISCONNECT (Table 19-4): above 66 V for 1 ms, handled as a loss. -/
def execOverVoltageDisconnect (dt : Nat) (milliVolt : BitVec 32) (s0 : State) : Host.Outcome State Fault Refusal :=
  let s := s0.elapse dt
  if 66000 < milliVolt.toNat then .next (s.loseFeed milliVolt.toNat) else .next s

/-- FEED_RETURN (R722): the feed exceeds the start threshold within the hold-up: a module reset. -/
def execFeedReturn (dt : Nat) (milliVolt : BitVec 16) (s0 : State) : Host.Outcome State Fault Refusal :=
  let s := s0.elapse dt
  let mv := milliVolt.toNat
  if s.board.powered && s.board.lost && decide (46000 < mv) && feedOk mv then
    .next ((s.setBoard { s.board with feedMv := mv }).moduleReset false)
  else .next s

/-- BANK_DEPLETED (R722): below 30 V the stages switch off. -/
def execBankDepleted (dt : Nat) (s0 : State) : Host.Outcome State Fault Refusal :=
  let s := s0.elapse dt
  if s.board.powered && s.board.lost then .next s.powerOff else .next s

/-- POWER_ON (R721, R715): the feed exceeds the start threshold with EOFF_N at 1, having been below it; after EOFF it is the second half of a feed cycle. -/
def execPowerOn (dt : Nat) (milliVolt : BitVec 16) (s0 : State) : Host.Outcome State Fault Refusal :=
  let s := s0.elapse dt
  let mv := milliVolt.toNat
  let rises := decide (46000 < mv) && feedOk mv && !feedOk s.board.feedMv
  let s1 := s.setBoard { s.board with feedMv := mv }
  if s.board.powered || !rises then .next s
  else if !s.board.eoffN then .next s1
  else if s.board.eoff then (if s.board.feedCycled && s.eoffReleased then .next (s1.powerUp (some 9)) else .next s1)
  else .next (s1.powerUp none)

/-- The coolant lies outside Table 19-5 (R729). -/
def coolantOut (inlet : Int) (flow : Nat) : Bool := decide (inlet < 15) || decide (45 < inlet) || decide (flow < 20)

/-- COOLANT_SAMPLE (R729): an excursion of 1 s is reported once. -/
def execCoolantSample (dt : Nat) (inlet outlet : Int) (flow : Nat) (s0 : State) : Host.Outcome State Fault Refusal :=
  let s := s0.elapse dt
  if !s.board.powered then .next s
  else
    let out := coolantOut inlet flow
    let since := if out then some (s.board.coolantSince.getD s.now) else none
    let long := match since with | some t => decide (t + 1000000000 ≤ s.now) | none => false
    let s1 := s.setBoard { s.board with
      inletC := inlet, outletC := outlet, flow := flow, coolantSince := since, coolantReported := out && (s.board.coolantReported || long) }
    .next (if long && !s.board.coolantReported then s1.raise stCoolantRange (beData [(1, tempByte inlet), (1, flow)]) else s1)

end Sys2Proof.Machine
end

