-- ==== Sys2Proof/Machine/Registers.lean ====
section
/-! DEFINITION. Writes to registers that have no command of their own, and what every register of W0 and W2 reads (00_scope.md R12 to R15; 02 Table 2-6; 04 R183, R184; 05 R204, R205; 08 R315; 10 R443; 11 R446, R450, R459, R478; 12 R510, R515, R518; 13 R546; 14 R581; 15 R628; 16 R631 to R639, R650; 17 R670; 19 R734). -/

namespace Sys2Proof.Machine

/-- A 64-bit value with its low or high half replaced by a 32-bit word. -/
def setHalf (high : Bool) (old : BitVec 64) (v : Nat) : BitVec 64 :=
  if high then BitVec.ofNat 64 (old.toNat % 2 ^ 32 + v % 2 ^ 32 * 2 ^ 32) else BitVec.ofNat 64 (old.toNat / 2 ^ 32 * 2 ^ 32 + v % 2 ^ 32)

/-- Words of a command's staging registers as one record. -/
def State.staged (s : State) (fn base n : Nat) : Nat :=
  ((List.range n).map fun i => s.reg fn (base + 4 * i) % 2 ^ 32 * 2 ^ (32 * i)).sum

/-- A write to the CTRL register of a command path (Table 4-11): OVERRUN is W1C; GO starts `go` unless BUSY (R184). -/
def State.ctrlWrite (s : State) (kind fn v : Nat) (go : State → State) : State :=
  let p := s.path kind fn
  let s1 := if bitOf v 2 then { s with paths := s.paths.setAt .reset (pathKey kind fn) { p with overrun := false } } else s
  if bitOf v 0 then
    let r := s1.pathGo kind fn
    if r.2 then go r.1 else r.1
  else s1

/-- GO of SEC_CTX (R458, R459): the command is taken; an OPCODE it does not have ends at once. [DEDUCED, unsafe, log entry 14] -/
def State.secGo (s : State) : State :=
  let v := BitVec.ofNat 64 (s.staged 0 0x400100 2)
  if 1 ≤ secOpcode v ∧ secOpcode v ≤ 3 then { s with sched := { s.sched with command := some v } } else s.secDone stBadSecCommand

/-- GO of UPD (R670, R671). [DEDUCED, unsafe, log entry 14] -/
def State.updGo (s : State) : State :=
  let v := BitVec.ofNat 128 (s.staged 0 0x800000 4)
  if 1 ≤ updOpcode v ∧ updOpcode v ≤ 6 then { s with fw := { s.fw with command := some v } }
  else
    let r := s.updStateError
    r.1.updFinish r.2

/-- Registers of a queue pair (Table 5-9): bases and sizes are kept while ENABLE is 1, and a size outside 4 to 16 is ignored as a whole. -/
def QueueState.writeWord (x : QueueState) (reg v : Nat) : QueueState :=
  if reg = 0x18 then (if bitOf v 3 then { x with dbDrop := false } else x)
  else if x.enable then x
  else if reg = 0 ∨ reg = 4 then { x with sqBase := setHalf (reg == 4) x.sqBase v }
  else if reg = 8 ∨ reg = 0xC then { x with cqBase := setHalf (reg == 0xC) x.cqBase v }
  else if reg = 0x10 then
    let cq := bitsOf v 12 8
    let sq := bitsOf v 4 0
    if 4 ≤ cq ∧ cq ≤ 16 ∧ 4 ≤ sq ∧ sq ≤ 16 then { x with cqOrder := cq, sqOrder := sq } else x
  else x

/-- Registers of a descriptor ring (Tables 11-3 and 15-13): the base is kept while ENABLE is 1; DB_DROP is W1C. -/
def DmaRing.writeWord (x : DmaRing) (reg v : Nat) : DmaRing :=
  if reg = 0 ∨ reg = 4 then (if x.enable then x else { x with base := setHalf (reg == 4) x.base v })
  else if reg = 8 then x.control v
  else if reg = 0xC then (if bitOf v 3 then { x with dbDrop := false } else x)
  else x

/-- EVC_SLACK_CTRL (R650): each command bit in the order TRIGGER, RESUME, SCAN; CMD_STATUS keeps the status of the last; WFG_BUILD asks for a round. [DESIGN CHOICE, unsafe, log entry 11] -/
def State.slackCtrl (s : State) (v : Nat) : State :=
  let act (i : Nat) (op : State → State × Status) (s : State) : State :=
    if bitOf v i then
      let r := op s
      r.1.setSlack { r.1.obs.slack with status := r.2 }
    else s
  let s1 := act 2 State.slackScanOp (act 1 State.slackResumeOp (act 0 State.slackTriggerOp s))
  if bitOf v 3 then { s1 with obs := { s1.obs with wfgAsked := true } } else s1

/-- The other Slack registers (Table 16-9). [DEDUCED, unsafe, log entry 15] -/
def State.slackWord (s : State) (off v : Nat) : State :=
  let k := s.obs.slack
  match off with
  | 0x680000 => s.slackCtrl v
  | 0x680004 => s.setDict 0x660002 (v % 128)
  | 0x680018 => s.setSlack { k with atTide := setHalf false k.atTide v }
  | 0x68001C => s.setSlack { k with atTide := setHalf true k.atTide v }
  | 0x680020 => s.setSlack { k with matchReg := setHalf false k.matchReg v }
  | 0x680024 => s.setSlack { k with matchReg := setHalf true k.matchReg v &&& 0xFC00FFFFFFFFFFFF }
  | 0x680028 => s.setSlack { k with smatch := BitVec.ofNat 32 v &&& 0xFFF000FF }
  | 0x680030 => if v / 2 ^ 16 % 2 ^ 16 < 4096 then s.setSlack { k with capBase := BitVec.ofNat 32 v &&& 0xFFFF0000 } else s
  | _ => s

/-- A word of the MSI-X table (Table 11-1): what the PCIe specification gives it is stored; a change in a locked function puts its TDI in ERROR (R478). Vector Control resets to 1 (masked), and its other bits are reserved. [PRESUMED, unsafe, log entry 9] -/
def State.msixWord (s : State) (fn off v : Nat) : State :=
  let w := if off % 16 = 12 then 1 - v % 2 else v
  if s.reg fn off = w then s else (s.setReg fn off w).tdiError fn

/-- Registers at 0x0020_0000 to 0x0020_01FF: the page command and KV table paths and PGM_W4_BASE. -/
def State.pgmWord (s : State) (fn off v : Nat) : State :=
  if within off 0x200000 0x20 then s.setReg fn off v
  else if off = 0x200020 then s.ctrlWrite 0 fn v fun s => s.pageSubmit (.regs fn) (BitVec.ofNat 256 (s.staged fn 0x200000 8))
  else if off = 0x200030 then s.setReg fn off (v % 4)
  else if within off 0x200100 0x10 then s.setReg fn off v
  else if off = 0x200110 then s.ctrlWrite 1 fn v fun s => s.kvtGo fn (BitVec.ofNat 128 (s.staged fn 0x200100 4))
  else s

/-- Registers of PF0 alone: SEC_CTX, UPD and Slack. -/
def State.pf0Word (s : State) (off v : Nat) : State :=
  if off = 0x400100 then s.setReg 0 off (Nat.land v 0x00FF00FF)
  else if off = 0x400104 then s.setReg 0 off v
  else if off = 0x400108 then s.ctrlWrite 2 0 v State.secGo
  else if off = 0x800000 then s.setReg 0 off (v % 256)
  else if within off 0x800000 0x10 then s.setReg 0 off v
  else if off = 0x800010 then s.ctrlWrite 3 0 v State.updGo
  else s.slackWord off v

/-- Write a 32-bit word at an offset of W0: fields are stored or cleared as their access codes say (R12); reserved fields and undefined offsets ignore it (R13, R15). -/
def State.writeW0 (s : State) (fn off v : Nat) : State :=
  if within off 0x200000 0x200 then s.pgmWord fn off v
  else if within off 0x220000 0x200 then
    let q := (off - 0x220000) / 0x40
    s.setQueue fn q ((s.queue fn q).writeWord (off % 0x40) v)
  else if within off 0x240000 0x40 then
    let k := hostRing fn ((off - 0x240000) / 0x20)
    s.setRing k ((s.ring k).writeWord (off % 0x20) v)
  else if within off 0x701000 0x40 then
    let k := fabRing fn ((off - 0x701000) / 0x20)
    s.setRing k ((s.ring k).writeWord (off % 0x20) v)
  else if off = 0x701040 ∨ off = 0x701044 then
    s.setReg fn 0x701040 (setHalf (off == 0x701044) (BitVec.ofNat 64 (s.reg fn 0x701040)) v).toNat
  else if off = 0x675000 then s.setSnap fn ((s.snap fn).control v)
  else if within off 0x3FF0000 0x200 then s.msixWord fn off v
  else if fn = 0 then s.pf0Word off v
  else s

/-- Write a 32-bit word to a mailbox channel (Table 12-7): the outbound and inbound slots and SEQ are read-only. -/
def State.mbxWord (s : State) (fn off v : Nat) (viaIde : Bool) : State :=
  let ch := (off - 0x10000) / 0x100
  let reg := off % 0x100
  let k := mbxKey fn ch
  if reg < 0x40 then s.channelWrite fn ch viaIde fun s => s.setChannel k { s.channel k with stage := (s.channel k).stage.setAt 0 (reg / 4) v }
  else if reg = 0x40 then s.channelWrite fn ch viaIde fun s => s.outCtrl k v
  else if within reg 0x80 0x40 then s.channelWrite fn ch viaIde id
  else if reg = 0xC0 then s.channelWrite fn ch viaIde fun s => s.inCtrl k v
  else s

/-- Write a 32-bit word at an offset of W0 or W2; one that is not a multiple of 4 is undefined. -/
def State.writeWord (s : State) (fn : Nat) (w2 : Bool) (off v : Nat) (viaIde : Bool) : State :=
  if off % 4 ≠ 0 then s
  else if w2 then (if within off 0x10000 0x600 then s.mbxWord fn off v viaIde else s)
  else s.writeW0 fn off v

/-- The command that a 32-bit write at an offset of W0 is, where its register has a command of its own. -/
def rowOfW0 (fn : Fn) (off : Nat) (v : BitVec 32) : Option Instr :=
  let n := v.toNat
  if off % 4 ≠ 0 then none
  else if within off 0x220000 0x200 ∧ off % 0x40 = 0x14 then
    let q : Qn := Fin.ofNat 8 ((off - 0x220000) / 0x40)
    some (if bitOf n 0 then .queueEnable fn q (bitOf n 1) else .queueDisable fn q (bitOf n 1))
  else if within off 0x240000 0x40 ∧ off % 0x20 = 8 then
    let d : RingNo := Fin.ofNat 2 ((off - 0x240000) / 0x20)
    some (if bitOf n 0 then .dmaRingEnable fn d v else .dmaRingDisable fn d v)
  else if off = 0x400110 then some (.secSchedWrite fn v)
  else if off = 0x500000 then some (.pwrVoteWrite (.host fn) v)
  else if off = 0x501000 then some (.capWrite (.register fn) (n % 2048))
  else if off = 0x502008 then some (.pwrReset 0 fn v)
  else if within off 0x660000 0x10000 then
    some (.evcSelWrite fn (.block (BitVec.ofNat 12 ((off - 0x660000) / 0x10)) (Fin.ofNat 4 (off % 0x10 / 4))) v)
  else if within off 0x672000 0x2C0 then
    some (.evcSelWrite fn (.region (Fin.ofNat 11 ((off - 0x672000) / 0x40)) (Fin.ofNat 16 (off % 0x40 / 4))) v)
  else if within off 0x674800 0x100 then some (.evcSelWrite fn (.chip (Fin.ofNat 64 ((off - 0x674800) / 4))) v)
  else none

/-- The command that a 32-bit write at an offset of W2 is: the doorbells. -/
def rowOfW2 (fn : Fn) (off : Nat) (v : BitVec 32) : Option Instr :=
  if off % 4 ≠ 0 then none
  else if off < 0x80 ∧ off % 0x10 = 0 then some (.sqTail fn (Fin.ofNat 8 (off / 0x10)) (v.extractLsb' 0 16))
  else if off < 0x80 ∧ off % 0x10 = 4 then some (.cqHead fn (Fin.ofNat 8 (off / 0x10)) (v.extractLsb' 0 16))
  else if within off 0x1000 0x400 then some (.streamHead fn (Fin.ofNat 256 ((off - 0x1000) / 4)) (v.extractLsb' 0 16))
  else if within off 0x2000 0x200 then some (.eventHead fn (.dec (Fin.ofNat 128 ((off - 0x2000) / 4))) (v.extractLsb' 0 16))
  else if within off 0x2200 0x80 then some (.eventHead fn (.enc (Fin.ofNat 32 ((off - 0x2200) / 4))) (v.extractLsb' 0 16))
  else if within off 0x2280 0x80 then some (.outHead fn (Fin.ofNat 32 ((off - 0x2280) / 4)) v)
  else if within off 0x2400 0x200 then some (.outReturn fn (Fin.ofNat 128 ((off - 0x2400) / 4)) v)
  else if within off 0x3000 8 then some (.dmaTail fn (Fin.ofNat 2 ((off - 0x3000) / 4)) v)
  else if within off 0x3010 8 then some (.fabXferDoorbell fn (Fin.ofNat 2 ((off - 0x3010) / 4)) v)
  else none

/-- The command that a 32-bit write is. [DEDUCED, unsafe, log entry 10] -/
def rowOf (fn : Fn) (w2 : Bool) (off : Nat) (v : BitVec 32) : Option Instr := if w2 then rowOfW2 fn off v else rowOfW0 fn off v

/-- A host access other than a plain register write is performed as its command says. [DEDUCED, unsafe, log entry 10] -/
def hostCommand (c : Instr) (s : State) : Host.Outcome State Fault Refusal :=
  match c with
  | .evcTideNowLoRead fn => execEvcTideNowLoRead fn s
  | .w4Read fn off len => execW4Read fn off len s
  | .w4Write fn off bytes => execW4Write fn off bytes s
  | .pgmW4DropsRead fn => execPgmW4DropsRead fn s
  | .sqTail fn q v => execSqTail fn q v s
  | .cqHead fn q v => execCqHead fn q v s
  | .queueEnable fn q irq => execQueueEnable fn q irq s
  | .queueDisable fn q irq => execQueueDisable fn q irq s
  | .streamHead fn n v => execStreamHead fn n v s
  | .eventHead fn n v => execEventHead fn n v s
  | .outHead fn e v => execOutHead fn e v s
  | .outReturn fn n v => execOutReturn fn n v s
  | .dmaTail fn d v => execDmaTail fn d v s
  | .dmaRingEnable fn d v => execDmaRingEnable fn d v s
  | .dmaRingDisable fn d v => execDmaRingDisable fn d v s
  | .secSchedWrite fn v => execSecSchedWrite fn v s
  | .mbxGo fn ch v ide => execMbxGo fn ch v ide s
  | .mbxInRelease fn ch v ide => execMbxInRelease fn ch v ide s
  | .mbxDomainRead fn => execMbxDomainRead fn s
  | .pwrVoteWrite who v => execPwrVoteWrite who v s
  | .capWrite who w => execCapWrite who w s
  | .fabXferDoorbell fn d v => execFabXferDoorbell fn d v s
  | .evcSelWrite fn x v => execEvcSelWrite fn x v s
  | .evcCntLoRead fn x l => execEvcCntLoRead fn x l s
  | .evcSnapGo fn v => execEvcSnapGo fn v s
  | .slackTrigger who => execSlackTrigger who s
  | .slackResume who => execSlackResume who s
  | .slackScan who => execSlackScan who s
  | .pwrReset dt fn v => execPwrReset dt fn v s
  | _ => .next s

/-- A write starts work, so that a tray in role LEAVING discards it (R741): a GO, an ENABLE, a Slack command. -/
def writeStarts (w2 : Bool) (off v : Nat) : Bool :=
  !w2 && ((bitOf v 0 && ([0x200020, 0x200110, 0x400108, 0x800010].contains off || (within off 0x701000 0x40 && off % 0x20 == 8))) || off == 0x680000)

/-- A write of one 32-bit word: the command of its register, or a plain write. [DEDUCED, unsafe, log entry 10] -/
def State.wordWrite (s : State) (fn : Fn) (w2 : Bool) (off : Nat) (v : BitVec 32) (viaIde : Bool) : Host.Outcome State Fault Refusal :=
  match rowOf fn w2 off v with
  | some c => hostCommand c s
  | none =>
    s.hostAccess ⟨fn.val, if w2 then .w2 else .w0, off, 4, true, writeStarts w2 off v.toNat,
        .registerWrite fn (if w2 then .w2 else .w0) (BitVec.ofNat 28 off) (v.setWidth 64) false viaIde⟩ fun s =>
      s.writeWord fn.val w2 off v.toNat viaIde

/-- A write of a 64-bit value: its low word goes to the offset, its high word to the next. [DEDUCED, unsafe, log entry 10] -/
def State.wideWrite (s : State) (fn : Fn) (w2 : Bool) (off : Nat) (v : BitVec 64) (viaIde : Bool) : Host.Outcome State Fault Refusal :=
  let lo : BitVec 32 := v.extractLsb' 0 32
  let hi : BitVec 32 := v.extractLsb' 32 32
  if (rowOf fn w2 off lo).isSome || (rowOf fn w2 (off + 4) hi).isSome then
    match s.wordWrite fn w2 off lo viaIde with
    | .next s1 => s1.wordWrite fn w2 (off + 4) hi viaIde
    | o => o
  else
    let starts := writeStarts w2 off lo.toNat || writeStarts w2 (off + 4) hi.toNat
    s.hostAccess ⟨fn.val, if w2 then .w2 else .w0, off, 8, true, starts,
        .registerWrite fn (if w2 then .w2 else .w0) (BitVec.ofNat 28 off) v true viaIde⟩ fun s =>
      (s.writeWord fn.val w2 off lo.toNat viaIde).writeWord fn.val w2 (off + 4) hi.toNat viaIde

/-- A write to configuration space: VF Enable and the ASPM enables of PF0, Bus Master Enable of each function, whose change in a locked function puts its TDI in ERROR (R478). It is served in every power state (R542). [DESIGN CHOICE, unsafe, log entry 13] -/
def State.configWrite (s : State) (fn : Fn) (field v : Nat) : Host.Outcome State Fault Refusal :=
  if !s.fnPresent fn.val then .next s
  else
    let b := v % 2
    match field with
    | 0 =>
      if fn.val ≠ 0 ∨ s.config.valAt 0 0 = b then .next s
      else if b = 0 then execVfEnableClear s
      else .next { s with config := s.config.setAt 0 0 1 }
    | 1 =>
      let k := fn.val * 4 + 1
      if s.config.valAt 0 k = b then .next s else .next ({ s with config := s.config.setAt 0 k b }.tdiError fn.val)
    | 2 => if fn.val ≠ 0 then .next s else .next { s with config := s.config.setAt 0 2 b }
    | 3 => if fn.val ≠ 0 then .next s else .next { s with config := s.config.setAt 0 3 b }
    | _ => .next s

/-- A flag as a number. -/
def flag (b : Bool) : Nat := if b then 1 else 0

/-- CTRL and STATUS of a command path as they read (Tables 4-11 and 4-12). -/
def CmdPath.ctrl (p : CmdPath) : Nat := flag p.overrun * 4 + flag p.busy * 3
def CmdPath.stat (p : CmdPath) : Nat := p.seq.toNat * 2 ^ 16 + p.status.toNat

/-- The registers of a queue pair as they read (Tables 5-9 to 5-11). -/
def QueueState.readWord (x : QueueState) (reg : Nat) : Nat :=
  match reg with
  | 0 => x.sqBase.toNat % 2 ^ 32
  | 4 => x.sqBase.toNat / 2 ^ 32
  | 8 => x.cqBase.toNat % 2 ^ 32
  | 0xC => x.cqBase.toNat / 2 ^ 32
  | 0x10 => x.cqOrder * 2 ^ 8 + x.sqOrder
  | 0x14 => flag x.irqEn * 2 + flag x.enable
  | 0x18 => x.lastError.toNat * 2 ^ 16 + flag x.dbDrop * 8 + flag x.full * 4 + flag x.error * 2 + flag x.running
  | 0x1C => x.cqTail % 2 ^ 16 * 2 ^ 16 + x.sqHead % 2 ^ 16
  | _ => 0

/-- The registers of a descriptor ring as they read (Tables 11-4 and 11-5). -/
def DmaRing.readWord (x : DmaRing) (reg : Nat) : Nat :=
  match reg with
  | 0 => x.base.toNat % 2 ^ 32
  | 4 => x.base.toNat / 2 ^ 32
  | 8 => x.vector * 2 ^ 8 + x.order * 2 ^ 4 + flag x.enable
  | 0xC => x.lastError.toNat * 2 ^ 16 + x.head * 2 ^ 4 + flag x.dbDrop * 8 + flag x.error * 2 + flag x.running
  | _ => 0

/-- STATE of Table 11-8. -/
def ctxCode : CtxMode → Nat
  | .free => 0
  | .active => 1
  | .locked => 2
  | .teardown => 3
  | .scrub => 4

/-- SEC_CTX_SELF of a function (Table 11-8). -/
def State.ctxSelf (s : State) (fn : Nat) : Nat :=
  let x := s.ctx fn
  (if x.mode = .free then 0 else x.gen.toNat) * 2 ^ 16 + fn * 2 ^ 12 + flag x.ide.secure * 2 ^ 8 + tdiCode x.tdi * 2 ^ 6 + ctxCode x.mode

/-- SEC_CTX_ENTRY of a context (Table 11-7, R459). -/
def State.ctxEntry (s : State) (f : Nat) : Nat :=
  let x := s.ctx f
  let live := x.mode != .free
  flag live * x.quota.toNat * 2 ^ 32 + x.gen.toNat * 2 ^ 16 + flag live * x.weight.toNat * 2 ^ 12 + ctxCode x.mode

/-- PWR_REGION of a region (Table 14-9). [DEDUCED, unsafe, log entry 17] -/
def State.pwrRegion (s : State) (r : Nat) : Nat :=
  s.vLoNow r * 2 ^ 48 + s.vcompOf r * 2 ^ 32 + tempByte (s.junctionOf r) * 2 ^ 24 + s.bandOf r * 2 ^ 21 + flag (s.voltageOut r) * 2 ^ 15 +
    s.fOf r * 2 ^ 8 + flag (decide (s.limits.ceiling.valAt 900 r < 900) || decide (s.limits.fThermal.valAt 64 r < 64)) * 4 +
    flag s.limits.capBinding * 2 + flag (decide (s.limits.fRail.valAt 64 r < 64))

/-- FAB_PAIR as a function reads it (Table 15-14). [DEDUCED, unsafe, log entry 17] -/
def State.fabPair (s : State) (fn : Nat) : Nat :=
  let p := s.pair
  p.epoch % 2 ^ 32 * 2 ^ 32 + p.holder * 2 ^ 24 + p.place * 2 ^ 16 + flag (s.mirrored fn) * 2 ^ 12 +
    flag (decide (0 < p.fabHeard) && !p.fabLost) * 2 ^ 11 + flag (decide (0 < p.tsnHeard) && !p.tsnLost) * 2 ^ 10 + flag p.joinBlocked * 2 ^ 9 +
    s.pairSetting 0x510001 % 2 * 2 ^ 8 + roleCode p.role

/-- STATE of Table 15-13. -/
def portCode : PortMode → Nat
  | .down => 0
  | .training => 1
  | .up => 2
  | .testing => 3
  | .isolated => 4

/-- FAB_PORT of a port (Table 15-13). [DEDUCED, unsafe, log entry 16] -/
def State.fabPort (s : State) (k : Nat) : Nat :=
  let p := s.fab.ports.valAt .reset k
  min 65535 p.retries * 2 ^ 16 + p.peer * 2 ^ 8 + portCode p.mode

/-- EVC_SLACK_STATUS (Table 16-10). -/
def State.slackStatus (s : State) : Nat :=
  let k := s.obs.slack
  k.triggerId.toNat * 2 ^ 32 + k.status.toNat * 2 ^ 16 + k.hops * 2 ^ 8 + k.source * 2 ^ 4 + flag k.faultPending.isSome * 8 + slackCode k.mode

/-- UPD_STATE (Table 17-6). -/
def State.updStateReg (s : State) : Nat :=
  let f := s.fw
  f.received % 2 ^ 32 * 2 ^ 32 + f.reason * 2 ^ 24 + f.attempts * 2 ^ 16 + f.pending.getD 0 * 2 ^ 9 + f.active * 2 ^ 8 + updCode f.mode

/-- PWR_MODULE (Table 19-10). FEED_OK holds its reset value of 0 until the register is readable, at the end of stage 0 (Table 19-8). -/
def State.pwrModule (s : State) : Nat :=
  let b := s.board
  b.feedMv % 2 ^ 16 * 2 ^ 48 + tempByte b.inletC * 2 ^ 40 + tempByte b.outletC * 2 ^ 32 + b.flow % 256 * 2 ^ 24 + b.stage * 2 ^ 20 +
    b.slotPins * 2 ^ 14 + flag b.holdupOk * 2 ^ 9 + flag b.fruOk * 2 ^ 8 + flag b.eoffSeen * 2 ^ 4 + flag (!b.wakeN) * 8 +
    flag (!b.extractN) * 4 + flag (feedOk b.feedMv && b.stage != 0) * 2 + flag b.ready

/-- EVC_SNAP_CTRL of a function (Table 16-5). -/
def SnapBank.ctrl (x : SnapBank) : Nat :=
  x.seq.toNat * 2 ^ 16 + flag x.going.isSome * 2 ^ 15 + flag x.cfgErr * 2 ^ 14 + x.scope * 2 ^ 12 + x.target

/-- 32-bit registers of every function, by offset in W0. -/
def State.word32 (s : State) (fn off : Nat) : Nat :=
  let p0 := s.path 0 fn
  let p1 := s.path 1 fn
  match off with
  | 0x200020 => p0.ctrl
  | 0x200024 => p0.stat
  | 0x200030 => s.reg fn off
  | 0x200038 => if (s.ctx fn).mode = .free then 0 else (s.ctx fn).quota.toNat
  | 0x20003C => s.framesUsed fn (s.ctx fn).gen
  | 0x200040 => s.reg fn off
  | 0x200050 => if fn = 0 then s.retiredCount else 0
  | 0x200110 => p1.ctrl
  | 0x200114 => p1.stat
  | 0x400000 => s.ctxSelf fn
  | 0x500000 => (s.power.votes.valAt 0 fn).toNat
  | 0x500004 => s.power.mode * 2 ^ 16 + upDomains s.power.mode
  | 0x610008 => s.tide.status
  | 0x675000 => (s.snap fn).ctrl
  | _ =>
    if within off 0x200000 0x20 || within off 0x200100 0x10 then s.reg fn off
    else if within off 0x220000 0x200 then (s.queue fn ((off - 0x220000) / 0x40)).readWord (off % 0x40)
    else if within off 0x240000 0x40 then (s.ring (hostRing fn ((off - 0x240000) / 0x20))).readWord (off % 0x20)
    else if within off 0x701000 0x40 then (s.ring (fabRing fn ((off - 0x701000) / 0x20))).readWord (off % 0x20)
    else if within off 0x300000 0x200 then s.vidDstat fn ((off - 0x300000) / 4)
    else if within off 0x300200 0x80 then s.vidEstat fn ((off - 0x300200) / 4)
    else if within off 0x610040 0x18 then
      let x := s.tide.rates.valAt .reset ((off - 0x610040) / 4)
      x.window.toNat * 2 ^ 16 + x.rate.toNat
    else if within off 0x660000 0x10000 then
      (if isBlock ((off - 0x660000) / 0x10) then (s.obs.counters.valAt .reset ((off - 0x660000) / 4)).sel.toNat else 0)
    else if within off 0x672000 0x2C0 then (s.obs.counters.valAt .reset (0x10000 + (off - 0x672000) / 4)).sel.toNat
    else if within off 0x674800 0x100 then (s.obs.counters.valAt .reset (0x20000 + (off - 0x674800) / 4)).sel.toNat
    else if within off 0x3FF0000 0x200 then (if off % 16 = 12 then 1 - s.reg fn off % 2 else s.reg fn off)
    else 0

/-- 32-bit registers that only PF0 has, by offset in W0. -/
def State.word32Pf0 (s : State) (off : Nat) : Nat :=
  match off with
  | 0x400108 => (s.path 2 0).ctrl
  | 0x40010C => (s.path 2 0).stat
  | 0x400110 => s.sched.overrun * 2 ^ 24 + s.sched.quantum
  | 0x501000 => s.limits.capStatus.toNat * 2 ^ 16 + s.limits.cap
  | 0x680004 => s.dictVal 0x660002
  | 0x680028 => s.obs.slack.smatch.toNat
  | 0x680030 => s.obs.slack.capBase.toNat
  | 0x800010 => (s.path 3 0).ctrl
  | 0x800014 => (s.path 3 0).stat
  | _ =>
    if off = 0x400100 ∨ off = 0x400104 ∨ within off 0x800000 0x10 = true then s.reg 0 off
    else if within off 0x700100 0x40 then s.fabPort ((off - 0x700100) / 4)
    else if within off 0x690000 0x10000 then
      leNat (s.obs.capture.readN (s.obs.slack.capBase.toNat / 2 ^ 16 * 65536 + (off - 0x690000)) 4)
    else 0

/-- A counter word by offset in W0 (Table 16-1), 0 where the function may not see it (R639). -/
def State.counter64 (s : State) (fn off : Nat) : Option Nat :=
  if within off 0x620000 0x20000 then
    some (if isBlock ((off - 0x620000) / 0x20) then (s.counterWord fn ((off - 0x620000) / 8) false).toNat else 0)
  else if within off 0x640000 0x20000 then
    some (if isBlock ((off - 0x640000) / 0x20) then (s.counterWord fn ((off - 0x640000) / 8) true).toNat else 0)
  else if within off 0x670000 0x580 then some (s.counterWord fn (0x10000 + (off - 0x670000) / 8) false).toNat
  else if within off 0x671000 0x580 then some (s.counterWord fn (0x10000 + (off - 0x671000) / 8) true).toNat
  else if within off 0x674000 0x200 then some (s.counterWord fn (0x20000 + (off - 0x674000) / 8) false).toNat
  else if within off 0x674400 0x200 then some (s.counterWord fn (0x20000 + (off - 0x674400) / 8) true).toNat
  else none

/-- 64-bit registers by offset in W0; the 256-bit PWR_LAST_WAKE is four of them. -/
def State.word64 (s : State) (fn off : Nat) : Option Nat :=
  match off with
  | 0x200028 => some (s.path 0 fn).result.toNat
  | 0x200048 => some (if fn = 0 then s.freeFrames else 0)
  | 0x501200 => some ((s.ctx fn).energy / 1000)
  | 0x502000 => some (if fn = 0 then s.pwrModule else 0)
  | 0x610000 => some s.tideNat
  | 0x675008 => some (s.snap fn).tide.toNat
  | 0x680008 => some (if fn = 0 then s.slackStatus else 0)
  | 0x680010 => some (if fn = 0 then s.obs.slack.tide.toNat else 0)
  | 0x680018 => some (if fn = 0 then s.obs.slack.atTide.toNat else 0)
  | 0x680020 => some (if fn = 0 then s.obs.slack.matchReg.toNat else 0)
  | 0x700000 => some (s.fabPair fn)
  | 0x701040 => some (s.reg fn 0x701040)
  | 0x800018 => some (if fn = 0 then s.updStateReg else 0)
  | _ =>
    if within off 0x400200 0x80 then some (if fn = 0 then s.ctxEntry ((off - 0x400200) / 8) else 0)
    else if within off 0x500100 0x48 then some (if fn = 0 then s.voteMask ((off - 0x500100) / 8) else 0)
    else if within off 0x500200 0x20 then some (if fn = 0 then s.power.lastWake.toNat / 2 ^ (8 * (off - 0x500200)) % 2 ^ 64 else 0)
    else if within off 0x501100 0x30 then some (if fn = 0 then s.pwrRegion ((off - 0x501100) / 8) else 0)
    else if within off 0x676000 0x800 then some (((s.snap fn).data[(off - 0x676000) / 8]?).getD 0).toNat
    else s.counter64 fn off

/-- What a 64-bit read of W0 at a multiple of 8 returns, and what a 32-bit read returns: the high halves of EVC_TIDE_NOW and of the counters are those latched by the function's last read of a low half (R91, R637). Undefined offsets read 0 (R15). [DESIGN CHOICE, safe, log entry 12] -/
def State.readW0Word (s : State) (fn off : Nat) : Nat :=
  match s.word64 fn (off / 8 * 8) with
  | some v =>
    if off % 8 = 0 then v % 2 ^ 32
    else if off = 0x610004 then (s.tide.latch.valAt 0 fn).toNat
    else if (s.counter64 fn (off / 8 * 8)).isSome then (s.obs.latch.valAt 0 fn).toNat
    else v / 2 ^ 32
  | none => s.word32 fn off + if fn = 0 then s.word32Pf0 off else 0
def State.readW0Wide (s : State) (fn off : Nat) : Nat :=
  match s.word64 fn off with
  | some v => v
  | none => s.readW0Word fn off + s.readW0Word fn (off + 4) * 2 ^ 32

/-- A mailbox channel's registers as they read (Tables 12-7 to 12-9). -/
def MbxChannel.readWord (x : MbxChannel) (reg : Nat) : Nat :=
  if reg < 0x40 then x.stage.valAt 0 (reg / 4)
  else if reg = 0x40 then x.outSeq.toNat * 2 ^ 16 + x.len * 2 ^ 8 + flag x.outCollision * 4 + flag x.outFull * 3
  else if within reg 0x80 0x40 then (x.inMsg[(reg - 0x80) / 4]?).getD 0
  else if reg = 0xC0 then x.inSeq.toNat * 2 ^ 16 + x.inMsg.length * 2 ^ 8 + x.inVector * 2 ^ 3 + flag x.inCollision * 4 + flag x.inFull * 2
  else 0

/-- What a host read comes to: a value, a Completer Abort (R518), no answer yet while the module wakes (R542), or none at all. -/
inductive HostRead where
  | value (v : Nat)
  | abort
  | waits
  | noLink
  deriving DecidableEq, Repr

/-- The offsets of a mailbox channel at which Tables 12-7 to 12-9 place a register. -/
def channelReg (reg : Nat) : Bool := decide (reg < 0x44) || within reg 0x80 0x44

/-- A 32-bit read of W2: doorbells read 0 (R205); a channel whose target is not READY aborts (R518); a secure channel answers only PF0's IDE stream (R515). [PRESUMED, unsafe, log entry 9; DESIGN CHOICE, safe, log entry 12] -/
def State.readW2Word (s : State) (fn off : Nat) (viaIde : Bool) : HostRead :=
  if off = 0x10800 then .value (s.mbxDomain fn)
  else if within off 0x10000 0x600 then
    let ch := (off - 0x10000) / 0x100
    if 4 ≤ ch ∧ fn ≠ 0 then .value 0
    else if 4 ≤ ch ∧ s.secureAccess viaIde = false then .value 0
    else if s.targetDomain ch ≠ 0 then (if channelReg (off % 0x100) then .abort else .value 0)
    else .value ((s.channel (mbxKey fn ch)).readWord (off % 0x100))
  else .value 0

/-- What a 32-bit read of W0 or W2 at an offset returns now. [DESIGN CHOICE, safe, log entry 12] -/
def State.hostReads (s : State) (fn : Fn) (w2 : Bool) (off : Nat) (viaIde : Bool) : HostRead :=
  match s.gate ⟨fn.val, if w2 then .w2 else .w0, off, 4, false, false, .registerWrite fn .config 0 0 false viaIde⟩ with
  | .noLink => .noLink
  | .hold => .waits
  | .zero => .value 0
  | .dropped => .value 0
  | .allow => if off % 4 ≠ 0 then .value 0 else if w2 then s.readW2Word fn.val off viaIde else .value (s.readW0Word fn.val off)

/-- What a read clears: the fields with access code RC (R12), PGM_W4_DROPS, RETRIES of FAB_PORT and DROPS of MBX_DOMAIN. [DEDUCED, unsafe, log entry 16] -/
def State.readClears (s : State) (fn : Nat) (w2 : Bool) (off : Nat) : State :=
  if w2 then (if off = 0x10800 then s.setReg fn mbxDomainOff 0 else s)
  else if off = 0x200040 then s.setReg fn 0x200040 0
  else if fn = 0 ∧ within off 0x700100 0x40 = true ∧ off % 4 = 0 then
    let k := (off - 0x700100) / 4
    s.setPort k { s.port k with retries := 0 }
  else s

/-- The command that a 32-bit read at an offset is, where the register has one: a low half that latches its high half, a count that clears. [DESIGN CHOICE, safe, log entry 12] -/
def rowOfRead (fn : Fn) (w2 : Bool) (off : Nat) : Option Instr :=
  let block (base : Nat) (last : Bool) : Instr := .evcCntLoRead fn (.block (BitVec.ofNat 12 ((off - base) / 0x20)) (Fin.ofNat 4 (off % 0x20 / 8))) last
  let region (base : Nat) (last : Bool) : Instr := .evcCntLoRead fn (.region (Fin.ofNat 11 ((off - base) / 0x80)) (Fin.ofNat 16 (off % 0x80 / 8))) last
  let chip (base : Nat) (last : Bool) : Instr := .evcCntLoRead fn (.chip (Fin.ofNat 64 ((off - base) / 8))) last
  if w2 then (if off = 0x10800 then some (.mbxDomainRead fn) else none)
  else if off = 0x610000 then some (.evcTideNowLoRead fn)
  else if off = 0x200040 then some (.pgmW4DropsRead fn)
  else if off % 8 ≠ 0 then none
  else if within off 0x620000 0x20000 then some (block 0x620000 false)
  else if within off 0x640000 0x20000 then some (block 0x640000 true)
  else if within off 0x670000 0x580 then some (region 0x670000 false)
  else if within off 0x671000 0x580 then some (region 0x671000 true)
  else if within off 0x674000 0x200 then some (chip 0x674000 false)
  else if within off 0x674400 0x200 then some (chip 0x674400 true)
  else none

/-- The offset of a read lies at a counter, whose count is brought up to date first. [DEDUCED, unsafe, log entry 16] -/
def atCounter (w2 : Bool) (off : Nat) : Bool := !w2 && (within off 0x620000 0x40000 || within off 0x670000 0x4600)

/-- A host read that is performed: its value, or Completer Abort, goes to the function, and the fields it clears are cleared. [DESIGN CHOICE, safe, log entry 12; DEDUCED, unsafe, log entry 16] -/
def State.readRegister (s0 : State) (fn : Nat) (w2 : Bool) (off : Nat) (wide viaIde : Bool) : State :=
  let s := if atCounter w2 off then s0.observe else s0
  let clear (s : State) : State :=
    let s1 := s.readClears fn w2 off
    if wide then s1.readClears fn w2 (off + 4) else s1
  let size := if wide then 8 else 4
  let addr := if w2 then 2 ^ 27 + off else off
  let answer (v : HostRead) : State :=
    match v with
    | .value n => clear (s.emit (.readData fn addr size n))
    | .abort => s.emit (.completerAbort fn)
    | _ => s
  if off % size ≠ 0 then answer (.value 0)
  else if w2 then
    match s.readW2Word fn off viaIde with
    | .value lo => if wide then (match s.readW2Word fn (off + 4) viaIde with | .value hi => answer (.value (hi * 2 ^ 32 + lo)) | v => answer v) else answer (.value lo)
    | v => answer v
  else answer (.value (if wide then s.readW0Wide fn off else s.readW0Word fn off))

/-- A read of a register: the command of its own row, or a plain read. [DESIGN CHOICE, safe, log entry 12] -/
def State.registerRead (s : State) (fn : Fn) (w2 : Bool) (off : Nat) (wide viaIde : Bool) : Host.Outcome State Fault Refusal :=
  match if wide then none else rowOfRead fn w2 off with
  | some c => hostCommand c s
  | none =>
    s.hostAccess ⟨fn.val, if w2 then .w2 else .w0, off, if wide then 8 else 4, false, false,
        .registerWrite fn (if w2 then .readW2 else .readW0) (BitVec.ofNat 28 off) 0 wide viaIde⟩ fun s =>
      s.readRegister fn.val w2 off wide viaIde

/-- REGISTER_WRITE (R12): a host's access to a register; its access codes say what is stored or cleared by the write, and what by a read. -/
def execRegisterWrite (fn : Fn) (space : RegSpace) (offset : BitVec 28) (value : BitVec 64) (wide viaIde : Bool) (s : State) :
    Host.Outcome State Fault Refusal :=
  match space with
  | .config => s.configWrite fn offset.toNat (value.toNat % 2 ^ 32)
  | .w0 => if wide then s.wideWrite fn false offset.toNat value viaIde else s.wordWrite fn false offset.toNat (value.extractLsb' 0 32) viaIde
  | .w2 => if wide then s.wideWrite fn true offset.toNat value viaIde else s.wordWrite fn true offset.toNat (value.extractLsb' 0 32) viaIde
  | .readW0 => s.registerRead fn false offset.toNat wide viaIde
  | .readW2 => s.registerRead fn true offset.toNat wide viaIde

end Sys2Proof.Machine
end

