-- ==== Sys2Proof/Machine/PowerExit.lean ====
section
/-! DEFINITION. The end of an exit from Sleep or Deep Sleep (13_power_states_and_wake.md R542, R544, R545). -/

namespace Sys2Proof.Machine

/-- Perform a command that was held for the exit: a host access or a QOP frame. -/
def heldCommand (c : Instr) (s : State) : Host.Outcome State Fault Refusal :=
  match c with
  | .registerWrite fn space off v wide ide => execRegisterWrite fn space off v wide ide s
  | .openReq f => execOpenReq f s
  | .openAuth f => execOpenAuth f s
  | .qopClose f => execQopClose f s
  | .qopRead f => execQopRead f s
  | .qopWrite f => execQopWrite f s
  | c => hostCommand c s

/-- Perform held commands in arrival order. -/
def State.performHeld (s : State) : List Instr → Host.Outcome State Fault Refusal
  | [] => .next s
  | c :: cs =>
    match heldCommand c s with
    | .next s1 => s1.performHeld cs
    | o => o

/-- Take the held commands out and perform them. -/
def State.releaseHeld (s : State) : Host.Outcome State Fault Refusal :=
  { s with power := { s.power with held := [] } }.performHeld s.power.held

/-- POWER_EXIT_DONE (R545): the exit reaches Idle, the last-wake record is written, held accesses and frames are performed in arrival order (R542, R544). Where a chip-level fault has ended the exit (Table 13-10), only they are left to do. -/
def execPowerExitDone (dt : Nat) (s0 : State) : Host.Outcome State Fault Refusal :=
  let s := s0.elapse dt
  if !s.board.powered then .next s
  else if s.power.exiting.isSome then s.leaveSleep.releaseHeld
  else if !s.asleep then s.releaseHeld
  else .next s

end Sys2Proof.Machine
end

