-- ==== Sys2Proof/Machine/Dispatch.lean ====
section
/-! DEFINITION. The meaning of every command: one arm for each constructor of `Instr`, one direct call. -/

namespace Sys2Proof.Machine

def exec (i : Instr) (s : State) : Host.Outcome State Fault Refusal :=
  match i with
  | .d2dFlitRetry link flit => Sys2Proof.Machine.execD2dFlitRetry link flit s
  | .d2dLinkFailed link flit => Sys2Proof.Machine.execD2dLinkFailed link flit s
  | .regionFault r => Sys2Proof.Machine.execRegionFault r s
  | .evcTideNowLoRead fn => Sys2Proof.Machine.execEvcTideNowLoRead fn s
  | .w4Read fn off len => Sys2Proof.Machine.execW4Read fn off len s
  | .w4Write fn off bytes => Sys2Proof.Machine.execW4Write fn off bytes s
  | .pgmW4DropsRead fn => Sys2Proof.Machine.execPgmW4DropsRead fn s
  | .alloc src => Sys2Proof.Machine.execAlloc src s
  | .release src => Sys2Proof.Machine.execRelease src s
  | .releaseWaitEnd src => Sys2Proof.Machine.execReleaseWaitEnd src s
  | .share src => Sys2Proof.Machine.execShare src s
  | .copy src => Sys2Proof.Machine.execCopy src s
  | .pin src => Sys2Proof.Machine.execPin src s
  | .unpin src => Sys2Proof.Machine.execUnpin src s
  | .query src => Sys2Proof.Machine.execQuery src s
  | .zero src => Sys2Proof.Machine.execZero src s
  | .cowBreak job cva bytes => Sys2Proof.Machine.execCowBreak job cva bytes s
  | .cowCopyDone stall => Sys2Proof.Machine.execCowCopyDone stall s
  | .sqTail fn q value => Sys2Proof.Machine.execSqTail fn q value s
  | .cqHead fn q value => Sys2Proof.Machine.execCqHead fn q value s
  | .queueEnable fn q irqEn => Sys2Proof.Machine.execQueueEnable fn q irqEn s
  | .queueDisable fn q irqEn => Sys2Proof.Machine.execQueueDisable fn q irqEn s
  | .ringEntryFetch fn q => Sys2Proof.Machine.execRingEntryFetch fn q s
  | .nop fn q => Sys2Proof.Machine.execNop fn q s
  | .load fn q => Sys2Proof.Machine.execLoad fn q s
  | .run fn q => Sys2Proof.Machine.execRun fn q s
  | .unload fn q => Sys2Proof.Machine.execUnload fn q s
  | .pageEntry fn q => Sys2Proof.Machine.execPageEntry fn q s
  | .signal fn q => Sys2Proof.Machine.execSignal fn q s
  | .wait fn q => Sys2Proof.Machine.execWait fn q s
  | .completionRecordWrite fn q => Sys2Proof.Machine.execCompletionRecordWrite fn q s
  | .matmul job op => Sys2Proof.Machine.execMatmul job op s
  | .conv2d job op => Sys2Proof.Machine.execConv2d job op s
  | .conv2dGrouped job op => Sys2Proof.Machine.execConv2dGrouped job op s
  | .maxpool2d job op => Sys2Proof.Machine.execMaxpool2d job op s
  | .avgpool2d job op => Sys2Proof.Machine.execAvgpool2d job op s
  | .attention job op => Sys2Proof.Machine.execAttention job op s
  | .layernorm job op => Sys2Proof.Machine.execLayernorm job op s
  | .rmsnorm job op => Sys2Proof.Machine.execRmsnorm job op s
  | .softmax job op => Sys2Proof.Machine.execSoftmax job op s
  | .groupnorm job op => Sys2Proof.Machine.execGroupnorm job op s
  | .rope job op => Sys2Proof.Machine.execRope job op s
  | .embedGather job op => Sys2Proof.Machine.execEmbedGather job op s
  | .topk job op => Sys2Proof.Machine.execTopk job op s
  | .sample job op => Sys2Proof.Machine.execSample job op s
  | .argmax job op => Sys2Proof.Machine.execArgmax job op s
  | .resize job op => Sys2Proof.Machine.execResize job op s
  | .colorConvert job op => Sys2Proof.Machine.execColorConvert job op s
  | .convert job op => Sys2Proof.Machine.execConvert job op s
  | .transpose job op => Sys2Proof.Machine.execTranspose job op s
  | .reduce job op => Sys2Proof.Machine.execReduce job op s
  | .concat job op => Sys2Proof.Machine.execConcat job op s
  | .map job op => Sys2Proof.Machine.execMap job op s
  | .kvtRead fn => Sys2Proof.Machine.execKvtRead fn s
  | .kvCreate c g => Sys2Proof.Machine.execKvCreate c g s
  | .kvExtend table tcode fmt => Sys2Proof.Machine.execKvExtend table tcode fmt s
  | .kvWrite table layer rows => Sys2Proof.Machine.execKvWrite table layer rows s
  | .kvAdvance table n => Sys2Proof.Machine.execKvAdvance table n s
  | .kvFork table kind p => Sys2Proof.Machine.execKvFork table kind p s
  | .kvTruncate table p => Sys2Proof.Machine.execKvTruncate table p s
  | .kvReplace table span spans wait => Sys2Proof.Machine.execKvReplace table span spans wait s
  | .kvDestroy table => Sys2Proof.Machine.execKvDestroy table s
  | .specOpen table n => Sys2Proof.Machine.execSpecOpen table n s
  | .commit table c => Sys2Proof.Machine.execCommit table c s
  | .rollback table => Sys2Proof.Machine.execRollback table s
  | .editPendingExecute table => Sys2Proof.Machine.execEditPendingExecute table s
  | .modelBind fn q => Sys2Proof.Machine.execModelBind fn q s
  | .modelUnbind fn q => Sys2Proof.Machine.execModelUnbind fn q s
  | .modelUnbindDone c slot => Sys2Proof.Machine.execModelUnbindDone c slot s
  | .customerSet fn q => Sys2Proof.Machine.execCustomerSet fn q s
  | .submit fn q => Sys2Proof.Machine.execSubmit fn q s
  | .cancel fn q => Sys2Proof.Machine.execCancel fn q s
  | .adapterLoad fn q => Sys2Proof.Machine.execAdapterLoad fn q s
  | .adapterRetire fn q => Sys2Proof.Machine.execAdapterRetire fn q s
  | .adapterForceDone gen => Sys2Proof.Machine.execAdapterForceDone gen s
  | .adapterGenFree gen => Sys2Proof.Machine.execAdapterGenFree gen s
  | .streamOpen fn q => Sys2Proof.Machine.execStreamOpen fn q s
  | .streamClose fn q => Sys2Proof.Machine.execStreamClose fn q s
  | .streamCloseDone c stream => Sys2Proof.Machine.execStreamCloseDone c stream s
  | .reqRead fn q => Sys2Proof.Machine.execReqRead fn q s
  | .servingRegionsTake c => Sys2Proof.Machine.execServingRegionsTake c s
  | .samplerRow => Sys2Proof.Machine.execSamplerRow s
  | .streamRecordWrite c stream => Sys2Proof.Machine.execStreamRecordWrite c stream s
  | .streamHead fn stream value => Sys2Proof.Machine.execStreamHead fn stream value s
  | .requestFree req => Sys2Proof.Machine.execRequestFree req s
  | .vdecOpen fn q => Sys2Proof.Machine.execVdecOpen fn q s
  | .vdecFeed fn q => Sys2Proof.Machine.execVdecFeed fn q s
  | .vdecFeedDone c slot => Sys2Proof.Machine.execVdecFeedDone c slot s
  | .vdecClose fn q => Sys2Proof.Machine.execVdecClose fn q s
  | .vdecCloseDone c slot => Sys2Proof.Machine.execVdecCloseDone c slot s
  | .vencOpen fn q => Sys2Proof.Machine.execVencOpen fn q s
  | .vencFrame fn q => Sys2Proof.Machine.execVencFrame fn q s
  | .vencClose fn q => Sys2Proof.Machine.execVencClose fn q s
  | .vencCloseDone c e => Sys2Proof.Machine.execVencCloseDone c e s
  | .vencRate fn q => Sys2Proof.Machine.execVencRate fn q s
  | .eventHead fn session value => Sys2Proof.Machine.execEventHead fn session value s
  | .outHead fn e value => Sys2Proof.Machine.execOutHead fn e value s
  | .outReturn fn slot value => Sys2Proof.Machine.execOutReturn fn slot value s
  | .decodeOutput c slot => Sys2Proof.Machine.execDecodeOutput c slot s
  | .eventRecordWrite c session => Sys2Proof.Machine.execEventRecordWrite c session s
  | .flr fn => Sys2Proof.Machine.execFlr fn s
  | .vfEnableClear => Sys2Proof.Machine.execVfEnableClear s
  | .endpointReset => Sys2Proof.Machine.execEndpointReset s
  | .dmaTail fn d value => Sys2Proof.Machine.execDmaTail fn d value s
  | .dmaRingEnable fn d value => Sys2Proof.Machine.execDmaRingEnable fn d value s
  | .dmaRingDisable fn d value => Sys2Proof.Machine.execDmaRingDisable fn d value s
  | .dmaDescriptorStart fn d => Sys2Proof.Machine.execDmaDescriptorStart fn d s
  | .dmaDescriptorDone fn d outcome => Sys2Proof.Machine.execDmaDescriptorDone fn d outcome s
  | .ctxCreate => Sys2Proof.Machine.execCtxCreate s
  | .ctxDestroy => Sys2Proof.Machine.execCtxDestroy s
  | .ctxSet => Sys2Proof.Machine.execCtxSet s
  | .secSchedWrite fn value => Sys2Proof.Machine.execSecSchedWrite fn value s
  | .teardown c => Sys2Proof.Machine.execTeardown c s
  | .lateCompletion c => Sys2Proof.Machine.execLateCompletion c s
  | .tlpReceive fn posted onStream => Sys2Proof.Machine.execTlpReceive fn posted onStream s
  | .keyProg c set tx sub key => Sys2Proof.Machine.execKeyProg c set tx sub key s
  | .kSetGo c set => Sys2Proof.Machine.execKSetGo c set s
  | .ideIntegrityFailure c => Sys2Proof.Machine.execIdeIntegrityFailure c s
  | .tdispGetVersion fn => Sys2Proof.Machine.execTdispGetVersion fn s
  | .tdispGetCapabilities fn => Sys2Proof.Machine.execTdispGetCapabilities fn s
  | .lockInterfaceRequest fn => Sys2Proof.Machine.execLockInterfaceRequest fn s
  | .getDeviceInterfaceReport fn => Sys2Proof.Machine.execGetDeviceInterfaceReport fn s
  | .getDeviceInterfaceState fn => Sys2Proof.Machine.execGetDeviceInterfaceState fn s
  | .startInterfaceRequest fn => Sys2Proof.Machine.execStartInterfaceRequest fn s
  | .stopInterfaceRequest fn => Sys2Proof.Machine.execStopInterfaceRequest fn s
  | .tdispUnsupported fn code => Sys2Proof.Machine.execTdispUnsupported fn code s
  | .tdiConfigChange fn => Sys2Proof.Machine.execTdiConfigChange fn s
  | .spdmNegotiateAlgorithms matching => Sys2Proof.Machine.execSpdmNegotiateAlgorithms matching s
  | .spdmGetCertificate slot => Sys2Proof.Machine.execSpdmGetCertificate slot s
  | .spdmChallenge slot => Sys2Proof.Machine.execSpdmChallenge slot s
  | .spdmGetMeasurements index => Sys2Proof.Machine.execSpdmGetMeasurements index s
  | .spdmKeyExchange session => Sys2Proof.Machine.execSpdmKeyExchange session s
  | .spdmSessionEnd session => Sys2Proof.Machine.execSpdmSessionEnd session s
  | .openReq f => Sys2Proof.Machine.execOpenReq f s
  | .openAuth f => Sys2Proof.Machine.execOpenAuth f s
  | .qopClose f => Sys2Proof.Machine.execQopClose f s
  | .qopRead f => Sys2Proof.Machine.execQopRead f s
  | .qopWrite f => Sys2Proof.Machine.execQopWrite f s
  | .qopEvent => Sys2Proof.Machine.execQopEvent s
  | .arpRequest port target => Sys2Proof.Machine.execArpRequest port target s
  | .icmpEcho port target data => Sys2Proof.Machine.execIcmpEcho port target data s
  | .gclConfigChange => Sys2Proof.Machine.execGclConfigChange s
  | .rwPDurable => Sys2Proof.Machine.execRwPDurable s
  | .restoreDefaults => Sys2Proof.Machine.execRestoreDefaults s
  | .mbxGo fn ch value viaIde => Sys2Proof.Machine.execMbxGo fn ch value viaIde s
  | .mbxInRelease fn ch value viaIde => Sys2Proof.Machine.execMbxInRelease fn ch value viaIde s
  | .mbxDomainRead fn => Sys2Proof.Machine.execMbxDomainRead fn s
  | .echo fn ch => Sys2Proof.Machine.execEcho fn ch s
  | .dictRead fn ch => Sys2Proof.Machine.execDictRead fn ch s
  | .dictWrite fn ch => Sys2Proof.Machine.execDictWrite fn ch s
  | .keySet fn ch => Sys2Proof.Machine.execKeySet fn ch s
  | .keyClear fn ch => Sys2Proof.Machine.execKeyClear fn ch s
  | .passwordSet fn ch => Sys2Proof.Machine.execPasswordSet fn ch s
  | .netReset fn ch => Sys2Proof.Machine.execNetReset fn ch s
  | .peerMail => Sys2Proof.Machine.execPeerMail s
  | .pwrVoteWrite who value => Sys2Proof.Machine.execPwrVoteWrite who value s
  | .capWrite who watts => Sys2Proof.Machine.execCapWrite who watts s
  | .marginRaise r band => Sys2Proof.Machine.execMarginRaise r band s
  | .timeReq port t1 => Sys2Proof.Machine.execTimeReq port t1 s
  | .nak port seq => Sys2Proof.Machine.execNak port seq s
  | .linkTrained port => Sys2Proof.Machine.execLinkTrained port s
  | .dmaData => Sys2Proof.Machine.execDmaData s
  | .dmaResult => Sys2Proof.Machine.execDmaResult s
  | .mirror => Sys2Proof.Machine.execMirror s
  | .mirrorAck => Sys2Proof.Machine.execMirrorAck s
  | .snapshot => Sys2Proof.Machine.execSnapshot s
  | .replay => Sys2Proof.Machine.execReplay s
  | .replayRunDone outputs => Sys2Proof.Machine.execReplayRunDone outputs s
  | .compareResult => Sys2Proof.Machine.execCompareResult s
  | .compareOutput => Sys2Proof.Machine.execCompareOutput s
  | .placeAnnounce => Sys2Proof.Machine.execPlaceAnnounce s
  | .peerVote => Sys2Proof.Machine.execPeerVote s
  | .fabScrubDone => Sys2Proof.Machine.execFabScrubDone s
  | .fabCtxGone => Sys2Proof.Machine.execFabCtxGone s
  | .fabXferDoorbell fn d value => Sys2Proof.Machine.execFabXferDoorbell fn d value s
  | .fabXferStart fn d => Sys2Proof.Machine.execFabXferStart fn d s
  | .testAck port accepted => Sys2Proof.Machine.execTestAck port accepted s
  | .berTest value => Sys2Proof.Machine.execBerTest value s
  | .relinquish => Sys2Proof.Machine.execRelinquish s
  | .placeAdopt place => Sys2Proof.Machine.execPlaceAdopt place s
  | .evcSelWrite fn c value => Sys2Proof.Machine.execEvcSelWrite fn c value s
  | .evcCntLoRead fn c last => Sys2Proof.Machine.execEvcCntLoRead fn c last s
  | .evcSnapGo fn value => Sys2Proof.Machine.execEvcSnapGo fn value s
  | .slackTrigger who => Sys2Proof.Machine.execSlackTrigger who s
  | .stop port body => Sys2Proof.Machine.execStop port body s
  | .slackResume who => Sys2Proof.Machine.execSlackResume who s
  | .slackScan who => Sys2Proof.Machine.execSlackScan who s
  | .updBegin => Sys2Proof.Machine.execUpdBegin s
  | .updData => Sys2Proof.Machine.execUpdData s
  | .updEnd => Sys2Proof.Machine.execUpdEnd s
  | .updAbort => Sys2Proof.Machine.execUpdAbort s
  | .updActivate => Sys2Proof.Machine.execUpdActivate s
  | .updCancel => Sys2Proof.Machine.execUpdCancel s
  | .journalRecordDurable => Sys2Proof.Machine.execJournalRecordDurable s
  | .journalCompact byWrite => Sys2Proof.Machine.execJournalCompact byWrite s
  | .compactDone => Sys2Proof.Machine.execCompactDone s
  | .flashFault offset => Sys2Proof.Machine.execFlashFault offset s
  | .chipFault cause => Sys2Proof.Machine.execChipFault cause s
  | .nocHopResend hop => Sys2Proof.Machine.execNocHopResend hop s
  | .sweepStart => Sys2Proof.Machine.execSweepStart s
  | .blockHang dt event => Sys2Proof.Machine.execBlockHang dt event s
  | .extractN level => Sys2Proof.Machine.execExtractN level s
  | .eoff dt level => Sys2Proof.Machine.execEoff dt level s
  | .wakeN dt level => Sys2Proof.Machine.execWakeN dt level s
  | .perstN dt => Sys2Proof.Machine.execPerstN dt s
  | .perstNRelease dt => Sys2Proof.Machine.execPerstNRelease dt s
  | .slotIdChange pins => Sys2Proof.Machine.execSlotIdChange pins s
  | .feedRange milliVolt => Sys2Proof.Machine.execFeedRange milliVolt s
  | .pwrReset dt fn value => Sys2Proof.Machine.execPwrReset dt fn value s
  | .tsnLinkChange port up => Sys2Proof.Machine.execTsnLinkChange port up s
  | .registerWrite fn space offset value wide viaIde => Sys2Proof.Machine.execRegisterWrite fn space offset value wide viaIde s
  | .regionDrained dt r => Sys2Proof.Machine.execRegionDrained dt r s
  | .regionSelftestDone dt r pass => Sys2Proof.Machine.execRegionSelftestDone dt r pass s
  | .rateWindowEnd dt tbs => Sys2Proof.Machine.execRateWindowEnd dt tbs s
  | .gptpSyncReceive dt port domain logSync priority sourceTime err => Sys2Proof.Machine.execGptpSyncReceive dt port domain logSync priority sourceTime err s
  | .tidePpsEdge dt => Sys2Proof.Machine.execTidePpsEdge dt s
  | .tideRefValid dt => Sys2Proof.Machine.execTideRefValid dt s
  | .tideRefInvalid dt => Sys2Proof.Machine.execTideRefInvalid dt s
  | .sourceInvalid dt src => Sys2Proof.Machine.execSourceInvalid dt src s
  | .sourceSelect dt => Sys2Proof.Machine.execSourceSelect dt s
  | .tideAcquire dt => Sys2Proof.Machine.execTideAcquire dt s
  | .tideLock dt => Sys2Proof.Machine.execTideLock dt s
  | .tideUnlock dt => Sys2Proof.Machine.execTideUnlock dt s
  | .holdoverExpire dt => Sys2Proof.Machine.execHoldoverExpire dt s
  | .fabricTimeReqSend dt => Sys2Proof.Machine.execFabricTimeReqSend dt s
  | .peerDelay dt port kind => Sys2Proof.Machine.execPeerDelay dt port kind s
  | .fillFrameDone dt => Sys2Proof.Machine.execFillFrameDone dt s
  | .copyFrameDone dt => Sys2Proof.Machine.execCopyFrameDone dt s
  | .waitTest dt fn q => Sys2Proof.Machine.execWaitTest dt fn q s
  | .waitTimeout dt fn q => Sys2Proof.Machine.execWaitTimeout dt fn q s
  | .jobPlace dt => Sys2Proof.Machine.execJobPlace dt s
  | .operatorComplete dt job op => Sys2Proof.Machine.execOperatorComplete dt job op s
  | .jobComplete dt job => Sys2Proof.Machine.execJobComplete dt job s
  | .servingRegionsReturn dt c => Sys2Proof.Machine.execServingRegionsReturn dt c s
  | .decodeStepIssue dt c => Sys2Proof.Machine.execDecodeStepIssue dt c s
  | .prefillRowIssue dt c => Sys2Proof.Machine.execPrefillRowIssue dt c s
  | .specStepIssue dt c => Sys2Proof.Machine.execSpecStepIssue dt c s
  | .servingStepComplete dt c => Sys2Proof.Machine.execServingStepComplete dt c s
  | .servingStepFault dt c => Sys2Proof.Machine.execServingStepFault dt c s
  | .requestDeadlineMissed dt req => Sys2Proof.Machine.execRequestDeadlineMissed dt req s
  | .noMemoryTimeout dt req => Sys2Proof.Machine.execNoMemoryTimeout dt req s
  | .decodePictureStart dt core units => Sys2Proof.Machine.execDecodePictureStart dt core units s
  | .decodePictureDone dt core outcome => Sys2Proof.Machine.execDecodePictureDone dt core outcome s
  | .pictureTimeout dt core outcome => Sys2Proof.Machine.execPictureTimeout dt core outcome s
  | .encodePictureStart dt core => Sys2Proof.Machine.execEncodePictureStart dt core s
  | .sliceWrite dt core c e => Sys2Proof.Machine.execSliceWrite dt core c e s
  | .encodePictureDone dt core => Sys2Proof.Machine.execEncodePictureDone dt core s
  | .dmaTimeout dt fn d bytes => Sys2Proof.Machine.execDmaTimeout dt fn d bytes s
  | .contextStart dt => Sys2Proof.Machine.execContextStart dt s
  | .sliceEnd dt => Sys2Proof.Machine.execSliceEnd dt s
  | .contextSwitchRegionsFree dt => Sys2Proof.Machine.execContextSwitchRegionsFree dt s
  | .contextClearDone dt => Sys2Proof.Machine.execContextClearDone dt s
  | .sliceOverrun dt job => Sys2Proof.Machine.execSliceOverrun dt job s
  | .teardownWaitEnd dt c => Sys2Proof.Machine.execTeardownWaitEnd dt c s
  | .teardownScrubStart dt c => Sys2Proof.Machine.execTeardownScrubStart dt c s
  | .teardownScrubDone dt c => Sys2Proof.Machine.execTeardownScrubDone dt c s
  | .openTimeout dt session => Sys2Proof.Machine.execOpenTimeout dt session s
  | .slotLockExpire dt slot => Sys2Proof.Machine.execSlotLockExpire dt slot s
  | .sessionIdleTimeout dt session => Sys2Proof.Machine.execSessionIdleTimeout dt session s
  | .gclActivate dt => Sys2Proof.Machine.execGclActivate dt s
  | .runToIdle dt => Sys2Proof.Machine.execRunToIdle dt s
  | .stateDrop dt => Sys2Proof.Machine.execStateDrop dt s
  | .powerEntryDone dt => Sys2Proof.Machine.execPowerEntryDone dt s
  | .wakeEvent dt => Sys2Proof.Machine.execWakeEvent dt s
  | .wakeTimerFire dt => Sys2Proof.Machine.execWakeTimerFire dt s
  | .powerExitDone dt => Sys2Proof.Machine.execPowerExitDone dt s
  | .brownOut dt milliamp => Sys2Proof.Machine.execBrownOut dt milliamp s
  | .powerWindowEnd dt w => Sys2Proof.Machine.execPowerWindowEnd dt w s
  | .sensorRead dt sensors => Sys2Proof.Machine.execSensorRead dt sensors s
  | .thermalTripClear dt => Sys2Proof.Machine.execThermalTripClear dt s
  | .thermalLoopTick dt => Sys2Proof.Machine.execThermalLoopTick dt s
  | .energyIntervalEnd dt holders overhead => Sys2Proof.Machine.execEnergyIntervalEnd dt holders overhead s
  | .timeResp dt port t1 t2 t3 err => Sys2Proof.Machine.execTimeResp dt port t1 t2 t3 err s
  | .msg dt port flit => Sys2Proof.Machine.execMsg dt port flit s
  | .linkFail dt port => Sys2Proof.Machine.execLinkFail dt port s
  | .reassemblyTimeout dt => Sys2Proof.Machine.execReassemblyTimeout dt s
  | .mirrorLost dt => Sys2Proof.Machine.execMirrorLost dt s
  | .peerVoteSend dt => Sys2Proof.Machine.execPeerVoteSend dt s
  | .peerVoteLapse dt place => Sys2Proof.Machine.execPeerVoteLapse dt place s
  | .testReq dt port lanes ms => Sys2Proof.Machine.execTestReq dt port lanes ms s
  | .berSchedule dt => Sys2Proof.Machine.execBerSchedule dt s
  | .berTestEnd dt port errors => Sys2Proof.Machine.execBerTestEnd dt port errors s
  | .heartbeatSend dt => Sys2Proof.Machine.execHeartbeatSend dt s
  | .heartbeat dt path body => Sys2Proof.Machine.execHeartbeat dt path body s
  | .pathLost dt path => Sys2Proof.Machine.execPathLost dt path s
  | .renewSend dt => Sys2Proof.Machine.execRenewSend dt s
  | .renew dt path body => Sys2Proof.Machine.execRenew dt path body s
  | .renewAck dt path body => Sys2Proof.Machine.execRenewAck dt path body s
  | .leaseEnd dt => Sys2Proof.Machine.execLeaseEnd dt s
  | .pairRelease dt path body => Sys2Proof.Machine.execPairRelease dt path body s
  | .claimTimer dt => Sys2Proof.Machine.execClaimTimer dt s
  | .initClaimTimer dt => Sys2Proof.Machine.execInitClaimTimer dt s
  | .claimResend dt => Sys2Proof.Machine.execClaimResend dt s
  | .claim dt path body => Sys2Proof.Machine.execClaim dt path body s
  | .grant dt path body => Sys2Proof.Machine.execGrant dt path body s
  | .deny dt path body => Sys2Proof.Machine.execDeny dt path body s
  | .placeAdoptTimeout dt => Sys2Proof.Machine.execPlaceAdoptTimeout dt s
  | .evcSnapDone dt fn => Sys2Proof.Machine.execEvcSnapDone dt fn s
  | .slackTideAt dt => Sys2Proof.Machine.execSlackTideAt dt s
  | .stopRepeat dt port => Sys2Proof.Machine.execStopRepeat dt port s
  | .slackCaptureDone dt held => Sys2Proof.Machine.execSlackCaptureDone dt held s
  | .scanDone dt scan => Sys2Proof.Machine.execScanDone dt scan s
  | .wfgBuild dt byTimer sinces => Sys2Proof.Machine.execWfgBuild dt byTimer sinces s
  | .updDataDone dt => Sys2Proof.Machine.execUpdDataDone dt s
  | .bootAttemptTimeout dt => Sys2Proof.Machine.execBootAttemptTimeout dt s
  | .selftestWindowOpen dt => Sys2Proof.Machine.execSelftestWindowOpen dt s
  | .selftestWindowDone dt r pass => Sys2Proof.Machine.execSelftestWindowDone dt r pass s
  | .windowAbandon dt r => Sys2Proof.Machine.execWindowAbandon dt r s
  | .sweepDone dt mismatches => Sys2Proof.Machine.execSweepDone dt mismatches s
  | .standbyReplay dt => Sys2Proof.Machine.execStandbyReplay dt s
  | .watchdogMiss dt => Sys2Proof.Machine.execWatchdogMiss dt s
  | .recoveryDone dt => Sys2Proof.Machine.execRecoveryDone dt s
  | .overVoltageDisconnect dt milliVolt => Sys2Proof.Machine.execOverVoltageDisconnect dt milliVolt s
  | .powerOn dt milliVolt => Sys2Proof.Machine.execPowerOn dt milliVolt s
  | .feedLoss dt milliVolt => Sys2Proof.Machine.execFeedLoss dt milliVolt s
  | .feedReturn dt milliVolt => Sys2Proof.Machine.execFeedReturn dt milliVolt s
  | .bankDepleted dt => Sys2Proof.Machine.execBankDepleted dt s
  | .coolantSample dt inlet outlet flow => Sys2Proof.Machine.execCoolantSample dt inlet outlet flow s
  | .bootStageDone dt report => Sys2Proof.Machine.execBootStageDone dt report s
  | .moduleReady dt => Sys2Proof.Machine.execModuleReady dt s

end Sys2Proof.Machine
end

