-- ==== Sys2Proof/Machine/Step.lean ====
section
/-! DEFINITION. One step: the command at the front of the queue, or, on an empty queue, one nanosecond. -/

namespace Sys2Proof.Machine

/-- One step. The command at the front leaves the queue and acts on the rest. On an empty queue the block idles for 1 ns of its time base: Tide counts (R70), the error estimate of HOLDOVER grows (R88) (DESIGN CHOICE: the table has no row for a tick). [DESIGN CHOICE, unsafe, log entry 1; DEDUCED, safe, log entry 3] -/
def step (s : State) : Host.Outcome State Fault Refusal :=
  match s.pending with
  | [] => .next (s.elapse 1)
  | c :: rest => exec c { s with pending := rest }

/-- The state with the command that a word spells put at the front of its queue; unchanged where it spells none. [DEDUCED, safe, log entry 3] -/
def State.withFetchWord (s : State) (nbits w : Nat) : State :=
  match Sys2Proof.decodeTableWord nbits w with
  | some c => { s with pending := c :: s.pending }
  | none => s

end Sys2Proof.Machine
end

