-- ==== Sys2Proof/Safety.lean ====
section
/-! DEFINITION. The conditions the statements are made under, each a plain test of the state. -/

namespace Sys2Proof.Machine

/-- The module is ready and running: a host access of function `fn` is served at once, whatever window it names (R9, R469, R542, R650, R735: not absent, not booting, not held by Slack, not shut by a teardown, not leaving the slot, not asleep). -/
def State.serves (s : State) (fn : Nat) : Bool :=
  s.fnPresent fn && s.board.ready && s.slackRuns && !(s.ctx fn).shut && !(s.pair.role == .leaving) && !s.asleep

/-- Both addressed memories are in canonical form: addresses strictly rise and no listed byte is 0. -/
def State.canonical (s : State) : Bool := s.hbm.wf && s.obs.capture.wf

/-- The time the clock has reached `dt` ns after `s`, as the 64-bit Tide count. -/
def State.tideAfter (s : State) (dt : Nat) : BitVec 64 := s.tide.count + BitVec.ofNat 64 dt

/-- The key slots and the password digest are the same in both states. -/
def State.keepsSecrets (s t : State) : Prop := t.trust.slots = s.trust.slots ∧ t.trust.password = s.trust.password

/-- A QOP frame without an R-TAG arrives on a link that is up at a ready module that is not in Deep Sleep, its head is `h`, and its class meter lets it pass (R493, R498, R544). -/
def State.hearsQop (s : State) (f : QopFrame) (h : QopHead) : Prop :=
  s.board.ready = true ∧ s.power.mode ≠ 3 ∧ s.mgmtUp = true ∧ s.tsnUp f.port = true ∧ f.rtag = none ∧ qopParse f.payload = some h ∧
    (s.meter (tsnNo f.port) 2 (s.frameBytes f.payload.length false)).2 = true

/-- The state once the meter has counted the frame. -/
def State.metered (s : State) (f : QopFrame) : State := (s.meter (tsnNo f.port) 2 (s.frameBytes f.payload.length false)).1

/-- The frame belongs to the open session `x` in slot `n`: its MAC is that of the session's key and its SEQ is above every SEQ accepted before (R501). -/
def State.ownsFrame (s : State) (f : QopFrame) (h : QopHead) (n : Nat) (x : QopSession) : Prop :=
  s.sessionOf f h.session false = some n ∧ s.net.sessions.look n = some x ∧ x.opening = false ∧
    qopMac f.payload = (hmac512 x.key (f.payload.take (f.payload.length - 16) ++ List.replicate 16 0)).take 16 ∧ ∀ q, x.lastSeq = some q → q < h.seq

/-- A QOP frame with this head has been sent to the client. -/
def State.sentQop (t : State) (ip : BitVec 32) (udp : BitVec 16) (h : QopHead) : Prop :=
  ∃ p tag r mac, Emission.qop p tag r ip.toNat udp.toNat (h.bytes ++ mac) ∈ t.trace

/-- The message in the outbound slot of a mailbox channel, when its target is up and the module is ready (R511, R512, R518). -/
def State.mailAt (s : State) (fn ch : Nat) (words : List Nat) : Prop :=
  s.board.ready = true ∧ s.targetDomain ch = 0 ∧ (s.channel (mbxKey fn ch)).outFull = true ∧ (s.channel (mbxKey fn ch)).outMsg = words

/-- The inbound slot of a channel has taken the answer to a message, its outbound slot is free (R512). -/
def State.answeredMail (s t : State) (fn ch : Nat) (words : List Nat) (st : Status) (reply : List Nat) : Prop :=
  let l := (st.toNat * 65536 + (words[0]?).getD 0 % 65536) :: reply
  (t.channel (mbxKey fn ch)).outFull = false ∧ (t.channel (mbxKey fn ch)).inFull = true ∧
    (t.channel (mbxKey fn ch)).inMsg = l ++ List.replicate (8 - l.length) 0 ∧
    (t.channel (mbxKey fn ch)).inSeq = (s.channel (mbxKey fn ch)).inSeq + 1 ∧ ∀ k, k ≠ mbxKey fn ch → t.channel k = s.channel k

end Sys2Proof.Machine
end

