-- ==== Sys2Proof/Certificates/Slice0/Obligations.lean ====
section
/-! DEFINITION. The statements for the provers, family by family. A clause says which state a command answers and what that state holds; `{ s with … }` on the right says at once that nothing else changes. -/

section Slice0Obligations

open Sys2Proof Sys2Proof.Machine

/-- A step takes the command at the front of the queue and is its meaning on the rest (00_scope.md). -/
def Obligations.StepRunsTheFrontCommand : Prop :=
  ∀ (s : State) (c : Instr) (rest : List Instr), s.pending = c :: rest → step s = exec c { s with pending := rest }

/-- On an empty queue the block idles for 1 ns, the model's own choice (log entry 1) (02_clockless_timing_and_tide.md). -/
def Obligations.IdleStepPassesOneNanosecond : Prop :=
  ∀ s : State, s.pending = [] → ∃ t, step s = .next t ∧ t.now = s.now + 1 ∧ t.tide.count = s.tide.count + 1 ∧
    t = { s with
      now := t.now, tide := { s.tide with count := t.tide.count, errFine := t.tide.errFine }
      power := { s.power with deeperSince := t.power.deeperSince }, obs := { s.obs with counters := t.obs.counters } }

/-- Tide counts one per nanosecond of its time base in every power state, and the holdover error grows at its two rates (R70). -/
def Obligations.TimeAdvancesTideAndHoldoverError : Prop :=
  (∀ (s : State) (dt : Nat), ((s.elapse dt).tide.count).toNat = (s.tide.count.toNat + dt) % 2 ^ 64) ∧
  (∀ (s : State) (h : Nat), s.tide.mode = .holdover → s.tide.refInUse = true →
    (s.elapse (h * 3600000000000)).tide.errFine = s.tide.errFine + h * 10 * errUnit) ∧
  (∀ (s : State) (n : Nat), s.tide.mode = .holdover → s.tide.refInUse = false →
    (s.elapse (n * 1000000000)).tide.errFine = s.tide.errFine + n * 25 * errUnit) ∧
  (∀ (s : State) (dt : Nat), s.tide.mode ≠ .holdover → (s.elapse dt).tide.errFine = s.tide.errFine)

/-- The registers with a stated reset value hold it after reset (02_clockless_timing_and_tide.md, 04_device_memory_and_page_manager.md, 05_graph_contract_and_queues.md, 11_host_link_contexts_and_trust.md, 12_object_dictionary_and_mailboxes.md, 13_power_states_and_wake.md, 15_fabric_failover_and_spares.md, 16_counters_global_stop_and_hangs.md). -/
def Obligations.ResetLeavesStatedValues : Prop :=
  (∀ fn : Fn, State.reset.readW0Word fn.val 0x220010 = 0x404 ∧ State.reset.readW0Word fn.val 0x220014 = 0 ∧
    State.reset.readW0Word fn.val 0x220018 = 0 ∧ State.reset.readW0Word fn.val 0x240008 = 0x40) ∧
  State.reset.readW0Word 0 0x400110 = 50 * 2 ^ 24 + 2000 ∧ State.reset.tide.status = 0xFFFF0000 ∧ State.reset.tide.count = 0 ∧
  (∀ k, State.reset.obs.counters.valAt .reset k = ⟨0x01000000, 0, false, 0, 0, 0⟩) ∧
  (∀ k, (State.reset.channel k).len = 8 ∧ (State.reset.channel k).outFull = false ∧ (State.reset.channel k).inFull = false) ∧
  State.reset.power.lastWake.extractLsb' 84 12 = 0xFFF ∧ State.reset.pair.holder = 0xFF ∧ State.reset.pair.place = 0xFF ∧
  (∀ c, (State.reset.ctx c).mode = .free) ∧ (∀ f : Nat, ∀ q : Nat, (State.reset.queue f q).running = false) ∧
  State.reset.sched.quantum = 2000 ∧ State.reset.sched.overrun = 50 ∧ State.reset.slackRuns = true

/-- After reset both addressed memories are in canonical form and read 0 everywhere (04_device_memory_and_page_manager.md). -/
def Obligations.ResetMemoryIsCanonical : Prop :=
  State.reset.canonical = true ∧ (∀ a, State.reset.hbm.read a = 0) ∧ (∀ a, State.reset.obs.capture.read a = 0)

/-- Every step keeps HBM and the capture buffers in canonical form (04_device_memory_and_page_manager.md, 16_counters_global_stop_and_hangs.md). -/
def Obligations.StepKeepsMemoryCanonical : Prop :=
  ∀ s t : State, s.canonical = true → step s = .next t → t.canonical = true

/-- No command touches the queue, so n waiting commands are gone after n steps, first in, first out (00_scope.md). -/
def Obligations.QueueIsWorkedOffInOrder : Prop :=
  (∀ (c : Instr) (s t : State), exec c s = .next t → t.pending = s.pending) ∧
  (∀ (s t : State) (c : Instr) (rest : List Instr), s.pending = c :: rest → step s = .next t → t.pending = rest) ∧
  (∀ s t : State, Sys2Proof.core.run s.pending.length s = .next t → t.pending = [])

/-- Every command completes on every state: no refusal, no fault, and no run ever stops (00_scope.md). -/
def Obligations.EveryCommandAnswersANextState : Prop :=
  (∀ (c : Instr) (s : State), ∃ t, exec c s = .next t) ∧ (∀ s : State, ∃ t, step s = .next t) ∧
  (∀ (n : Nat) (s : State), ∃ t, Sys2Proof.core.run n s = .next t)

/-- When a host access is served, answered with 0, discarded, held for the wake or unanswered; plain register writes and reads (11_host_link_contexts_and_trust.md, 13_power_states_and_wake.md, 16_counters_global_stop_and_hangs.md, 19_module_connector_power_and_bring_up.md). -/
def Obligations.HostAccessGate : Prop :=
  (∀ (s : State) (a : HostAccess) (k : State → State), s.fnPresent a.fn = false → s.hostAccess a k = .next s) ∧
  (∀ (s : State) (a : HostAccess) (k : State → State), s.fnPresent a.fn = true → s.board.ready = false →
    s.hostAccess a k = .next (if s.bootOpen a then k s else s.readsZero a)) ∧
  (∀ (s : State) (a : HostAccess) (k : State → State), s.fnPresent a.fn = true → s.board.ready = true → s.slackRuns = false → a.ofHeldUnit = true →
    s.hostAccess a k = .next ((s.readsZero a).bump 0x660008)) ∧
  (∀ (s : State) (a : HostAccess) (k : State → State), s.fnPresent a.fn = true → s.board.ready = true → s.slackRuns = true →
    (s.ctx a.fn).shut = true → a.exemptInTeardown = false → s.hostAccess a k = .next (s.readsZero a)) ∧
  (∀ (s : State) (a : HostAccess) (k : State → State), s.fnPresent a.fn = true → s.board.ready = true → s.slackRuns = true →
    (s.ctx a.fn).shut = false → s.pair.role ≠ .leaving → s.asleep = true → a.servedAsleep = false → s.power.wake = none →
    s.hostAccess a k = .next { s with power := { s.power with
      wake := some ⟨0x01, 0xFF, 0xF, a.detail, s.tideNat, !s.tide.stepped⟩, held := s.power.held ++ [a.cmd] } }) ∧
  (∀ (s : State) (a : HostAccess) (k : State → State), s.serves a.fn = true → s.hostAccess a k = .next (k s)) ∧
  (∀ (s : State) (a : HostAccess), a.write = true → s.readsZero a = s) ∧
  (∀ (s : State) (a : HostAccess), a.write = false → a.win ≠ .w4 → s.readsZero a = s.emit (.readData a.fn a.addr a.size 0)) ∧
  (∀ (s : State) (fn : Fn) (off : BitVec 28) (v : BitVec 64) (ide : Bool), s.serves fn.val = true →
    (off.toNat % 4 ≠ 0 → exec (.registerWrite fn .w0 off v false ide) s = .next s) ∧
    (off.toNat % 4 = 0 → within off.toNat 0x200000 0x20 = true ∨ within off.toNat 0x200100 0x10 = true →
      ∃ t, exec (.registerWrite fn .w0 off v false ide) s = .next t ∧ t.readW0Word fn.val off.toNat = v.toNat % 2 ^ 32 ∧
        (∀ g o, g ≠ fn.val ∨ o ≠ off.toNat → t.readW0Word g o = s.readW0Word g o) ∧ t = { s with regs := t.regs }) ∧
    (∀ q : Qn, off.toNat = 0x220000 + 0x40 * q.val → ∃ t, exec (.registerWrite fn .w0 off v true ide) s = .next t ∧
      t.queue fn.val q.val = { s.queue fn.val q.val with sqBase := if (s.queue fn.val q.val).enable then (s.queue fn.val q.val).sqBase else v } ∧
      (∀ (g : Fn) (p : Qn), g ≠ fn ∨ p ≠ q → t.queue g.val p.val = s.queue g.val p.val) ∧ t = { s with queues := t.queues }) ∧
    (off.toNat % 4 = 0 → rowOfRead fn false off.toNat = none → atCounter false off.toNat = false →
      ∃ t, exec (.registerWrite fn .readW0 off v false ide) s = .next t ∧
        t.trace = .readData fn.val off.toNat 4 (s.readW0Word fn.val off.toNat) :: s.trace ∧
        (fn.val ≠ 0 ∨ within off.toNat 0x700100 0x40 = false → t = { s with trace := t.trace }) ∧
        (∀ p : FabPort, fn.val = 0 → off.toNat = 0x700100 + 4 * p.val → t.port p.val = { s.port p.val with retries := 0 } ∧
          (∀ x, x ≠ p.val → t.port x = s.port x) ∧ t = { s with trace := t.trace, fab := { s.fab with ports := t.fab.ports } }))) ∧
  (∀ (s : State) (v : BitVec 64) (ide : Bool), s.fnPresent 0 = true →
    exec (.registerWrite 0 .config 3 v false ide) s = .next { s with config := s.config.setAt 0 3 (v.toNat % 2) })

/-- What a counter, an event, a journal record and a requested MSI-X or message do to the state (12_object_dictionary_and_mailboxes.md, 17_firmware_images_and_journal.md). -/
def Obligations.SharedReports : Prop :=
  (∀ (s : State) (k n : Nat), (s.bumpBy k n).dictVal k = min (dictMax k) (s.dictVal k + n) ∧ (∀ j, j ≠ k → (s.bumpBy k n).dictVal j = s.dictVal j) ∧
    s.bumpBy k n = { s with dict := (s.bumpBy k n).dict }) ∧
  (∀ (s : State) (code : Status) (data : List Byte), s.raise code data = { s with net := { s.net with
    sessions := s.net.sessions.mapVals fun _ x => x.push ⟨code, s.tideNat, data⟩ } }) ∧
  (∀ (x : QopSession) (e : QopEventItem), x.events = true → x.opening = false → x.queue.length < 256 → x.push e = { x with queue := x.queue ++ [e] }) ∧
  (∀ (x : QopSession) (e : QopEventItem), x.events = true → x.opening = false → x.queue.length = 256 →
    x.push e = { x with queue := x.queue.drop 1 ++ [e], lost := true }) ∧
  (∀ (x : QopSession) (e : QopEventItem), x.events = false ∨ x.opening = true → x.push e = x) ∧
  (∀ (s : State) (kind key : Nat) (p : List Byte), s.journal.accepting = true → s.journal.retired < 1024 →
    s.journalPut kind key p = { s with journal := { s.journal with
      queued := s.journal.queued ++ [⟨s.journal.nextSeq, kind, key, s.schema, s.tideNat, !s.tide.stepped, p⟩], nextSeq := s.journal.nextSeq + 1 } }) ∧
  (∀ (s : State) (kind key : Nat) (p : List Byte), s.journal.accepting = false → s.journalPut kind key p = s) ∧
  (∀ (s : State) (e : Emission), s.emit e = { s with trace := e :: s.trace })

/-- TIDE_REF, TIDE_PPS, the rate window and the peer-delay exchange: what each leaves and that it leaves the rest (02_clockless_timing_and_tide.md). -/
def Obligations.TideReferenceInputs : Prop :=
  (∀ (s : State) (dt : Nat), s.tide.latchedAt + s.tide.syncNs ≤ s.now + dt →
    s.tidePass dt = { s.elapse dt with tide := { (s.elapse dt).tide with
      latchedAt := s.now + dt, domain := s.dictVal 0x140004, enable := s.dictVal 0x140005, serve := s.dictVal 0x140006, limit := s.dictVal 0x140007 } }) ∧
  (∀ (s : State) (dt : Nat), s.now + dt < s.tide.latchedAt + s.tide.syncNs → s.tidePass dt = s.elapse dt) ∧
  (∀ (s : State) (dt : Nat), exec (.tideRefValid dt) s = .next { s.tidePass dt with tide := { (s.tidePass dt).tide with refValid := true } }) ∧
  (∀ (s : State) (dt : Nat), exec (.tideRefInvalid dt) s = .next { s.tidePass dt with tide := { (s.tidePass dt).tide with refValid := false } }) ∧
  (∀ (s : State) (dt : Nat), (s.tideAfter dt).toNat % 1000000000 ≤ 500 ∨ 999999500 ≤ (s.tideAfter dt).toNat % 1000000000 →
    let u := { (s.tidePass dt).tide with ppsValid := true }
    exec (.tidePpsEdge dt) s = .next { s.tidePass dt with
      tide := if (u.enabled 3 && u.ppsAgrees) = true then { u with phase := secondOffset (s.tideAfter dt).toNat } else u }) ∧
  (∀ (s : State) (dt : Nat), 500 < (s.tideAfter dt).toNat % 1000000000 → (s.tideAfter dt).toNat % 1000000000 < 999999500 →
    exec (.tidePpsEdge dt) s = .next ({ s.tidePass dt with tide := { (s.tidePass dt).tide with ppsValid := false } }.bump 0x140009)) ∧
  (∀ (s : State) (dt n : Nat) (tbs : List TbWindow), 0 < n → s.now + dt = s.resetAt + n * 1048576 →
    ∃ t, exec (.rateWindowEnd dt tbs) s = .next t ∧ t = { s.elapse dt with tide := { (s.elapse dt).tide with rates := t.tide.rates } } ∧
      (∀ r, r < 6 → t.tide.rates.valAt .reset r = ⟨BitVec.ofNat 16 n, BitVec.ofNat 16 (regionRate tbs r)⟩) ∧
      (∀ r, 6 ≤ r → t.tide.rates.valAt .reset r = s.tide.rates.valAt .reset r)) ∧
  (∀ (s : State) (dt : Nat), exec (.peerDelay dt .a .request) s = .next ((s.elapse dt).emit (.ether 0 0x02 [(s.tideAfter dt).toNat]))) ∧
  (∀ (s : State) (dt : Nat), exec (.peerDelay dt .b .request) s = .next ((s.elapse dt).emit (.ether 1 0x02 [(s.tideAfter dt).toNat]))) ∧
  (∀ (s : State) (dt d : Nat), exec (.peerDelay dt .a (.measured d)) s =
      .next { s.elapse dt with tide := { (s.elapse dt).tide with tsnA := { s.tide.tsnA with delay := d } } }) ∧
  (∀ (s : State) (dt d : Nat), exec (.peerDelay dt .b (.measured d)) s =
      .next { s.elapse dt with tide := { (s.elapse dt).tide with tsnB := { s.tide.tsnB with delay := d } } })

/-- A sync message, the loss and choice of a source, and the four modes of the Tide unit (02_clockless_timing_and_tide.md). -/
def Obligations.TideDiscipline : Prop :=
  (∀ (s : State) (dt : Nat) (dom : BitVec 7) (log : Int) (prio : Nat) (src : BitVec 64) (err : BitVec 32),
    dom.toNat = s.dictVal 0x140004 → -7 ≤ log → log ≤ 0 →
    ∃ t, exec (.gptpSyncReceive dt .a dom log prio src err) s = .next t ∧ t = { s.elapse dt with tide := t.tide } ∧
      t.tide.tsnA = ⟨true, s.now + dt, 1000000000 / 2 ^ log.natAbs, prio, (src.toNat : Int) - (s.tideAfter dt).toNat, s.tide.tsnA.delay⟩ ∧
      t.tide.tsnB = s.tide.tsnB ∧ t.tide.fabric = s.tide.fabric ∧ t.tide.count = s.tideAfter dt ∧
      (s.tide.source = .tsnA → bitOf (s.dictVal 0x140005) 0 = true →
        t.tide.errFine = err.toNat * errUnit ∧ t.tide.phase = (src.toNat : Int) - (s.tideAfter dt).toNat) ∧
      (s.tide.source ≠ .tsnA ∨ bitOf (s.dictVal 0x140005) 0 = false → t.tide.errFine = (s.elapse dt).tide.errFine ∧ t.tide.phase = s.tide.phase)) ∧
  (∀ (s : State) (dt : Nat) (dom : BitVec 7) (log : Int) (prio : Nat) (src : BitVec 64) (err : BitVec 32),
    dom.toNat = s.dictVal 0x140004 → -7 ≤ log → log ≤ 0 →
    ∃ t, exec (.gptpSyncReceive dt .b dom log prio src err) s = .next t ∧ t = { s.elapse dt with tide := t.tide } ∧
      t.tide.tsnB = ⟨true, s.now + dt, 1000000000 / 2 ^ log.natAbs, prio, (src.toNat : Int) - (s.tideAfter dt).toNat, s.tide.tsnB.delay⟩ ∧
      t.tide.tsnA = s.tide.tsnA ∧ t.tide.fabric = s.tide.fabric ∧ t.tide.count = s.tideAfter dt) ∧
  (∀ (s : State) (dt : Nat) (port : TsnPort) (dom : BitVec 7) (log : Int) (prio : Nat) (src : BitVec 64) (err : BitVec 32),
    (dom.toNat ≠ s.dictVal 0x140004 ∨ log < -7 ∨ 0 < log) → exec (.gptpSyncReceive dt port dom log prio src err) s = .next (s.elapse dt)) ∧
  (∀ (s : State) (dt : Nat) (src : TimeInput), (s.tide.inputOf (timeSource src)).valid = true →
    (s.tide.inputOf (timeSource src)).last + 3 * (s.tide.inputOf (timeSource src)).interval ≤ s.now + dt →
    ∃ t, exec (.sourceInvalid dt src) s = .next t ∧ t = { s.tidePass dt with tide := t.tide } ∧
      t.tide.inputOf (timeSource src) = { s.tide.inputOf (timeSource src) with valid := false } ∧ t.tide.count = s.tideAfter dt ∧
      (t.tide.select = .none → s.tide.mode = .locked ∨ s.tide.mode = .acquiring → t.tide.mode = .holdover ∧ t.tide.source = .none) ∧
      (t.tide.select ≠ .none → t.tide.mode = s.tide.mode ∧ t.tide.source = s.tide.source)) ∧
  (∀ (s : State) (dt : Nat), let u := (s.tidePass dt).tide
    u.select ≠ .none → u.select ≠ u.source →
    exec (.sourceSelect dt) s = .next { s.tidePass dt with tide := { u with source := u.select, goodSince := none, badIntervals := 0 } }) ∧
  (∀ (s : State) (dt : Nat), let u := (s.tidePass dt).tide
    u.select = .none → u.source ≠ .none →
    exec (.sourceSelect dt) s = .next { s.tidePass dt with tide := { u with
      source := .none, goodSince := none, badIntervals := 0, mode := if u.mode = .locked ∨ u.mode = .acquiring then .holdover else u.mode } }) ∧
  (∀ (s : State) (dt : Nat), let u := (s.tidePass dt).tide
    u.mode = .free ∨ u.mode = .holdover → u.select ≠ .none →
    exec (.tideAcquire dt) s = .next { s.tidePass dt with tide := { u with
      mode := .acquiring, source := u.select, goodSince := none, badIntervals := 0 } }) ∧
  (∀ (s : State) (dt t0 : Nat), let u := (s.tidePass dt).tide
    u.mode = .acquiring → u.goodSince = some t0 → t0 + 1000000000 ≤ s.now + dt → u.sourceEnabled u.source = true →
    exec (.tideLock dt) s = .next { s.tidePass dt with tide := { u with
      mode := .locked, stepped := true, badIntervals := 0
      count := if u.stepped then s.tideAfter dt else s.tideAfter dt + BitVec.ofInt 64 (u.inputOf u.source).offset } }) ∧
  (∀ (s : State) (dt : Nat), let u := (s.tidePass dt).tide
    u.mode = .locked → (u.inputOf u.source).valid = true → 3 ≤ u.badIntervals →
    exec (.tideUnlock dt) s = .next { s.tidePass dt with tide := { u with mode := .acquiring, goodSince := none, badIntervals := 0 } }) ∧
  (∀ (s : State) (dt : Nat), let u := (s.tidePass dt).tide
    u.mode = .holdover → u.limit * errUnit < s.tide.errFine + dt * (if s.tide.refInUse then 10 else 90000) →
    exec (.holdoverExpire dt) s = .next { s.tidePass dt with tide := { u with mode := .free, source := .none } })

/-- What the module does at the edges of EXTRACT_N, EOFF_N, WAKE_N, PERST_N, the straps and PWR_RESET (19_module_connector_power_and_bring_up.md). -/
def Obligations.BoardPins : Prop :=
  (∀ s : State, s.board.powered = true → s.power.mode ≠ 4 → s.board.extractN = true → s.pair.role ≠ .leaving →
    ∃ t, exec (.extractN false) s = .next t ∧ t.board = { s.board with extractN := false } ∧ t.pair.role = .leaving ∧ t.pair.leaseEnd = s.now ∧
      t.jobs = [] ∧ t.serving.steps = [] ∧ t.journal.accepting = false ∧ (s.journal.accepting = true → t.journal.queued = []) ∧
      t.fab.ports = s.fab.ports.mapVals (fun _ p => { PortState.reset with retries := p.retries }) ∧
      t.power = { s.power with mgmtAwake := s.power.mode == 3 } ∧
      t = { s with
        regions := t.regions, jobs := t.jobs, serving := t.serving, video := t.video, fab := t.fab, pair := t.pair, journal := t.journal
        integ := t.integ, power := t.power, board := t.board }) ∧
  (∀ s : State, exec (.extractN true) s = .next { s with board := { s.board with extractN := true } }) ∧
  (∀ (s : State) (dt : Nat), ∃ t, exec (.eoff dt false) s = .next t ∧
      t.board.powered = false ∧ t.board.ready = false ∧ t.board.eoffN = false ∧ t.board.eoff = true ∧ t.power.mode = 4 ∧
      t.hbm = [] ∧ t.jobs = [] ∧ t.queues = [] ∧ t.ctxs = [] ∧ t.pending = s.pending ∧ s.keepsSecrets t ∧
      t.fw.slotA = s.fw.slotA ∧ t.fw.slotB = s.fw.slotB ∧ t.journal.records = s.journal.records) ∧
  (∀ (s : State) (dt : Nat), exec (.eoff dt true) s = .next { s.elapse dt with board := { s.board with
      eoffN := true, eoffAt := if s.board.eoffN then s.board.eoffAt else s.now + dt } }) ∧
  (∀ (s : State) (dt : Nat), exec (.wakeN dt true) s = .next { s.elapse dt with board := { s.board with wakeN := true } }) ∧
  (∀ (s : State) (dt : Nat), s.board.wakeN = true → s.board.eoffN = true → s.board.powered = true → s.asleep = false →
    exec (.wakeN dt false) s = .next { s.elapse dt with board := { s.board with wakeN := false } }) ∧
  (∀ (s : State) (dt : Nat), s.board.wakeN = true → s.board.eoffN = true → s.board.powered = true → s.asleep = true → s.power.wake = none →
    ∃ t, exec (.wakeN dt false) s = .next t ∧
      t.power.wake = some ⟨0x05, 0xFF, 0xF, 0, (s.tideAfter dt).toNat, !s.tide.stepped⟩ ∧
      t = { s.elapse dt with power := { (s.elapse dt).power with wake := t.power.wake }, board := { s.board with wakeN := false } }) ∧
  (∀ (s : State) (dt : Nat), s.board.wakeN = true → s.board.eoffN = true → s.board.powered = false → feedOk s.board.feedMv = true →
    s.board.eoff = false →
    ∃ t, exec (.wakeN dt false) s = .next t ∧ t.board.powered = true ∧ t.board.ready = false ∧ t.board.stage = 0 ∧
      t.power.wake = some ⟨0x05, 0xFF, 0xF, 0, 0, true⟩ ∧ t.hbm = [] ∧ t.tide.count = 0 ∧ s.keepsSecrets t) ∧
  (∀ (s : State) (dt : Nat), s.board.perstN = true → s.board.powered = true → s.board.bootWaits = false →
    ∃ t, exec (.perstN dt) s = .next t ∧ t.board = { s.board with perstN := false, perstAt := s.now + dt } ∧ t.config = [] ∧
      (∀ c, c < 16 → s.resident c = true → (t.ctx c).tear = .due false ∧ (t.ctx c).byReset = true) ∧
      (∀ c, c < 16 → t.power.votes.look c = none) ∧
      t = { s.elapse dt with ctxs := t.ctxs, power := t.power, config := t.config, board := t.board }) ∧
  (∀ (s : State) (dt : Nat), s.board.perstN = false → s.board.powered = true → s.board.bootWaits = true →
    ∃ t, exec (.perstNRelease dt) s = .next t ∧ t = { s.elapse dt with fw := t.fw, trust := t.trust, board := t.board } ∧ s.keepsSecrets t ∧
      t.trust.areaWrites = s.trust.areaWrites + (if s.fw.select.bootWord = s.fw.bootWord then 0 else 1) ∧
      t.board = { s.board with perstN := true, bootWaits := false, bootAt := s.now + dt } ∧ t.fw = s.fw.select) ∧
  (∀ (s : State) (dt : Nat), s.board.perstN = false → s.board.powered = true → s.board.bootWaits = false →
    s.board.perstAt + 1000000000 ≤ s.now + dt →
    ∃ t, exec (.perstNRelease dt) s = .next t ∧ t.board.perstN = true ∧ t.board.ready = false ∧ t.board.stage = 0 ∧ t.hbm = [] ∧ t.jobs = [] ∧
      t.journal.accepting = false ∧ s.keepsSecrets t) ∧
  (∀ (s : State) (dt : Nat), s.board.perstN = false → s.board.powered = true → s.board.bootWaits = false →
    s.now + dt < s.board.perstAt + 1000000000 → exec (.perstNRelease dt) s = .next { s.elapse dt with board := { s.board with perstN := true } }) ∧
  (∀ (s : State) (dt : Nat), s.serves 0 = true →
    ∃ t, exec (.pwrReset dt 0 0x5A5AA5A5) s = .next t ∧ t.board.ready = false ∧ t.board.stage = 0 ∧ t.hbm = [] ∧ t.jobs = [] ∧
      t.journal.accepting = false ∧ s.keepsSecrets t) ∧
  (∀ (s : State) (dt : Nat) (fn : Fn) (v : BitVec 32), s.serves fn.val = true → fn.val ≠ 0 ∨ v ≠ 0x5A5AA5A5 →
    exec (.pwrReset dt fn v) s = .next (s.elapse dt)) ∧
  (∀ (s : State) (p : Place), s.board.powered = true → s.board.slotPins ≠ p.val →
    exec (.slotIdChange p) s =
      .next ({ s with board := { s.board with slotPins := p.val } }.raise stSlotIdChanged (beData [(1, s.board.slot), (1, p.val)])))

/-- The feed, the hold-up bank and the coolant: ranges reported, loss of feed, return, switch-off and power-on (19_module_connector_power_and_bring_up.md). -/
def Obligations.BoardFeed : Prop :=
  (∀ (s : State) (v : BitVec 16), s.board.powered = true → s.board.lost = false → feedOk v.toNat = true →
    v.toNat < 48000 ∨ 60000 < v.toNat → s.board.feedReported = false →
    exec (.feedRange v) s = .next ({ s with board := { s.board with feedMv := v.toNat, feedReported := true } }.raise stFeedRange (beData [(2, v.toNat)]))) ∧
  (∀ (s : State) (v : BitVec 16), s.board.powered = true → s.board.lost = false → 48000 ≤ v.toNat → v.toNat ≤ 60000 →
    exec (.feedRange v) s = .next { s with board := { s.board with feedMv := v.toNat, feedReported := false } }) ∧
  (∀ (s : State) (dt : Nat) (v : BitVec 16), v.toNat < 44000 → s.board.powered = true → s.board.lost = false →
    ∃ t, exec (.feedLoss dt v) s = .next t ∧ t.board = { s.board with feedMv := v.toNat, lost := true, lossWake := true } ∧
      (∀ r, t.fOf r = 0) ∧ t.journal.accepting = false ∧ (s.journal.accepting = true → t.journal.queued = []) ∧
      t.power = { (s.elapse dt).power with reachedTide := (s.tideAfter dt).toNat, reachedPre := !s.tide.stepped } ∧
      t = { s.elapse dt with net := t.net, power := t.power, journal := t.journal, integ := t.integ, board := t.board }) ∧
  (∀ (s : State) (dt : Nat) (v : BitVec 32), 66000 < v.toNat → s.board.powered = true → s.board.lost = false →
    ∃ t, exec (.overVoltageDisconnect dt v) s = .next t ∧ t.board = { s.board with feedMv := v.toNat, lost := true, lossWake := true } ∧
      (∀ r, t.fOf r = 0) ∧ t.journal.accepting = false ∧
      t.power = { (s.elapse dt).power with reachedTide := (s.tideAfter dt).toNat, reachedPre := !s.tide.stepped } ∧
      t = { s.elapse dt with net := t.net, power := t.power, journal := t.journal, integ := t.integ, board := t.board }) ∧
  (∀ (s : State) (dt : Nat) (v : BitVec 16), s.board.powered = true → s.board.lost = true → 46000 < v.toNat → v.toNat ≤ 66000 →
    ∃ t, exec (.feedReturn dt v) s = .next t ∧ t.board.powered = true ∧ t.board.lost = false ∧ t.board.ready = false ∧ t.board.stage = 0 ∧
      t.board.feedMv = v.toNat ∧ t.hbm = [] ∧ t.tide.count = s.tideAfter dt ∧ s.keepsSecrets t) ∧
  (∀ (s : State) (dt : Nat), s.board.powered = true → s.board.lost = true →
    ∃ t, exec (.bankDepleted dt) s = .next t ∧ t.board.powered = false ∧ t.board.ready = false ∧ t.power.mode = 4 ∧ t.hbm = [] ∧ t.jobs = [] ∧
      s.keepsSecrets t ∧ t.journal.records = s.journal.records) ∧
  (∀ (s : State) (dt : Nat) (v : BitVec 16), s.board.powered = false → 46000 < v.toNat → v.toNat ≤ 66000 → feedOk s.board.feedMv = false →
    s.board.eoffN = true → s.board.eoff = false →
    ∃ t, exec (.powerOn dt v) s = .next t ∧ t.board.powered = true ∧ t.board.ready = false ∧ t.board.stage = 0 ∧ t.board.feedMv = v.toNat ∧
      t.tide.count = 0 ∧ t.tide.mode = .free ∧ t.power.wake = none ∧ t.hbm = [] ∧ s.keepsSecrets t) ∧
  (∀ (s : State) (dt : Nat) (v : BitVec 16), s.board.powered = false → 46000 < v.toNat → v.toNat ≤ 66000 → feedOk s.board.feedMv = false →
    s.board.eoffN = false → exec (.powerOn dt v) s = .next { s.elapse dt with board := { s.board with feedMv := v.toNat } }) ∧
  (∀ (s : State) (dt : Nat) (a b : Int) (f : Nat), s.board.powered = true → s.board.coolantSince = none → coolantOut a f = true →
    exec (.coolantSample dt a b f) s = .next { s.elapse dt with board := { s.board with
      inletC := a, outletC := b, flow := f, coolantSince := some (s.now + dt) } }) ∧
  (∀ (s : State) (dt t0 : Nat) (a b : Int) (f : Nat), s.board.powered = true → s.board.coolantSince = some t0 → coolantOut a f = true →
    t0 + 1000000000 ≤ s.now + dt → s.board.coolantReported = false →
    exec (.coolantSample dt a b f) s = .next ({ s.elapse dt with board := { s.board with
      inletC := a, outletC := b, flow := f, coolantReported := true } }.raise stCoolantRange (beData [(1, tempByte a), (1, f)]))) ∧
  (∀ (s : State) (dt : Nat) (a b : Int) (f : Nat), s.board.powered = true → coolantOut a f = false →
    exec (.coolantSample dt a b f) s = .next { s.elapse dt with board := { s.board with
      inletC := a, outletC := b, flow := f, coolantSince := none, coolantReported := false } })

/-- Each boot stage ends with its own effect and the next stage begins (19_module_connector_power_and_bring_up.md, 17_firmware_images_and_journal.md). -/
def Obligations.BootStages : Prop :=
  (∀ (s : State) (dt : Nat) (r : BootReport), s.booting = false → exec (.bootStageDone dt r) s = .next (s.elapse dt)) ∧
  (∀ (s : State) (dt : Nat) (r : BootReport), s.booting = true → s.board.stage = 0 ∨ s.board.stage = 4 →
    exec (.bootStageDone dt r) s = .next { s.elapse dt with board := { s.board with stage := s.board.stage + 1 } }) ∧
  (∀ (s : State) (dt : Nat) (r : BootReport), s.booting = true → s.board.stage = 1 → r.verified = true → s.slotHeaderOk = true →
    ∃ t, exec (.bootStageDone dt r) s = .next t ∧ t.board = { s.board with stage := 2 } ∧ t.trust.fault = (s.trust.seed.isNone || !r.areaOk) ∧
      t.trust.digests.look 1 = some Config.romDigest ∧ t.trust.digests.look 2 = some (s.partDigest r.digests 0) ∧
      (t.trust.fault = true → t.trust.measured = s.trust.measured ∧ t.trust.aliasKey = s.trust.aliasKey ∧ t.free = s.free) ∧
      (t.trust.fault = false → t.trust.measured = s.partDigest r.digests 0) ∧
      (s.partDigest r.digests 0 = s.trust.measured → t.trust.aliasKey = s.trust.aliasKey ∧ t.trust.chain = s.trust.chain) ∧ s.keepsSecrets t ∧
      t = { s.elapse dt with free := t.free, trust := t.trust, board := t.board }) ∧
  (∀ (s : State) (dt : Nat) (r : BootReport), s.booting = true → s.board.stage = 1 → r.verified = false → s.fw.pending ≠ some s.fw.booting →
    exec (.bootStageDone dt r) s = .next ({ s.elapse dt with
      trust := { s.trust with fault := s.trust.seed.isNone || !r.areaOk }, board := { s.board with stage := 8 }
      fw := { s.fw with mode := .recovery } }.raise stRecoveryMode (beData [(1, s.fw.active)]))) ∧
  (∀ (s : State) (dt : Nat) (r : BootReport), s.booting = true → s.board.stage = 2 → r.verified = true → s.slotHeaderOk = true → s.slotPartsOk = true →
    ∃ t, exec (.bootStageDone dt r) s = .next t ∧ t.board = { s.board with stage := 3 } ∧
      (∀ i, i < 7 → t.trust.digests.look (i + 3) = some (s.partDigest r.digests (i + 1))) ∧
      (∀ i, i < 3 ∨ 9 < i → t.trust.digests.look i = s.trust.digests.look i) ∧ t.trust = { s.trust with digests := t.trust.digests } ∧
      t = { s.elapse dt with trust := t.trust, board := t.board }) ∧
  (∀ (s : State) (dt : Nat) (r : BootReport), s.booting = true → s.board.stage = 3 → s.fw.pending ≠ some s.fw.booting →
    ∃ t, exec (.bootStageDone dt r) s = .next t ∧ t.board.stage = 4 ∧ t.journal.accepting = true ∧
      t.limits.cap = t.dictVal 0x210002 ∧ t.pm.localGib = t.dictVal 0x260001 ∧ t.hbm = s.hbm ∧ t.queues = s.queues) ∧
  (∀ (s : State) (dt : Nat) (r : BootReport) (x : BoardIdentity), s.booting = true → s.board.stage = 5 → r.identity = some x → 120 ≤ r.bankTenths →
    s.integ.sweep = none →
    ∃ t, exec (.bootStageDone dt r) s = .next t ∧ t.board = { s.board with stage := 6, fruOk := true, holdupOk := true } ∧
      t.dictVal 0x100004 = x.revision.toNat ∧ t.integ.sweep = some (3, s.now + dt) ∧
      t = { s.elapse dt with dict := t.dict, dictOct := t.dictOct, integ := t.integ, board := t.board }) ∧
  (∀ (s : State) (dt : Nat) (r : BootReport), s.booting = true → s.board.stage = 6 →
    exec (.bootStageDone dt r) s = .next { s.elapse dt with board := { s.board with stage := if s.integ.sweep.isNone then 7 else 6 } })

/-- What ready brings, a pending slot is confirmed at ready, and a boot attempt that takes 120 s is reset (19_module_connector_power_and_bring_up.md, 17_firmware_images_and_journal.md, 15_fabric_failover_and_spares.md). -/
def Obligations.ReadyAndBootAttempts : Prop :=
  (∀ (s : State) (dt : Nat), s.booting = true → s.board.stage = 7 →
    ∃ t, exec (.moduleReady dt) s = .next t ∧ t.board = { s.board with ready := true } ∧
      t.pair.role = (if s.pairSetting 0x500001 = 1 then .init else .alone) ∧ t.pair.since = s.now + dt ∧
      (s.fw.pending = some s.fw.booting → t.fw.active = s.fw.booting ∧ t.fw.pending = none ∧ t.fw.mode = .idle ∧ t.fw.attempts = 0) ∧
      (s.fw.pending ≠ some s.fw.booting → t.fw.active = s.fw.active ∧ t.fw.pending = s.fw.pending) ∧
      t.fw.failed = [] ∧ t.fw.rolledBack = none ∧ s.keepsSecrets t ∧ t.hbm = s.hbm ∧ t.ctxs = s.ctxs ∧ t.tide.count = s.tideAfter dt) ∧
  (∀ (s : State) (dt : Nat), s.booting = false ∨ s.board.stage ≠ 7 → exec (.moduleReady dt) s = .next (s.elapse dt)) ∧
  (∀ (s : State) (dt : Nat), s.board.powered = true → s.board.ready = false → s.board.bootWaits = false → s.board.stuck = false →
    s.fw.pending = some s.fw.booting → s.board.bootAt + 120000000000 ≤ s.now + dt →
    ∃ t, exec (.bootAttemptTimeout dt) s = .next t ∧ t.board.ready = false ∧ t.board.stage = 0 ∧ t.fw.failed = s.fw.failed ++ [s.fw.attempts] ∧
      t.hbm = [] ∧ t.tide.count = s.tideAfter dt ∧ s.keepsSecrets t) ∧
  (∀ (s : State) (dt : Nat), s.board.ready = true ∨ s.fw.pending ≠ some s.fw.booting ∨ s.now + dt < s.board.bootAt + 120000000000 →
    exec (.bootAttemptTimeout dt) s = .next (s.elapse dt)) ∧
  (∀ s : State, s.fw.pending = none → s.fw.select = { s.fw with booting := s.fw.active }) ∧
  (∀ (s : State) (p : Nat), s.fw.pending = some p → s.fw.attempts < 3 → s.fw.select = { s.fw with attempts := s.fw.attempts + 1, booting := p }) ∧
  (∀ (s : State) (p : Nat), s.fw.pending = some p → 3 ≤ s.fw.attempts →
    s.fw.select.booting = s.fw.active ∧ s.fw.select.pending = none ∧ (s.fw.select.slot p).valid = false)

/-- The six update commands: what each accepts, refuses and leaves (17_firmware_images_and_journal.md). -/
def Obligations.UpdateCommands : Prop :=
  (∀ (s : State) (st : Status), (s.updFinish st).path 3 0 = { s.path 3 0 with busy := false, seq := (s.path 3 0).seq + 1, status := st } ∧
    s.updFinish st = { s with fw := { s.fw with command := none }, paths := (s.updFinish st).paths }) ∧
  (∀ (s : State) (f : Firmware), let t := s.setFw f
    t = { s with fw := f, trust := { s.trust with areaWrites := t.trust.areaWrites, areaMac := t.trust.areaMac } } ∧
    (f.bootWord = s.fw.bootWord → t.trust = s.trust) ∧ (f.bootWord ≠ s.fw.bootWord → t.trust.areaWrites = s.trust.areaWrites + 1)) ∧
  (∀ (s : State) (v : BitVec 128), s.updCommand 1 = some v → s.inRecovery = false → s.fw.mode = .idle → updBytes v = 4096 →
    s.rangeBad 0 (updCva v) 4096 0 = none → s.headerRefusal ((s.readCvaN 0 none (updCva v) 4096).getD []) = none →
    exec .updBegin s = .next ((s.setFw { s.fw.setSlot (1 - s.fw.active) ⟨false, (s.readCvaN 0 none (updCva v) 4096).getD [], []⟩ with
      mode := .receiving, received := 4096, writes := 1 - s.fw.active }).updFinish stOk)) ∧
  (∀ (s : State) (v : BitVec 128), s.updCommand 1 = some v → s.fw.mode = .idle → updBytes v ≠ 4096 →
    exec .updBegin s = .next (s.updFinish stLengthBounds)) ∧
  (∀ (s : State) (v : BitVec 128) (r : Nat), s.updCommand 1 = some v → s.inRecovery = false → s.fw.mode = .idle → updBytes v = 4096 →
    s.rangeBad 0 (updCva v) 4096 0 = none → s.headerRefusal ((s.readCvaN 0 none (updCva v) 4096).getD []) = some r →
    exec .updBegin s = .next ((({ s with fw := { s.fw with reason := r } } : State).raise stHdrRefused (beData [(1, r)])).updFinish stHdrRefused)) ∧
  (∀ (s : State) (v : BitVec 128), s.updCommand 2 = some v → s.inRecovery = false → s.fw.mode = .receiving → s.dataRefusal (updCva v) (updBytes v) = none →
    exec .updData s = .next { s with fw := { s.fw with taking := some ((s.readCvaN 0 none (updCva v) (updBytes v)).getD []) } }) ∧
  (∀ (s : State) (v : BitVec 128) (st : Status), s.updCommand 2 = some v → s.fw.mode = .receiving → s.dataRefusal (updCva v) (updBytes v) = some st →
    exec .updData s = .next (s.updFinish st)) ∧
  (∀ (s : State) (v : BitVec 128), s.updCommand 3 = some v → s.fw.mode = .receiving →
    s.fw.received < hdrImageBytes (s.fw.slot s.fw.writes).header →
    exec .updEnd s = .next ((s.raise stImageIncomplete (beData [(4, s.fw.received)])).updFinish stImageIncomplete)) ∧
  (∀ (s : State) (v : BitVec 128), s.updCommand 3 = some v → s.fw.mode = .receiving →
    hdrImageBytes (s.fw.slot s.fw.writes).header ≤ s.fw.received → (s.fw.slot s.fw.writes).badPart = none →
    exec .updEnd s = .next ((s.setFw { s.fw.setSlot s.fw.writes { s.fw.slot s.fw.writes with valid := true } with mode := .verified }).updFinish stOk)) ∧
  (∀ (s : State) (v : BitVec 128), s.updCommand 4 = some v → s.fw.mode = .receiving ∨ s.fw.mode = .verified →
    exec .updAbort s = .next ((s.setFw { s.fw.setSlot s.fw.writes { s.fw.slot s.fw.writes with valid := false } with
      mode := if s.inRecovery then .recovery else .idle }).updFinish stOk)) ∧
  (∀ (s : State) (v : BitVec 128), s.updCommand 5 = some v → s.fw.mode = .verified →
    exec .updActivate s = .next ((s.setFw { s.fw with pending := some s.fw.writes, attempts := 0, mode := .pending }).updFinish stOk)) ∧
  (∀ (s : State) (v : BitVec 128), s.updCommand 6 = some v → s.fw.mode = .pending →
    exec .updCancel s = .next ((s.setFw { s.fw with pending := none, mode := .verified }).updFinish stOk)) ∧
  (∀ (s : State) (v : BitVec 128), s.fw.mode ≠ .receiving →
    let refused := (s.raise stUpdState (beData [(1, updCode s.fw.mode)])).updFinish stUpdState
    (s.updCommand 2 = some v → exec .updData s = .next refused) ∧ (s.updCommand 3 = some v → exec .updEnd s = .next refused) ∧
    (s.fw.mode ≠ .verified → s.updCommand 4 = some v → exec .updAbort s = .next refused) ∧
    (s.fw.mode ≠ .verified → s.updCommand 5 = some v → exec .updActivate s = .next refused) ∧
    (s.fw.mode ≠ .pending → s.updCommand 6 = some v → exec .updCancel s = .next refused)) ∧
  (∀ s : State, (s.updCommand 1 = none → exec .updBegin s = .next s) ∧ (s.updCommand 2 = none → exec .updData s = .next s) ∧
    (s.updCommand 3 = none → exec .updEnd s = .next s) ∧ (s.updCommand 4 = none → exec .updAbort s = .next s) ∧
    (s.updCommand 5 = none → exec .updActivate s = .next s) ∧ (s.updCommand 6 = none → exec .updCancel s = .next s))

/-- Records become durable in order, compaction, the body written to flash, and a flash error (17_firmware_images_and_journal.md). -/
def Obligations.JournalAndFlash : Prop :=
  (∀ (s : State) (r : JournalRec) (rest : List JournalRec), s.board.powered = true → s.journal.queued = r :: rest →
    exec .journalRecordDurable s = .next { s with journal := { s.journal with
      queued := rest, records := s.journal.records ++ [r], durable := r.seq + 1 } }) ∧
  (∀ s : State, s.journal.queued = [] → exec .journalRecordDurable s = .next s) ∧
  (∀ s : State, s.woOpen = true → s.journal.accepting = true → s.journal.retired < 1024 → s.journal.compacting = none →
    exec (.journalCompact true) s = .next { s with journal := { s.journal with compacting := some (s.journal.nextSeq - 1) } }) ∧
  (∀ s : State, s.board.ready = true → s.mgmtUp = true → s.journal.accepting = true → s.journal.retired < 1024 → s.journal.compacting = none →
    exec (.journalCompact false) s = .next (if 768 ≤ s.journal.segments then
      { s with journal := { s.journal with compacting := some (s.journal.nextSeq - 1) } } else s)) ∧
  (∀ (s : State) (b : Nat), s.board.powered = true → s.journal.compacting = some b → s.journal.accepting = true → s.journal.retired < 1024 →
    s.journal.queued = [] →
    ∃ t, exec .compactDone s = .next t ∧ t.journal.generation = s.journal.generation + 1 ∧ t.journal.compacting = none ∧
      t.journal.records = keptRecords s.fw s.journal.records ++
        [⟨s.journal.nextSeq, 0x0D, 0, s.schema, s.tideNat, !s.tide.stepped, leBytes 8 (s.journal.generation + 1)⟩] ∧
      t.dictVal 0x820003 = min (dictMax 0x820003) (s.dictVal 0x820003 + 1) ∧ t = { s with dict := t.dict, journal := t.journal }) ∧
  (∀ (s : State) (dt : Nat) (bs : List Byte), s.board.powered = true → s.fw.taking = some bs → s.journal.queued = [] → s.pair.role ≠ .leaving →
    s.board.lost = false →
    exec (.updDataDone dt) s = .next (({ s.elapse dt with fw := { s.fw.setSlot s.fw.writes
        { s.fw.slot s.fw.writes with body := (s.fw.slot s.fw.writes).body ++ bs } with
      received := s.fw.received + bs.length, taking := none } } : State).updFinish stOk)) ∧
  (∀ (s : State) (dt : Nat), s.fw.taking = none ∨ s.journal.queued ≠ [] ∨ s.board.lost = true → exec (.updDataDone dt) s = .next (s.elapse dt)) ∧
  (∀ (s : State) (o : BitVec 30), s.board.powered = true → s.fw.taking = none →
    ∃ t, exec (.flashFault o) s = .next t ∧ t.net = (s.raise stFlashFault (beData [(4, o.toNat)])).net ∧
      (o.toNat < 0x18000000 → t.fw.slotA = { s.fw.slotA with valid := false } ∧ t.fw.slotB = s.fw.slotB ∧ t.fw.pending ≠ some 0 ∧ t.journal = s.journal) ∧
      (0x18000000 ≤ o.toNat → o.toNat < 0x30000000 → t.fw.slotB = { s.fw.slotB with valid := false } ∧ t.fw.slotA = s.fw.slotA ∧
        t.fw.pending ≠ some 1 ∧ t.journal = s.journal) ∧
      (0x30000000 ≤ o.toNat → o.toNat < 0x38000000 → t.journal = { s.journal with retired := s.journal.retired + 1 } ∧ t.fw = s.fw) ∧
      (0x38000000 ≤ o.toNat → t.journal = s.journal ∧ t.fw = s.fw) ∧
      t = { s with net := t.net, fw := t.fw, trust := { s.trust with areaWrites := t.trust.areaWrites, areaMac := t.trust.areaMac }, journal := t.journal })

/-- CREATE, DESTROY and SET of SEC_CTX and the write of SEC_SCHED (11_host_link_contexts_and_trust.md). -/
def Obligations.ContextCommands : Prop :=
  (∀ (s : State) (st : Status), (s.secDone st).path 2 0 = { s.path 2 0 with busy := false, seq := (s.path 2 0).seq + 1, status := st } ∧
    s.secDone st = { s with sched := { s.sched with command := none }, paths := (s.secDone st).paths }) ∧
  (∀ (s : State) (v : BitVec 64), s.secCommand 1 = some v → s.createRefusal v = none →
    exec .ctxCreate s = .next (((s.setCtx (secFunc v) { Context.reset with
        mode := .active, gen := if (s.ctx (secFunc v)).gen = 65535 then 1 else (s.ctx (secFunc v)).gen + 1
        quota := secQuota v, weight := secWeight v, ide := (s.ctx (secFunc v)).ide }).journalPut 0x06 (secFunc v)
      (leBytes 2 (if (s.ctx (secFunc v)).gen = 65535 then (1 : BitVec 16) else (s.ctx (secFunc v)).gen + 1).toNat)).secDone stOk)) ∧
  (∀ (s : State) (v : BitVec 64) (st : Status), s.secCommand 1 = some v → s.createRefusal v = some st →
    exec .ctxCreate s = .next (s.secDone st)) ∧
  (∀ (s : State) (v : BitVec 64), s.resident (secFunc v) = true → s.createRefusal v =
    some (if secFunc v ≠ 0 ∧ s.config.valAt 0 0 ≠ 1 then stFuncAbsent else stCtxExists)) ∧
  (∀ (s : State) (v : BitVec 64), s.secCommand 2 = some v → s.resident (secFunc v) = true →
    exec .ctxDestroy s = .next (s.setCtx (secFunc v) { s.ctx (secFunc v) with tear := .due true, tearAt := s.now })) ∧
  (∀ (s : State) (v : BitVec 64), s.secCommand 2 = some v → s.resident (secFunc v) = false → exec .ctxDestroy s = .next (s.secDone stCtxState)) ∧
  (∀ (s : State) (v : BitVec 64), s.secCommand 3 = some v → s.setRefusal v = none →
    exec .ctxSet s = .next ((s.setCtx (secFunc v) { s.ctx (secFunc v) with quota := secQuota v, weight := secWeight v }).secDone stOk)) ∧
  (∀ (s : State) (v : BitVec 64) (st : Status), s.secCommand 3 = some v → s.setRefusal v = some st → exec .ctxSet s = .next (s.secDone st)) ∧
  (∀ s : State, (s.secCommand 1 = none → exec .ctxCreate s = .next s) ∧ (s.secCommand 2 = none → exec .ctxDestroy s = .next s) ∧
    (s.secCommand 3 = none → exec .ctxSet s = .next s)) ∧
  (∀ (s : State) (ms us : Nat), s.serves 0 = true → 1 ≤ ms → ms ≤ 255 → 100 ≤ us → us ≤ 100000 →
    exec (.secSchedWrite 0 (BitVec.ofNat 32 (ms * 2 ^ 24 + us))) s = .next { s with sched := { s.sched with quantum := us, overrun := ms } }) ∧
  (∀ (s : State) (fn : Fn) (v : BitVec 32), s.serves fn.val = true → fn.val ≠ 0 ∨ v.toNat < 2 ^ 24 ∨ v.toNat % 2 ^ 17 < 100 ∨ 100000 < v.toNat % 2 ^ 17 →
    exec (.secSchedWrite fn v) s = .next s)

/-- What makes a teardown due, and its stages from the fence to FREE (11_host_link_contexts_and_trust.md). -/
def Obligations.TeardownOfAContext : Prop :=
  (∀ (s : State) (fn : Fn), s.fnPresent fn.val = true → s.asleep = false → s.resident fn.val = true →
    exec (.flr fn) s = .next { s.setCtx fn.val { s.ctx fn.val with tear := .due false, tearAt := s.now } with
      power := { s.power with votes := s.power.votes.del fn.val } }) ∧
  (∀ (s : State) (fn : Fn), s.fnPresent fn.val = false → exec (.flr fn) s = .next s) ∧
  (∀ s : State, s.fnPresent 0 = true → s.asleep = false →
    ∃ t, exec .vfEnableClear s = .next t ∧ t.config.valAt 0 0 = 0 ∧ t.ctx 0 = s.ctx 0 ∧
      (∀ c, 1 ≤ c → c < 16 → s.resident c = true → t.ctx c = { s.ctx c with tear := .due false, tearAt := s.now }) ∧
      (∀ c, 1 ≤ c → c < 16 → (s.ctx c).mode = .free → t.ctx c = s.ctx c) ∧ t = { s with ctxs := t.ctxs, config := t.config }) ∧
  (∀ s : State, s.board.powered = true → s.power.mode ≠ 4 → s.asleep = false →
    ∃ t, exec .endpointReset s = .next t ∧ t.config = [] ∧
      (∀ c, c < 16 → s.resident c = true → t.ctx c = { s.ctx c with tear := .due false, tearAt := s.now, byReset := true }) ∧
      (∀ c, c < 16 → (s.ctx c).mode = .free → t.ctx c = s.ctx c) ∧ (∀ c, c < 16 → t.power.votes.look c = none) ∧
      t = { s with ctxs := t.ctxs, config := t.config, power := { s.power with votes := t.power.votes } }) ∧
  (∀ (s : State) (c : Ctx), s.board.ready = true → s.asleep = false → s.slackRuns = true → (s.ctx c.val).tear = .due false →
    ∃ t, exec (.teardown c) s = .next t ∧ (t.ctx c.val).tear = .waiting ∧ (t.ctx c.val).shut = true ∧ (t.ctx c.val).mode = .teardown ∧
      (t.ctx c.val).gen = (s.ctx c.val).gen ∧ t.serving.steps.look c.val = none ∧ (∀ d, d < 16 → d ≠ c.val → t.ctx d = s.ctx d) ∧
      (∀ q, q < 8 → (t.queue c.val q).enable = false) ∧ t.hbm = s.hbm ∧ s.keepsSecrets t) ∧
  (∀ (s : State) (dt : Nat) (c : Ctx), s.clocked = true → (s.ctx c.val).tear = .waiting →
    s.tearQuiet c.val = true ∨ (s.ctx c.val).tearAt + 1000000 ≤ s.now + dt →
    ∃ t, exec (.teardownWaitEnd dt c) s = .next t ∧ t.ctx c.val = { s.ctx c.val with
        mode := .scrub, tear := .queued, ide := ⟨[], none, false, true⟩, scrubBytes := s.ownedBytes c.val } ∧
      t.pm = { s.pm with fills := s.pm.fills ++ [⟨0, .scrub c.val⟩] } ∧ t = { s.elapse dt with ctxs := t.ctxs, dma := t.dma, pm := t.pm }) ∧
  (∀ (s : State) (dt : Nat) (c : Ctx) (rest : List FillItem), s.clocked = true → (s.ctx c.val).tear = .queued →
    s.pm.fills = ⟨0, .scrub c.val⟩ :: rest → s.integ.recovering = none → s.integ.persistent = none →
    exec (.teardownScrubStart dt c) s = .next ((s.elapse dt).setCtx c.val { s.ctx c.val with
      tear := .scrubbing, tearAt := s.now + dt, scrubBytes := s.ownedBytes c.val })) ∧
  (∀ (s : State) (dt : Nat) (c : Ctx), s.clocked = true → (s.ctx c.val).tear = .scrubbing →
    (s.ctx c.val).tearAt + 200000 + (s.ctx c.val).scrubBytes * 995 / 1000000 ≤ s.now + dt →
    ∃ t, exec (.teardownScrubDone dt c) s = .next t ∧
      t.ctx c.val = { Context.reset with gen := (s.ctx c.val).gen, shut := true, ide := (s.ctx c.val).ide } ∧
      (∀ d, d < 16 → d ≠ c.val → t.ctx d = s.ctx d) ∧
      (∀ e ∈ t.pm.maps, e.1 / 2 ^ 26 ≠ c.val) ∧ (∀ e ∈ t.progs, e.1 / 1024 ≠ c.val) ∧ (∀ e ∈ t.serving.requests, e.2.ctx ≠ c.val) ∧
      (∀ e ∈ t.kv.tables, e.2.ctx ≠ c.val) ∧ (∀ e ∈ t.video.dec, e.2.ctx ≠ c.val) ∧ (∀ e ∈ t.video.enc, e.2.ctx ≠ c.val) ∧
      (∀ e ∈ s.pm.frames, ∀ g, e.2.owner = .ctx c.val g → ∀ a, e.1 * granule ≤ a → a < (e.1 + 2 ^ e.2.k) * granule → t.hbm.read a = 0) ∧
      (∀ e ∈ s.pm.maps, e.1 / 2 ^ 26 ≠ c.val → e ∈ t.pm.maps) ∧ s.keepsSecrets t) ∧
  (∀ (s : State) (c : Ctx), s.board.powered = true → (s.ctx c.val).ide.retired = true → s.resident c.val = false →
    exec (.lateCompletion c) s = .next (s.bump 0x710005)) ∧
  (∀ (s : State) (c : Ctx), (s.ctx c.val).ide.retired = false → exec (.lateCompletion c) s = .next s)

/-- A context starts, its slice ends, the switch clears the chip, and a job that overruns its slice ends (11_host_link_contexts_and_trust.md, 01_package_regions_and_figures.md). -/
def Obligations.TimeSharing : Prop :=
  (∀ (s : State) (dt c : Nat), s.computeOpen = true → s.sched.running = none → s.sched.clearing = none → s.allRegionsFree = true →
    (s.elapse dt).nextCandidate none = some c → s.sched.holds = none ∨ s.sched.holds = some c →
    exec (.contextStart dt) s = .next { s.elapse dt with sched := { s.sched with
      running := some c, last := c, sliceStart := s.now + dt, sliceLen := (s.ctx c).weight.toNat * s.sched.quantum
      switching := none, clearing := none, holds := some c } }) ∧
  (∀ (s : State) (dt c d : Nat), s.computeOpen = true → s.sched.running = none → s.sched.clearing = none → s.allRegionsFree = true →
    (s.elapse dt).nextCandidate none = some c → s.sched.holds = some d → d ≠ c →
    exec (.contextStart dt) s = .next { s.elapse dt with sched := { s.sched with clearing := some (s.now + dt) } }) ∧
  (∀ (s : State) (dt c : Nat), s.sched.running = some c → exec (.contextStart dt) s = .next (s.elapse dt)) ∧
  (∀ (s : State) (dt c d : Nat), s.clocked = true → s.sched.running = some c → s.sched.switching = none → s.sched.clearing = none →
    (s.elapse dt).candidate c = true → s.sched.sliceStart + 1000 * s.sched.sliceLen ≤ s.now + dt → (s.elapse dt).nextCandidate (some c) = some d →
    exec (.sliceEnd dt) s = .next { s.elapse dt with sched := { s.sched with switching := some (s.now + dt), switchMs := s.sched.overrun } }) ∧
  (∀ (s : State) (dt c : Nat), s.clocked = true → s.sched.running = some c → s.sched.switching = none → s.sched.clearing = none →
    (s.elapse dt).candidate c = true → s.sched.sliceStart + 1000 * s.sched.sliceLen ≤ s.now + dt → (s.elapse dt).nextCandidate (some c) = none →
    exec (.sliceEnd dt) s = .next { s.elapse dt with sched := { s.sched with
      sliceStart := s.now + dt, sliceLen := (s.ctx c).weight.toNat * s.sched.quantum } }) ∧
  (∀ (s : State) (dt c : Nat), s.clocked = true → s.sched.running = some c → s.sched.switching = none → s.sched.clearing = none →
    (s.elapse dt).candidate c = true → s.now + dt < s.sched.sliceStart + 1000 * s.sched.sliceLen →
    exec (.sliceEnd dt) s = .next (s.elapse dt)) ∧
  (∀ (s : State) (dt c t0 : Nat), s.clocked = true → s.sched.running = some c → s.sched.switching = some t0 → s.allRegionsFree = true →
    s.integ.windows = [] → exec (.contextSwitchRegionsFree dt) s =
      .next (({ s.elapse dt with sched := { s.sched with running := none, switching := none } } : State).count 0xC3 none none 1).startNext) ∧
  (∀ (s : State) (dt t0 : Nat), s.board.powered = true → s.asleep = false → s.sched.clearing = some t0 → t0 + 11900 ≤ s.now + dt →
    ∃ t, exec (.contextClearDone dt) s = .next t ∧ (∀ r, r < 6 → (t.regions.valAt .reset r).sram = none) ∧
      (∀ r, r < 6 → (t.regions.valAt .reset r).phase = (s.regions.valAt .reset r).phase) ∧ t.hbm = s.hbm ∧ t.ctxs = s.ctxs ∧ t.sched.clearing = none) ∧
  (∀ (s : State) (dt t0 : Nat), s.sched.clearing = some t0 → s.now + dt < t0 + 11900 → exec (.contextClearDone dt) s = .next (s.elapse dt)) ∧
  (∀ (s : State) (dt t0 id : Nat) (j : Job), s.clocked = true → s.jobs.look id = some j → j.placed = true → j.fault = none →
    s.sched.running = some j.ctx → s.sched.switching = some t0 → t0 + 1000000 * s.sched.switchMs ≤ s.now + dt →
    ∃ t, exec (.sliceOverrun dt id) s = .next t ∧ t.jobs = s.jobs.put id { j with fault := some (stSliceOverrun, j.activeOp), once := true } ∧
      t = { ({ s.elapse dt with jobs := t.jobs } : State).bump 0x710009 with jobs := t.jobs })

/-- TDISP: what is answered, LOCK, START and STOP, and the errors of a request (11_host_link_contexts_and_trust.md). -/
def Obligations.TdispRequests : Prop :=
  (∀ (s : State) (fn : Fn), s.doeOpen = true → fn.val ≠ 0 → s.fnPresent fn.val = true →
    exec (.tdispGetVersion fn) s = .next (s.emit (.doe 0x101 [fn.val, 1, 0x10])) ∧
    exec (.tdispGetCapabilities fn) s = .next (s.emit (.doe 0x102 [fn.val, 0x81, 0x82, 0x83, 0x84, 0x85, 0x86, 0x87])) ∧
    exec (.getDeviceInterfaceState fn) s = .next (s.emit (.doe 0x105 [fn.val,
      match (s.ctx fn.val).tdi with | .unlocked => 0 | .locked => 1 | .run => 2 | .error => 3])) ∧
    exec (.getDeviceInterfaceReport fn) s = .next (s.emit (.doe 0x104 [fn.val, 2 ^ 26, 2 ^ 20, 2 ^ 36, 0x3FF0000, 0x3FF8000, 0, 0,
      (s.ctx fn.val).gen.toNat, (s.ctx fn.val).quota.toNat, (s.ctx fn.val).weight.toNat]))) ∧
  (∀ (s : State) (fn : Fn), s.doeOpen = true → fn.val ≠ 0 → s.fnPresent fn.val = true → s.lockable fn.val = true →
    exec (.lockInterfaceRequest fn) s = .next ((s.setCtx fn.val { s.ctx fn.val with mode := .locked, tdi := .locked }).emit (.doe 0x103 [fn.val]))) ∧
  (∀ (s : State) (fn : Fn), s.doeOpen = true → fn.val ≠ 0 → s.fnPresent fn.val = true → s.lockable fn.val = false →
    exec (.lockInterfaceRequest fn) s = .next (s.emit (.doe 0x17F [fn.val, 0x0004]))) ∧
  (∀ (s : State) (fn : Fn), s.doeOpen = true → fn.val ≠ 0 → s.fnPresent fn.val = true → (s.ctx fn.val).mode = .locked → (s.ctx fn.val).tdi = .locked →
    exec (.startInterfaceRequest fn) s = .next ((s.setCtx fn.val { s.ctx fn.val with tdi := .run }).emit (.doe 0x106 [fn.val]))) ∧
  (∀ (s : State) (fn : Fn), s.doeOpen = true → fn.val ≠ 0 → s.fnPresent fn.val = true → (s.ctx fn.val).tdi ≠ .locked →
    exec (.startInterfaceRequest fn) s = .next (s.emit (.doe 0x17F [fn.val, 0x0004]))) ∧
  (∀ (s : State) (fn : Fn), s.doeOpen = true → fn.val ≠ 0 → s.fnPresent fn.val = true → s.resident fn.val = true →
    exec (.stopInterfaceRequest fn) s =
      .next ((s.setCtx fn.val { s.ctx fn.val with tear := .due false, tearAt := s.now }).emit (.doe 0x107 [fn.val]))) ∧
  (∀ (s : State) (fn : Fn), s.doeOpen = true → fn.val = 0 ∨ s.fnPresent fn.val = false →
    exec (.tdispGetVersion fn) s = .next (s.emit (.doe 0x17F [fn.val, 0x0101])) ∧
    exec (.lockInterfaceRequest fn) s = .next (s.emit (.doe 0x17F [fn.val, 0x0101])) ∧
    exec (.stopInterfaceRequest fn) s = .next (s.emit (.doe 0x17F [fn.val, 0x0101]))) ∧
  (∀ (s : State) (fn : Fn) (code : BitVec 8), s.doeOpen = true →
    exec (.tdispUnsupported fn code) s = .next (s.emit (.doe 0x17F [fn.val, 0x0007, code.toNat]))) ∧
  (∀ (s : State) (fn : Fn), s.fnPresent fn.val = true → (s.ctx fn.val).mode = .locked →
    ∃ t, exec (.tdiConfigChange fn) s = .next t ∧ t.ctx fn.val = { s.ctx fn.val with tdi := .error, tear := .due false, tearAt := s.now } ∧
      (∀ d, d ≠ fn.val → t.ctx d = s.ctx d) ∧ t = { s with ctxs := t.ctxs }) ∧
  (∀ (s : State) (fn : Fn), (s.ctx fn.val).mode ≠ .locked → exec (.tdiConfigChange fn) s = .next s) ∧
  (∀ (s : State) (fn : Fn), s.doeOpen = false → exec (.tdispGetVersion fn) s = .next s ∧ exec (.tdispGetCapabilities fn) s = .next s ∧
    exec (.lockInterfaceRequest fn) s = .next s ∧ exec (.getDeviceInterfaceReport fn) s = .next s ∧ exec (.getDeviceInterfaceState fn) s = .next s ∧
    exec (.startInterfaceRequest fn) s = .next s ∧ exec (.stopInterfaceRequest fn) s = .next s)

/-- IDE keys, the Secure stream and its failure; SPDM algorithms, certificate, challenge, measurements and sessions (11_host_link_contexts_and_trust.md, 13_power_states_and_wake.md). A signature is a free value, log entry 30. -/
def Obligations.IdeAndSpdm : Prop :=
  (∀ (s : State) (c : Ctx) (set : Fin 2) (tx : Bool) (sub : Fin 3) (key : BitVec 256), s.doeOpen = true → s.ideShut c.val = false →
    (s.ctx c.val).ide.secure = false ∨ (s.ctx c.val).ide.active ≠ some set.val →
    ∃ t, exec (.keyProg c set tx sub key) s = .next t ∧ (t.ctx c.val).ide.keys.look (ideKey set.val tx sub.val) = some key ∧
      (∀ k, k ≠ ideKey set.val tx sub.val → (t.ctx c.val).ide.keys.look k = (s.ctx c.val).ide.keys.look k) ∧
      t.ctx c.val = { s.ctx c.val with ide := { (s.ctx c.val).ide with keys := (t.ctx c.val).ide.keys, retired := false } } ∧
      (∀ d, d ≠ c.val → t.ctx d = s.ctx d) ∧ t = { s with ctxs := t.ctxs, trace := .doe 0x203 [c.val, set.val] :: s.trace }) ∧
  (∀ (s : State) (c : Ctx) (set : Fin 2) (tx : Bool) (sub : Fin 3) (key : BitVec 256), s.doeOpen = true →
    s.ideShut c.val = true ∨ ((s.ctx c.val).ide.secure = true ∧ (s.ctx c.val).ide.active = some set.val) →
    exec (.keyProg c set tx sub key) s = .next (s.emit (.doe 0x27F [c.val]))) ∧
  (∀ (s : State) (c : Ctx) (set : Fin 2), s.doeOpen = true → s.ideShut c.val = false → (s.ctx c.val).ide.complete set.val = true →
    exec (.kSetGo c set) s = .next ((s.setCtx c.val { s.ctx c.val with ide := { (s.ctx c.val).ide with
      active := some set.val, secure := true } }).emit (.doe 0x206 [c.val, set.val]))) ∧
  (∀ (s : State) (c : Ctx) (set : Fin 2), s.doeOpen = true → s.ideShut c.val = true ∨ (s.ctx c.val).ide.complete set.val = false →
    exec (.kSetGo c set) s = .next (s.emit (.doe 0x27F [c.val]))) ∧
  (∀ (s : State) (c : Ctx) (k : Nat), s.fnPresent c.val = true → (s.ctx c.val).ide.active = some k → (s.ctx c.val).mode ≠ .locked →
    exec (.ideIntegrityFailure c) s =
      .next ((s.setCtx c.val { s.ctx c.val with ide := { (s.ctx c.val).ide with secure := false } }).bump 0x710008)) ∧
  (∀ (s : State) (c : Ctx) (k : Nat), s.fnPresent c.val = true → (s.ctx c.val).ide.active = some k → (s.ctx c.val).mode = .locked →
    ∃ t, exec (.ideIntegrityFailure c) s = .next t ∧ (t.ctx c.val).tdi = .error ∧ (t.ctx c.val).tear = .due false ∧
      (t.ctx c.val).ide.secure = false ∧ (∀ d, d ≠ c.val → t.ctx d = s.ctx d) ∧ t = { s.bump 0x710008 with ctxs := t.ctxs }) ∧
  (∀ (s : State) (fn : Fn) (posted on : Bool), s.fnPresent fn.val = true → (s.ctx fn.val).mode = .locked →
    (on = false ∨ (s.ctx fn.val).ide.secure = false) →
    exec (.tlpReceive fn posted on) s = .next (if posted then s.bump 0x710007 else (s.bump 0x710007).emit (.unsupportedRequest fn.val))) ∧
  (∀ (s : State) (fn : Fn) (posted on : Bool), (s.ctx fn.val).mode ≠ .locked ∨ (on = true ∧ (s.ctx fn.val).ide.secure = true) →
    exec (.tlpReceive fn posted on) s = .next s) ∧
  (∀ s : State, s.doeOpen = true →
    exec (.spdmNegotiateAlgorithms true) s =
      .next ({ s with trust := { s.trust with negotiated := true } }.emit (.doe 0x63 [0x40, 0x04, 0x04, 0x02])) ∧
    exec (.spdmNegotiateAlgorithms false) s = .next (s.emit (.doe 0x7F [0x01]))) ∧
  (∀ s : State, s.doeOpen = true → s.trust.fault = false →
    exec (.spdmGetCertificate 0) s = .next (s.emit (.doe 0x02 (0 :: s.trust.chain.map BitVec.toNat))) ∧
    exec (.spdmChallenge 0) s = .next ({ s with free := s.free + 1 }.emit (.doe 0x03 [0, Config.freeNat s.free 0 % 2 ^ 4096])) ∧
    (∀ i, 1 ≤ i → i ≤ 11 → exec (.spdmGetMeasurements (BitVec.ofNat 8 i)) s = .next ({ s with free := s.free + 1 }.emit
      (.doe 0x60 ((i :: (s.measurement i).map BitVec.toNat) ++ [Config.freeNat s.free 0 % 2 ^ 4096]))))) ∧
  (∀ (s : State) (slot : Fin 8), s.doeOpen = true → s.trust.fault = false → slot.val ≠ 0 →
    exec (.spdmGetCertificate slot) s = .next (s.emit (.doe 0x7F [0x01])) ∧ exec (.spdmChallenge slot) s = .next (s.emit (.doe 0x7F [0x01]))) ∧
  (∀ (s : State) (slot : Fin 8) (i : BitVec 8), s.doeOpen = true → s.trust.fault = true →
    exec (.spdmGetCertificate slot) s = .next (s.emit (.doe 0x7F [0x05])) ∧ exec (.spdmChallenge slot) s = .next (s.emit (.doe 0x7F [0x05])) ∧
    exec (.spdmGetMeasurements i) s = .next (s.emit (.doe 0x7F [0x05]))) ∧
  (∀ (s : State) (n : BitVec 16), s.doeOpen = true → s.trust.negotiated = true → s.trust.sessions.contains n.toNat = false → s.trust.sessions.length < 4 →
    exec (.spdmKeyExchange n) s = .next ({ s with
      trust := { s.trust with sessions := s.trust.sessions ++ [n.toNat] }, free := s.free + 1 }.emit
        (.doe 0x64 [n.toNat, Config.freeNat s.free 0 % 2 ^ 4096]))) ∧
  (∀ (s : State) (n : BitVec 16), s.doeOpen = true → s.trust.negotiated = false → exec (.spdmKeyExchange n) s = .next (s.emit (.doe 0x7F [0x04]))) ∧
  (∀ (s : State) (n : BitVec 16), s.doeOpen = true →
    exec (.spdmSessionEnd n) s = .next ({ s with trust := { s.trust with sessions := s.trust.sessions.erase n.toNat } }.emit (.doe 0x6C [n.toNat])))

/-- A page command of a register path leaves the queue and completes its path; refused ones change nothing else (04_device_memory_and_page_manager.md). -/
def Obligations.PageCommandsCompleteOnTheirPath : Prop :=
  (∀ (s : State) (fn : Nat) (op : Nat) (c : PmCmd) (rest : List PmCmd) (st : Status), s.unitsRun = true →
    s.nextPageCmd (.regs fn) op = some (c, rest) → s.judgePage c = some st →
    ∀ i ∈ [(1, Instr.alloc (.regs fn)), (2, .release (.regs fn)), (3, .share (.regs fn)), (4, .copy (.regs fn)), (5, .pin (.regs fn)),
      (6, .unpin (.regs fn)), (8, .zero (.regs fn))], i.1 = op →
    ∃ t, exec i.2 s = .next t ∧ t.pm = { s.pm with queue := rest } ∧ t.hbm = s.hbm ∧ t.ctxs = s.ctxs ∧ t.kv = s.kv ∧ t.queues = s.queues ∧
      t.path 0 fn = { s.path 0 fn with busy := false, seq := (s.path 0 fn).seq + 1, status := st }) ∧
  (∀ (s : State) (fn : Nat) (op : Nat) (c : PmCmd) (rest : List PmCmd), s.unitsRun = true →
    s.nextPageCmd (.regs fn) op = some (c, rest) → s.judgePage c = none → s.rangePages c = false →
    ∀ i ∈ [(2, Instr.release (.regs fn)), (3, .share (.regs fn)), (4, .copy (.regs fn)), (5, .pin (.regs fn)), (6, .unpin (.regs fn)),
      (8, .zero (.regs fn))], i.1 = op →
    ∃ t, exec i.2 s = .next t ∧ t.pm = { s.pm with queue := rest } ∧ t.hbm = s.hbm ∧
      t.path 0 fn = { s.path 0 fn with busy := false, seq := (s.path 0 fn).seq + 1, status := stNotMapped }) ∧
  (∀ (s : State) (fn : Nat) (c : PmCmd) (rest : List PmCmd), s.unitsRun = true → s.nextPageCmd (.regs fn) 1 = some (c, rest) →
    s.judgePage c = none → c.src = .regs fn →
    (s.rangeMapped fn (recGran c.record) (recCount c.record * 2 ^ recSize c.record) = true →
      ∃ t, exec (.alloc (.regs fn)) s = .next t ∧ t.pm = { s.pm with queue := rest } ∧ (t.path 0 fn).status = stMapConflict) ∧
    (s.rangeMapped fn (recGran c.record) (recCount c.record * 2 ^ recSize c.record) = false →
      s.quotaOk fn (recCount c.record) (recSize c.record) = false →
      ∃ t, exec (.alloc (.regs fn)) s = .next t ∧ t.pm = { s.pm with queue := rest } ∧ (t.path 0 fn).status = stQuotaExceeded)) ∧
  (∀ (s : State) (fn : Nat) (c : PmCmd) (rest : List PmCmd) (m : Mapping) (p : PageFrame), s.unitsRun = true →
    s.nextPageCmd (.regs fn) 7 = some (c, rest) → s.judgePage c = none → c.src = .regs fn →
    s.pageAt fn (recGran c.record) (recSize c.record) = some m → s.frame m.frame = some p →
    ∃ t, exec (.query (.regs fn)) s = .next t ∧ t.pm = { s.pm with queue := rest } ∧ t.hbm = s.hbm ∧
      t.path 0 fn = { s.path 0 fn with
        busy := false, seq := (s.path 0 fn).seq + 1, status := stOk, result := queryResult s.pm.localGib m.frame p }) ∧
  (∀ (s : State) (src : PageSrc) (op : Nat), s.unitsRun = false ∨ s.nextPageCmd src op = none →
    ∀ i ∈ [(1, Instr.alloc src), (2, .release src), (3, .share src), (4, .copy src), (5, .pin src), (6, .unpin src), (7, .query src), (8, .zero src)],
      i.1 = op → exec i.2 s = .next s)

/-- What ALLOC, RELEASE, SHARE, COPY, ZERO, PIN and UNPIN do to the map, the frames and the work they start (04_device_memory_and_page_manager.md). -/
def Obligations.PageCommandsMapAndRelease : Prop :=
  (∀ (s : State) (fn : Nat) (c : PmCmd) (rest : List PmCmd), s.unitsRun = true → s.nextPageCmd (.regs fn) 1 = some (c, rest) →
    s.judgePage c = none → c.src = .regs fn →
    s.rangeMapped fn (recGran c.record) (recCount c.record * 2 ^ recSize c.record) = false → s.quotaOk fn (recCount c.record) (recSize c.record) = true →
    (s.allocPages fn (recZone c.record) (recSize c.record) false (recCount c.record) (recGran c.record)).isSome = true →
    ∃ t, exec (.alloc (.regs fn)) s = .next t ∧ (t.path 0 fn).status = stOk ∧ (t.path 0 fn).busy = false ∧ t.hbm = s.hbm ∧
      ∀ i, i < recCount c.record → ∃ f, t.pageAt fn (recGran c.record + i * 2 ^ recSize c.record) (recSize c.record) = some ⟨f, recSize c.record⟩ ∧
        t.frame f = some ⟨recSize c.record, .ctx fn (s.ctx fn).gen, 1, 0, false, false, .held⟩) ∧
  (∀ (s : State) (fn : Nat) (c : PmCmd) (rest : List PmCmd), s.unitsRun = true → s.nextPageCmd (.regs fn) 2 = some (c, rest) →
    s.judgePage c = none → c.src = .regs fn → s.rangePages c = true → s.somePage c (fun f => decide (0 < f.pins)) = false →
    ∃ t, exec (.release (.regs fn)) s = .next t ∧ (t.path 0 fn).status = stOk ∧ (t.path 0 fn).busy = false ∧ t.hbm = s.hbm ∧
      ∀ i, i < recCount c.record → t.pageAt fn (recGran c.record + i * 2 ^ recSize c.record) (recSize c.record) = none) ∧
  (∀ (s : State) (fn : Nat) (c : PmCmd) (rest : List PmCmd), s.unitsRun = true → s.nextPageCmd (.regs fn) 2 = some (c, rest) →
    s.judgePage c = none → c.src = .regs fn → s.rangePages c = true → s.somePage c (fun f => decide (0 < f.pins)) = true →
    (recWait c.record = true → ∃ t, exec (.release (.regs fn)) s = .next t ∧ t.pm = { s.pm with queue := rest, waits := s.pm.waits ++ [c] } ∧
      t.paths = s.paths) ∧
    (recWait c.record = false → ∃ t, exec (.release (.regs fn)) s = .next t ∧ t.pm = { s.pm with queue := rest } ∧
      (t.path 0 fn).status = stPageBusy)) ∧
  (∀ (s : State) (fn : Nat) (c : PmCmd) (rest : List PmCmd) (m : Mapping) (p : PageFrame), s.unitsRun = true →
    s.nextPageCmd (.regs fn) 3 = some (c, rest) → s.judgePage c = none → c.src = .regs fn → recCount c.record = 1 →
    s.pageAt fn (recGran c.record) (recSize c.record) = some m → s.frame m.frame = some p → p.refs < 65535 → p.spec = false →
    s.rangeMapped fn (recCva2 c.record / granule) (2 ^ recSize c.record) = false →
    ∃ t, exec (.share (.regs fn)) s = .next t ∧ (t.path 0 fn).status = stOk ∧ t.frame m.frame = some { p with refs := p.refs + 1 } ∧
      t.pageAt fn (recCva2 c.record / granule) (recSize c.record) = some ⟨m.frame, recSize c.record⟩ ∧ t.hbm = s.hbm) ∧
  (∀ (s : State) (fn : Nat) (c : PmCmd) (rest : List PmCmd) (m : Mapping) (p : PageFrame), s.unitsRun = true →
    s.judgePage c = none → c.src = .regs fn → recCount c.record = 1 → s.pageAt fn (recGran c.record) (recSize c.record) = some m →
    s.frame m.frame = some p →
    (s.nextPageCmd (.regs fn) 4 = some (c, rest) → p.refs ≤ 1 → p.spec = false → s.quotaOk fn 0 (recSize c.record) = true →
      ∃ t, exec (.copy (.regs fn)) s = .next t ∧ (t.path 0 fn).status = stOk ∧ t.pm = { s.pm with queue := rest } ∧ t.hbm = s.hbm) ∧
    (s.nextPageCmd (.regs fn) 8 = some (c, rest) → p.refs ≤ 1 → s.quotaOk fn 0 (recSize c.record) = true →
      ∃ t, exec (.zero (.regs fn)) s = .next t ∧ t.paths = s.paths ∧ t.hbm = s.hbm ∧
        t.pm = { s.pm with queue := rest, fills := s.pm.fills ++ [⟨m.frame, .zero (.regs fn)⟩], work := s.pm.work ++ [⟨c, 1⟩] }) ∧
    (s.nextPageCmd (.regs fn) 5 = some (c, rest) → p.pins < 255 →
      ∃ t, exec (.pin (.regs fn)) s = .next t ∧ (t.path 0 fn).status = stOk ∧ t.frame m.frame = some { p with pins := p.pins + 1 } ∧ t.hbm = s.hbm) ∧
    (s.nextPageCmd (.regs fn) 6 = some (c, rest) → 0 < p.pins → 0 < p.refs →
      ∃ t, exec (.unpin (.regs fn)) s = .next t ∧ (t.path 0 fn).status = stOk ∧ t.frame m.frame = some { p with pins := p.pins - 1 } ∧
        t.hbm = s.hbm)) ∧
  (∀ (s : State) (fn : Nat) (c : PmCmd) (rest : List PmCmd), s.clocked = true → s.pm.waits = c :: rest → c.src = .regs fn →
    s.judgePage c = none → s.rangePages c = true → s.somePage c (fun f => decide (0 < f.pins)) = false →
    ∃ t, exec (.releaseWaitEnd (.regs fn)) s = .next t ∧ (t.path 0 fn).status = stOk ∧ (t.path 0 fn).busy = false ∧ t.pm.waits = rest ∧
      ∀ i, i < recCount c.record → t.pageAt fn (recGran c.record + i * 2 ^ recSize c.record) (recSize c.record) = none) ∧
  (∀ (s : State) (src : PageSrc), s.clocked = false ∨ s.pm.waits = [] → exec (.releaseWaitEnd src) s = .next s)

/-- Reads and writes through W4 are judged byte by byte, and the count of discarded writes (04_device_memory_and_page_manager.md). -/
def Obligations.W4Window : Prop :=
  (∀ (s : State) (fn : Fn) (off : BitVec 36) (len : BitVec 13), s.serves fn.val = true →
    (∃ i, i < len.toNat ∧ s.cvaLost fn.val (s.w4Cva fn.val off.toNat + i) = true) →
    exec (.w4Read fn off len) s = .next (s.emit (.poisoned fn.val off.toNat))) ∧
  (∀ (s : State) (fn : Fn) (off : BitVec 36) (len : BitVec 13), s.serves fn.val = true →
    (∀ i, i < len.toNat → s.cvaLost fn.val (s.w4Cva fn.val off.toNat + i) = false) →
    exec (.w4Read fn off len) s = .next (s.emit (.readBytes fn.val off.toNat
      ((List.range len.toNat).map fun i => (s.readCva fn.val none (s.w4Cva fn.val off.toNat + i)).getD 0)))) ∧
  (∀ (s : State) (fn : Fn) (off : BitVec 36) (b : Byte) (f dpa : Nat), s.serves fn.val = true →
    s.translate fn.val none (s.w4Cva fn.val off.toNat) = some (f, dpa) → s.refsOf f ≤ 1 →
    ∃ t, exec (.w4Write fn off [b]) s = .next t ∧ t.hbm.read dpa = b ∧ (∀ a, a ≠ dpa → t.hbm.read a = s.hbm.read a) ∧ t = { s with hbm := t.hbm }) ∧
  (∀ (s : State) (fn : Fn) (off : BitVec 36) (b : Byte), s.serves fn.val = true →
    (∀ f dpa, s.translate fn.val none (s.w4Cva fn.val off.toNat) = some (f, dpa) → 1 < s.refsOf f) →
    exec (.w4Write fn off [b]) s =
      .next ((s.setReg fn.val 0x200040 (min 0xFFFFFFFF (s.reg fn.val 0x200040 + 1))).bump 0x620005)) ∧
  (∀ (s : State) (fn : Fn) (off : BitVec 36) (bs : List Byte), s.serves fn.val = true →
    (∀ i, i < bs.length → ∃ f dpa, s.translate fn.val none (s.w4Cva fn.val off.toNat + i) = some (f, dpa) ∧ s.refsOf f ≤ 1) →
    ∃ t, exec (.w4Write fn off bs) s = .next t ∧ t = { s with hbm := t.hbm } ∧
      ∀ a, (∀ i f, i < bs.length → s.translate fn.val none (s.w4Cva fn.val off.toNat + i) ≠ some (f, a)) → t.hbm.read a = s.hbm.read a) ∧
  (∀ (s : State) (fn : Fn), s.serves fn.val = true →
    exec (.pgmW4DropsRead fn) s = .next ((s.emit (.readData fn.val 0x200040 4 (s.reg fn.val 0x200040))).setReg fn.val 0x200040 0))

/-- Copy-on-write stalls and resumes a write; the fill engine zero-fills and copies the frame at the head of its queue (04_device_memory_and_page_manager.md). -/
def Obligations.CopyOnWriteAndFillEngine : Prop :=
  (∀ (s : State) (job : Nat) (j : Job) (cva : BitVec 38) (bs : List Byte) (old a0 : Nat) (p : PageFrame) (s1 : State) (new : Nat)
    (place : Nat × Option Nat), s.clocked = true → s.jobs.look job = some j → s.translate j.ctx (some j.seq) cva.toNat = some (old, a0) →
    s.mappingOf j.ctx (some j.seq) cva.toNat = some place → s.writableInPlace j.ctx (some j.seq) cva.toNat = false →
    s.pm.stalls = [] → s.frame old = some p → s.cowFrame j.ctx (some j.seq) cva.toNat = .ok (s1, new) →
    ∃ t, exec (.cowBreak job cva bs) s = .next t ∧ t.hbm = s.hbm ∧ t.jobs = s.jobs ∧ t.dictVal 0x620003 = s1.dictVal 0x620003 ∧
      t.pm.stalls = [(s.nextId, ⟨job, j.ctx, place.1, place.2, old, new, cva.toNat, bs, false⟩)] ∧
      t.pm.copies = s.pm.copies ++ [⟨old, new, ((s1.frame old).map (·.k)).getD 0, .cow s.nextId⟩] ∧ t.pm.maps = s.pm.maps) ∧
  (∀ (s : State) (job : Nat) (j : Job) (cva : BitVec 38) (bs : List Byte) (old a0 : Nat) (st : Status), s.clocked = true →
    s.jobs.look job = some j → s.translate j.ctx (some j.seq) cva.toNat = some (old, a0) → s.writableInPlace j.ctx (some j.seq) cva.toNat = false →
    s.pm.stalls = [] → s.cowFrame j.ctx (some j.seq) cva.toNat = .error st →
    exec (.cowBreak job cva bs) s = .next { s with jobs := s.jobs.put job (j.failAt st j.activeOp) }) ∧
  (∀ (s : State) (job : Nat) (j : Job) (cva : BitVec 38) (bs : List Byte), s.clocked = true → s.jobs.look job = some j →
    s.writableInPlace j.ctx (some j.seq) cva.toNat = true → exec (.cowBreak job cva bs) s = .next s) ∧
  (∀ (s : State) (k : Nat) (w : CowStall) (j : Job) (b : Byte) (m : Mapping) (g : Nat), s.clocked = true → s.pm.stalls = [(k, w)] →
    w.copied = true → s.jobs.look w.job = some j → w.bytes = [b] → w.ctx < 16 → w.cva < 2 ^ 38 → s.pm.ghosts = [] →
    s.mapAt w.ctx (w.cva / granule) = some (g, m) → m.frame = w.new → s.refsOf w.new = 1 →
    ∃ t, exec (.cowCopyDone k) s = .next t ∧ t.pm = { s.pm with stalls := [] } ∧
      t.hbm.read ((w.new + (w.cva / granule - g)) * granule + w.cva % granule) = b ∧
      (∀ a, a ≠ (w.new + (w.cva / granule - g)) * granule + w.cva % granule → t.hbm.read a = s.hbm.read a) ∧ t.jobs = s.jobs) ∧
  (∀ (s : State) (k : Nat) (w : CowStall), s.clocked = true → s.pm.stalls.look k = some w → w.copied = false → exec (.cowCopyDone k) s = .next s) ∧
  (∀ (s : State) (dt f : Nat) (rest : List FillItem) (p : PageFrame), s.clocked = true → s.pm.fills = ⟨f, .free⟩ :: rest → s.frame f = some p →
    ∃ t, exec (.fillFrameDone dt) s = .next t ∧ t.pm.fills = rest ∧
      t.dictVal 0x620004 = min (dictMax 0x620004) (s.dictVal 0x620004 + 2 ^ p.k * granule) ∧
      (∀ a, f * granule ≤ a → a < (f + 2 ^ p.k) * granule → t.hbm.read a = 0) ∧
      (∀ a, a < f * granule ∨ (f + 2 ^ p.k) * granule ≤ a → t.hbm.read a = s.hbm.read a) ∧
      (p.retire = false → t.frame f = none) ∧ (p.retire = true → t.frame f = some { p with phase := .retired })) ∧
  (∀ (s : State) (dt : Nat), s.clocked = false ∨ s.pm.fills = [] → exec (.fillFrameDone dt) s = .next (s.elapse dt)) ∧
  (∀ (s : State) (dt a b k n : Nat) (rest : List CopyItem), s.clocked = true → s.pm.copies = ⟨a, b, k, .cow n⟩ :: rest →
    s.hbm.wf = true → a + 2 ^ k ≤ b ∨ b + 2 ^ k ≤ a →
    ∃ t, exec (.copyFrameDone dt) s = .next t ∧ t.pm.copies = rest ∧
      (∀ i, i < 2 ^ k * granule → t.hbm.read (b * granule + i) = s.hbm.read (a * granule + i)) ∧
      (∀ x, x < b * granule ∨ (b + 2 ^ k) * granule ≤ x → t.hbm.read x = s.hbm.read x) ∧
      t.pm.stalls = s.pm.stalls.mapVals fun _ w => if w.new = b then { w with copied := true } else w)

/-- SQ_TAIL, CQ_HEAD, ENABLE, the fetch of an entry and the write of a completion record (05_graph_contract_and_queues.md). -/
def Obligations.QueueDoorbellsAndControl : Prop :=
  (∀ (s : State) (fn : Fn) (q : Qn) (v : BitVec 16), s.serves fn.val = true → (s.ctx fn.val).tdi ≠ .locked → (s.queue fn.val q.val).running = true →
    v.toNat < 2 ^ (s.queue fn.val q.val).sqOrder → (v.toNat + 2 ^ (s.queue fn.val q.val).sqOrder - (s.queue fn.val q.val).tail) % 2 ^ (s.queue fn.val q.val).sqOrder ≠ 0 →
    exec (.sqTail fn q v) s = .next (({ s.setQueue fn.val q.val { s.queue fn.val q.val with
        tail := v.toNat
        bells := (s.queue fn.val q.val).bells ++
          [((v.toNat + 2 ^ (s.queue fn.val q.val).sqOrder - (s.queue fn.val q.val).tail) % 2 ^ (s.queue fn.val q.val).sqOrder, s.nextBell)] } with
      nextBell := s.nextBell + 1 } : State).count 0xC7 none (some fn.val) 1)) ∧
  (∀ (s : State) (fn : Fn) (q : Qn), s.serves fn.val = true → (s.ctx fn.val).tdi ≠ .locked → (s.queue fn.val q.val).running = true →
    (s.queue fn.val q.val).tail < 2 ^ (s.queue fn.val q.val).sqOrder → (s.queue fn.val q.val).sqOrder ≤ 16 →
    exec (.sqTail fn q (BitVec.ofNat 16 (s.queue fn.val q.val).tail)) s = .next s) ∧
  (∀ (s : State) (fn : Fn) (q : Qn) (v : BitVec 16), s.serves fn.val = true →
    2 ^ (s.queue fn.val q.val).sqOrder ≤ v.toNat ∨ (s.queue fn.val q.val).running = false ∨ (s.ctx fn.val).tdi = .locked →
    exec (.sqTail fn q v) s = .next (s.setQueue fn.val q.val { s.queue fn.val q.val with dbDrop := true })) ∧
  (∀ (s : State) (fn : Fn) (q : Qn) (v : BitVec 16), s.serves fn.val = true → (s.ctx fn.val).tdi ≠ .locked → (s.queue fn.val q.val).running = true →
    v.toNat < 2 ^ (s.queue fn.val q.val).cqOrder →
    exec (.cqHead fn q v) s = .next ((s.setQueue fn.val q.val { s.queue fn.val q.val with cqHead := v.toNat, armed := true }).count 0xC7 none (some fn.val) 1)) ∧
  (∀ (s : State) (fn : Fn) (q : Qn) (v : BitVec 16), s.serves fn.val = true →
    2 ^ (s.queue fn.val q.val).cqOrder ≤ v.toNat ∨ (s.queue fn.val q.val).running = false ∨ (s.ctx fn.val).tdi = .locked →
    exec (.cqHead fn q v) s = .next (s.setQueue fn.val q.val { s.queue fn.val q.val with dbDrop := true })) ∧
  (∀ (s : State) (fn : Fn) (q : Qn) (irq : Bool), s.serves fn.val = true → (s.queue fn.val q.val).enable = false →
    exec (.queueEnable fn q irq) s = .next (s.setQueue fn.val q.val { s.queue fn.val q.val with
      enable := true, irqEn := irq, running := true, error := false, tail := 0, fetch := 0, bells := [], cqTail := 0, cqHead := 0, phase := true
      armed := true })) ∧
  (∀ (s : State) (fn : Fn) (q : Qn) (irq : Bool), s.serves fn.val = true → (s.queue fn.val q.val).enable = true →
    exec (.queueEnable fn q irq) s = .next (s.setQueue fn.val q.val { s.queue fn.val q.val with irqEn := irq })) ∧
  (∀ (s : State) (fn : Fn) (q : Qn) (irq : Bool), s.serves fn.val = true →
    ∃ t, exec (.queueDisable fn q irq) s = .next t ∧ (t.queue fn.val q.val).enable = false ∧ (t.queue fn.val q.val).running = false ∧
      (t.queue fn.val q.val).irqEn = irq ∧ (t.queue fn.val q.val).fetch = (s.queue fn.val q.val).tail ∧
      (∀ e ∈ (t.queue fn.val q.val).entries, e ∈ (s.queue fn.val q.val).entries ∧ (e.phase = .running ∨ e.phase = .waiting)) ∧
      (∀ g p, g * 8 + p ≠ fn.val * 8 + q.val → t.queue g p = s.queue g p) ∧ t = { s with queues := t.queues }) ∧
  (∀ (s : State) (fn : Fn) (q : Qn) (bs : List Byte), s.unitsRun = true → (s.queue fn.val q.val).running = true →
    0 < (s.queue fn.val q.val).unfetched → (s.queue fn.val q.val).full = false →
    s.readCvaN fn.val none ((s.queue fn.val q.val).sqBase.toNat / 4096 * 4096 + (s.queue fn.val q.val).fetch * 64) 64 = some bs →
    entryOk (BitVec.ofNat 512 (leNat bs)) = true → (∀ e ∈ (s.queue fn.val q.val).entries, e.phase ≠ .bad) →
    ∃ t, exec (.ringEntryFetch fn q) s = .next t ∧ t.nextId = s.nextId + 1 ∧
      t.queue fn.val q.val = { s.queue fn.val q.val with
        fetch := ((s.queue fn.val q.val).fetch + 1) % 2 ^ (s.queue fn.val q.val).sqOrder, bells := (popBell (s.queue fn.val q.val).bells).2
        entries := (s.queue fn.val q.val).entries ++ [⟨s.nextId, (s.queue fn.val q.val).fetch, BitVec.ofNat 512 (leNat bs), .fetched, s.now,
          (popBell (s.queue fn.val q.val).bells).1, false, (s.queue fn.val q.val).epoch⟩] } ∧ t = { s with queues := t.queues, nextId := t.nextId }) ∧
  (∀ (s : State) (fn : Fn) (q : Qn), s.unitsRun = true → (s.queue fn.val q.val).running = true →
    0 < (s.queue fn.val q.val).unfetched → (s.queue fn.val q.val).full = false →
    s.readCvaN fn.val none ((s.queue fn.val q.val).sqBase.toNat / 4096 * 4096 + (s.queue fn.val q.val).fetch * 64) 64 = none →
    exec (.ringEntryFetch fn q) s = .next (s.setQueue fn.val q.val ((s.queue fn.val q.val).stopError
      (if 2 ^ 38 < (s.queue fn.val q.val).sqBase.toNat / 4096 * 4096 + (s.queue fn.val q.val).fetch * 64 + 64 then stLengthBounds
       else if s.cvaMapped fn.val ((s.queue fn.val q.val).sqBase.toNat / 4096 * 4096 + (s.queue fn.val q.val).fetch * 64) 64 then stJobFault
       else stNotMapped)))) ∧
  (∀ (s s1 : State) (fn : Fn) (q : Qn) (r : HeldRecord) (rest : List HeldRecord), s.unitsRun = true → s.mayRun fn.val = true →
    (s.queue fn.val q.val).held = r :: rest → r.again = none → (s.queue fn.val q.val).full = false → (s.queue fn.val q.val).error = false →
    s.cvaMapped fn.val ((s.queue fn.val q.val).cqBase.toNat / 4096 * 4096 + (s.queue fn.val q.val).cqTail * 32) 32 = true →
    s.writeCvaN fn.val none ((s.queue fn.val q.val).cqBase.toNat / 4096 * 4096 + (s.queue fn.val q.val).cqTail * 32)
      (leBytes 32 (if (s.queue fn.val q.val).phase then r.bits ||| 1 else r.bits).toNat) = .ok s1 →
    ∃ t, exec (.completionRecordWrite fn q) s = .next t ∧ t.hbm = s1.hbm ∧ (t.queue fn.val q.val).held = rest ∧
      (t.queue fn.val q.val).cqTail = ((s.queue fn.val q.val).cqTail + 1) % 2 ^ (s.queue fn.val q.val).cqOrder ∧
      ((t.queue fn.val q.val).cqTail = 0 → (t.queue fn.val q.val).phase = !(s.queue fn.val q.val).phase) ∧
      ((t.queue fn.val q.val).cqTail ≠ 0 → (t.queue fn.val q.val).phase = (s.queue fn.val q.val).phase) ∧
      ((s.queue fn.val q.val).irqEn = true → (s.queue fn.val q.val).armed = true →
        t.trace = .msix fn.val q.val :: s1.trace ∧ (t.queue fn.val q.val).armed = false) ∧
      ((s.queue fn.val q.val).irqEn = false ∨ (s.queue fn.val q.val).armed = false → t.trace = s1.trace))

/-- What each kind of ring entry does when its turn comes, and the record it completes with (05_graph_contract_and_queues.md). -/
def Obligations.RingEntriesExecute : Prop :=
  (∀ (s : State) (fn q id : Nat) (e : QEntry) (st : Status) (r : BitVec 32) (nf jf : BitVec 8) (en : Nat) (ag : Option QEntry),
    (s.queue fn q).entries.find? (fun x => x.id == id) = some e → (s.queue fn q).error = false → e.epoch = (s.queue fn q).epoch →
    (∀ y ∈ (s.queue fn q).entries, y.phase ≠ .bad) →
    ∃ b, s.completeEntry fn q id st r nf jf en ag = s.setQueue fn q { s.queue fn q with
        entries := (s.queue fn q).entries.filter fun x => x.id != id, held := (s.queue fn q).held ++ [⟨b, ag⟩] } ∧
      b.extractLsb' 80 16 = st ∧ b.extractLsb' 96 32 = entTag e.raw ∧ b.extractLsb' 72 8 = nf ∧ b.extractLsb' 32 32 = r ∧ b.extractLsb' 64 8 = (jf |||
        ((if (e.raw.extractLsb' 0 8).toNat = 2 ∧ (e.raw.extractLsb' 448 64).toNat ≠ 0 ∧ (e.raw.extractLsb' 448 64).toNat < s.tideNat
          then 0x80 else 0) ||| (if e.rerun then 0x20 else 0)))) ∧
  (∀ (s : State) (fn : Fn) (q : Qn) (e : QEntry), s.unitsRun = true → s.nextEntry fn.val q.val 0x00 = some e →
    exec (.nop fn q) s = .next (s.runEntry fn.val q.val e stOk 0)) ∧
  (∀ (s s1 : State) (fn : Fn) (q : Qn) (e : QEntry) (st : Status) (r : BitVec 32), s.unitsRun = true → s.nextEntry fn.val q.val 0x01 = some e →
    (s.startEntry fn.val q.val e.id .running).loadProgram fn.val (e.raw.extractLsb' 448 64).toNat (e.raw.extractLsb' 416 32).toNat = (s1, st, r) →
    exec (.load fn q) s = .next (s1.completeEntry fn.val q.val e.id st r)) ∧
  (∀ (s : State) (fn : Fn) (q : Qn) (e : QEntry) (bl : List Binding) (p : Program), s.unitsRun = true → s.nextEntry fn.val q.val 0x02 = some e →
    s.integ.persistent = none → s.mayRun fn.val = true → (s.startEntry fn.val q.val e.id .running).runCheck fn.val e.raw = .ok bl →
    s.progs.look (progKey fn.val (e.raw.extractLsb' 224 16).toNat) = some p →
    ∃ t j, exec (.run fn q) s = .next t ∧ t.jobs = s.jobs.put s.nextId j ∧ j.ctx = fn.val ∧ j.q = q.val ∧ j.entry = e.id ∧ j.bindings = bl ∧
      j.prog = progKey fn.val (e.raw.extractLsb' 224 16).toNat ∧ j.placed = false ∧ j.fault = none ∧ j.ops = List.replicate p.operators.length .waiting ∧
      j.priority = (e.raw.extractLsb' 216 3).toNat ∧ j.deadline = (e.raw.extractLsb' 448 64).toNat ∧ t.nextId = s.nextId + 1 ∧
      t.progs.look j.prog = some { p with users := p.users + 1 } ∧ t.hbm = s.hbm ∧ t.queues = (s.startEntry fn.val q.val e.id .running).queues) ∧
  (∀ (s : State) (fn : Fn) (q : Qn) (e : QEntry) (st : Status) (r : BitVec 32), s.unitsRun = true → s.nextEntry fn.val q.val 0x02 = some e →
    s.integ.persistent = none → s.mayRun fn.val = true → (s.startEntry fn.val q.val e.id .running).runCheck fn.val e.raw = .error (st, r) →
    exec (.run fn q) s = .next ((s.startEntry fn.val q.val e.id .running).completeEntry fn.val q.val e.id st r)) ∧
  (∀ (s : State) (fn : Fn) (q : Qn) (e : QEntry) (p : Program), s.unitsRun = true → s.nextEntry fn.val q.val 0x03 = some e →
    (e.raw.extractLsb' 224 16).toNat < 1024 → s.progs.look (progKey fn.val (e.raw.extractLsb' 224 16).toNat) = some p → p.unloaded = false →
    ∃ t, exec (.unload fn q) s = .next t ∧
      (p.users = 0 → t.progs = s.progs.del (progKey fn.val (e.raw.extractLsb' 224 16).toNat)) ∧
      (p.users ≠ 0 → t.progs = s.progs.put (progKey fn.val (e.raw.extractLsb' 224 16).toNat) { p with unloaded := true } ∧ t.pm = s.pm) ∧
      t.queues = (s.runEntry fn.val q.val e stOk 0).queues ∧ t.hbm = s.hbm) ∧
  (∀ (s : State) (fn : Fn) (q : Qn) (e : QEntry), s.unitsRun = true → s.nextEntry fn.val q.val 0x03 = some e →
    s.progs.look (progKey fn.val (e.raw.extractLsb' 224 16).toNat) = none → exec (.unload fn q) s = .next (s.runEntry fn.val q.val e stBadHandle 0)) ∧
  (∀ (s : State) (fn : Fn) (q : Qn) (e : QEntry), s.unitsRun = true → s.nextEntry fn.val q.val 0x04 = some e →
    1 ≤ recOpcode (e.raw.extractLsb' 256 256) → recOpcode (e.raw.extractLsb' 256 256) ≤ 8 →
    exec (.pageEntry fn q) s = .next { s.startEntry fn.val q.val e.id .running with
      pm := { s.pm with queue := s.pm.queue ++ [⟨.ring fn.val q.val, (s.ctx fn.val).gen, e.raw.extractLsb' 256 256⟩] } }) ∧
  (∀ (s s1 : State) (fn : Fn) (q : Qn) (e : QEntry), s.unitsRun = true → s.nextEntry fn.val q.val 0x05 = some e →
    s.cvaMapped fn.val (e.raw.extractLsb' 448 64).toNat 8 = true →
    s.writeCvaN fn.val none (e.raw.extractLsb' 448 64).toNat (leBytes 8 (e.raw.extractLsb' 384 64).toNat) = .ok s1 →
    (∀ k, k < 8 → (s1.runEntry fn.val q.val e stOk 0).waitingEntry fn.val k = none) →
    exec (.signal fn q) s = .next (s1.runEntry fn.val q.val e stOk 0)) ∧
  (∀ (s : State) (fn : Fn) (q : Qn) (e : QEntry), s.unitsRun = true → s.nextEntry fn.val q.val 0x05 = some e →
    s.cvaMapped fn.val (e.raw.extractLsb' 448 64).toNat 8 = false →
    (∀ k, k < 8 → (s.runEntry fn.val q.val e stNotMapped 0).waitingEntry fn.val k = none) →
    exec (.signal fn q) s = .next (s.runEntry fn.val q.val e stNotMapped 0)) ∧
  (∀ (s : State) (fn : Fn) (q : Qn) (e : QEntry), s.unitsRun = true → s.nextEntry fn.val q.val 0x06 = some e →
    exec (.wait fn q) s = .next (s.startEntry fn.val q.val e.id .waiting)) ∧
  (∀ (s : State) (dt : Nat) (fn : Fn) (q : Qn) (e : QEntry) (bs : List Byte), s.clocked = true → s.waitingEntry fn.val q.val = some e →
    s.readCvaN fn.val none (e.raw.extractLsb' 448 64).toNat 8 = some bs →
    exec (.waitTest dt fn q) s = .next (if (e.raw.extractLsb' 384 64).toNat ≤ leNat bs
      then (s.elapse dt).completeEntry fn.val q.val e.id stOk 0 else s.elapse dt)) ∧
  (∀ (s : State) (dt : Nat) (fn : Fn) (q : Qn) (e : QEntry), s.clocked = true → s.waitingEntry fn.val q.val = some e →
    s.readCvaN fn.val none (e.raw.extractLsb' 448 64).toNat 8 = none → 0 < (e.raw.extractLsb' 384 64).toNat →
    exec (.waitTest dt fn q) s = .next (s.elapse dt)) ∧
  (∀ (s : State) (dt : Nat) (fn : Fn) (q : Qn) (e : QEntry), s.clocked = true → s.waitingEntry fn.val q.val = some e →
    exec (.waitTimeout dt fn q) s = .next (if (e.raw.extractLsb' 320 64).toNat ≠ 0 ∧ e.start + (e.raw.extractLsb' 320 64).toNat ≤ s.now + dt
      then (s.elapse dt).completeEntry fn.val q.val e.id stWaitTimeout 0 else s.elapse dt))

/-- The host DMA rings: doorbell, ENABLE, the start of a descriptor, its end and its time limit (11_host_link_contexts_and_trust.md). -/
def Obligations.HostDmaRings : Prop :=
  (∀ (s : State) (fn : Fn) (d : RingNo) (v : BitVec 32), s.serves fn.val = true → (s.ctx fn.val).tdi ≠ .locked →
    (s.ring (hostRing fn.val d.val)).running = true → v.toNat % 4096 < 2 ^ (s.ring (hostRing fn.val d.val)).order →
    exec (.dmaTail fn d v) s = .next ((s.setRing (hostRing fn.val d.val) { s.ring (hostRing fn.val d.val) with tail := v.toNat % 4096 }).count 0xC7 none (some fn.val) 1)) ∧
  (∀ (s : State) (fn : Fn) (d : RingNo) (v : BitVec 32), s.serves fn.val = true →
    (s.ctx fn.val).tdi = .locked ∨ (s.ring (hostRing fn.val d.val)).running = false ∨ 2 ^ (s.ring (hostRing fn.val d.val)).order ≤ v.toNat % 4096 →
    exec (.dmaTail fn d v) s = .next (s.setRing (hostRing fn.val d.val) { s.ring (hostRing fn.val d.val) with dbDrop := true })) ∧
  (∀ (s : State) (fn : Fn) (d : RingNo) (o vec : Nat), s.serves fn.val = true → 4 ≤ o → o ≤ 12 → vec < 32 →
    (s.ring (hostRing fn.val d.val)).enable = false →
    exec (.dmaRingEnable fn d (BitVec.ofNat 32 (vec * 256 + o * 16))) s = .next (s.setRing (hostRing fn.val d.val) { s.ring (hostRing fn.val d.val) with
      vector := vec, order := o, enable := true, running := true, error := false, head := 0, tail := 0, current := none })) ∧
  (∀ (s : State) (fn : Fn) (d : RingNo) (o vec : Nat), s.serves fn.val = true → 4 ≤ o → o ≤ 12 → vec < 32 →
    (s.ring (hostRing fn.val d.val)).enable = true →
    exec (.dmaRingDisable fn d (BitVec.ofNat 32 (vec * 256 + o * 16))) s = .next (s.setRing (hostRing fn.val d.val) { s.ring (hostRing fn.val d.val) with
      vector := vec, enable := false, running := false, tail := (s.ring (hostRing fn.val d.val)).head })) ∧
  (∀ (s : State) (fn : Fn) (d : RingNo) (o : Nat), s.serves fn.val = true → o < 4 ∨ (12 < o ∧ o < 16) →
    (exec (.dmaRingEnable fn d (BitVec.ofNat 32 (o * 16))) s = .next (s.setRing (hostRing fn.val d.val) (s.ring (hostRing fn.val d.val))) ∧
      exec (.dmaRingDisable fn d (BitVec.ofNat 32 (o * 16))) s = .next (s.setRing (hostRing fn.val d.val) (s.ring (hostRing fn.val d.val))))) ∧
  (∀ (s : State) (fn : Fn) (d : RingNo) (bs : List Byte), s.agentIssues 8 = true → s.unitsRun = true → s.resident fn.val = true →
    (s.ring (hostRing fn.val d.val)).running = true → (∀ j, j < 64 → j ≠ hostRing fn.val d.val → s.dmaActive j = false) →
    (s.ring (hostRing fn.val d.val)).current = none → (s.ring (hostRing fn.val d.val)).head ≠ (s.ring (hostRing fn.val d.val)).tail →
    s.readCvaN fn.val none ((s.ring (hostRing fn.val d.val)).base.toNat / 4096 * 4096 + 32 * (s.ring (hostRing fn.val d.val)).head) 32 = some bs →
    (s.ctx fn.val).ide.insecure = false →
    s.rangeBad fn.val (desField (BitVec.ofNat 256 (leNat bs)) 128 64) (desBytes (BitVec.ofNat 256 (leNat bs))) (desField (BitVec.ofNat 256 (leNat bs)) 192 64) = none →
    desBytes (BitVec.ofNat 256 (leNat bs)) ≠ 0 →
    ∃ t lost, exec (.dmaDescriptorStart fn d) s = .next t ∧
      t.ring (hostRing fn.val d.val) = { s.ring (hostRing fn.val d.val) with
        current := some ⟨(s.ring (hostRing fn.val d.val)).head, BitVec.ofNat 256 (leNat bs), s.pm.order + 1, [s.now], lost⟩ } ∧
      (d.val = 0 → lost = false ∧ t.trace = .hostRead fn.val (desField (BitVec.ofNat 256 (leNat bs)) 192 64)
        (min 4096 (desBytes (BitVec.ofNat 256 (leNat bs)))) :: s.trace) ∧
      (d.val = 1 → ∀ xs, s.readCvaN fn.val (some (s.pm.order + 1)) (desField (BitVec.ofNat 256 (leNat bs)) 128 64)
        (min 4096 (desBytes (BitVec.ofNat 256 (leNat bs)))) = some xs →
        lost = false ∧ t.trace = .hostWrite fn.val (desField (BitVec.ofNat 256 (leNat bs)) 192 64) xs :: s.trace) ∧
      (d.val = 1 → s.readCvaN fn.val (some (s.pm.order + 1)) (desField (BitVec.ofNat 256 (leNat bs)) 128 64)
        (min 4096 (desBytes (BitVec.ofNat 256 (leNat bs)))) = none → lost = true ∧ t.trace = s.trace) ∧
      t = { s with
        dma := t.dma, dmaTurn := hostRing fn.val d.val, trace := t.trace
        pm := { s.pm with order := s.pm.order + 1, live := s.pm.live ++ [⟨fn.val, s.pm.order + 1⟩] } }) ∧
  (∀ (s : State) (fn : Fn) (d : RingNo), s.agentIssues 8 = true → s.unitsRun = true → s.resident fn.val = true →
    (s.ring (hostRing fn.val d.val)).running = true →
    (s.ring (hostRing fn.val d.val)).current = none → (s.ring (hostRing fn.val d.val)).head ≠ (s.ring (hostRing fn.val d.val)).tail →
    s.readCvaN fn.val none ((s.ring (hostRing fn.val d.val)).base.toNat / 4096 * 4096 + 32 * (s.ring (hostRing fn.val d.val)).head) 32 = none →
    exec (.dmaDescriptorStart fn d) s = .next (s.setRing (hostRing fn.val d.val) { s.ring (hostRing fn.val d.val) with
      error := true, running := false, lastError := stNotMapped, tail := (s.ring (hostRing fn.val d.val)).head })) ∧
  (∀ (s : State) (fn : Fn) (d : RingNo), s.agentIssues 8 = false ∨ (s.ring (hostRing fn.val d.val)).current.isSome = true →
    exec (.dmaDescriptorStart fn d) s = .next s) ∧
  (∀ (s : State) (k : Nat) (c : DmaXfer), (s.ring k).current = some c → k % 4 = 0 →
    s.dmaUnit k = ({ s with dmaTurn := k }.setRing k { s.ring k with
      current := some { c with issued := c.issued ++ [s.now], lost := false } }).emit (.hostRead (k / 4)
        (desField c.desc 192 64 + 4096 * c.issued.length) (min 4096 (desBytes c.desc - 4096 * c.issued.length)))) ∧
  (∀ (s : State) (k : Nat) (c : DmaXfer) (xs : List Byte), (s.ring k).current = some c → k % 4 = 1 →
    s.readCvaN (k / 4) (some c.seq) (desField c.desc 128 64 + 4096 * c.issued.length) (min 4096 (desBytes c.desc - 4096 * c.issued.length)) = some xs →
    s.dmaUnit k = ({ s with dmaTurn := k }.setRing k { s.ring k with
      current := some { c with issued := c.issued ++ [s.now], lost := false } }).emit (.hostWrite (k / 4)
        (desField c.desc 192 64 + 4096 * c.issued.length) xs)) ∧
  (∀ (s : State) (j : Nat), s.dmaNext = some j → j < 64 ∧ s.dmaActive j = true ∧
    ∀ i, i < 64 → s.dmaActive i = true → (j + 64 - (s.dmaTurn + 1) % 64) % 64 ≤ (i + 64 - (s.dmaTurn + 1) % 64) % 64) ∧
  (∀ (s s1 : State) (fn k : Nat) (st : Status) (c : DmaXfer), (s.ring k).current = some c → (s.ring k).running = true →
    s.cvaMapped fn ((s.ring k).base.toNat / 4096 * 4096 + 32 * c.idx) 8 = true →
    (s.discharge fn c.seq).writeCvaN fn none ((s.ring k).base.toNat / 4096 * 4096 + 32 * c.idx)
      (leBytes 8 (c.desc.toNat % 2 ^ 48 / 2 * 2 + 1 + st.toNat * 2 ^ 48)) = .ok s1 →
    ∃ t, s.ringFinish fn k st = t ∧ t.hbm = s1.hbm ∧
      t.ring k = { s.ring k with head := ((s.ring k).head + 1) % 2 ^ (s.ring k).order, current := none } ∧
      (desIrq c.desc = true → 8 ≤ (s.ring k).vector → t.trace = .msix fn (s.ring k).vector :: s1.trace)) ∧
  (∀ (s : State) (fn : Fn) (c : DmaXfer) (o : DmaOutcome), s.clocked = true → s.resident fn.val = true → (s.ctx fn.val).ide.insecure = false →
    (s.ring (hostRing fn.val 1)).current = some c → desUnits c.desc ≤ c.issued.length → c.lost = false →
    exec (.dmaDescriptorDone fn 1 o) s = .next ((s.count 0xC8 none (some fn.val) (desBytes c.desc)).ringFinish fn.val (hostRing fn.val 1) stOk)) ∧
  (∀ (s : State) (fn : Fn) (c : DmaXfer) (o : DmaOutcome), s.clocked = true → s.resident fn.val = true → (s.ctx fn.val).ide.insecure = false →
    (s.ring (hostRing fn.val 1)).current = some c → c.lost = true → (∀ j, j < 64 → s.dmaActive j = false) →
    exec (.dmaDescriptorDone fn 1 o) s = .next ((s.count 0xC8 none (some fn.val) (4096 * (c.issued.length - 1))).ringFinish fn.val
      (hostRing fn.val 1) stJobFault)) ∧
  (∀ (s s1 : State) (fn : Fn) (c : DmaXfer) (o : DmaOutcome), s.clocked = true → s.resident fn.val = true → (s.ctx fn.val).ide.insecure = false →
    (s.ring (hostRing fn.val 0)).current = some c →
    o.hostError = true ∨ (desBytes c.desc ≤ o.bytes.length ∧ desUnits c.desc ≤ c.issued.length) →
    s.writeCvaN fn.val (some c.seq) (desField c.desc 128 64) (o.bytes.take (desBytes c.desc)) = .ok s1 →
    exec (.dmaDescriptorDone fn 0 o) s = .next ((s1.count 0xC8 none (some fn.val) (min o.bytes.length (desBytes c.desc))).ringFinish fn.val
      (hostRing fn.val 0) (if o.hostError then stDmaHostError else stOk))) ∧
  (∀ (s : State) (fn : Fn) (d : RingNo) (c : DmaXfer) (o : DmaOutcome), s.clocked = true → s.resident fn.val = true →
    (s.ring (hostRing fn.val d.val)).current = some c → (s.ctx fn.val).ide.insecure = true →
    exec (.dmaDescriptorDone fn d o) s = .next (s.ringFinish fn.val (hostRing fn.val d.val) stIdeInsecure)) ∧
  (∀ (s : State) (fn : Fn) (d : RingNo) (c : DmaXfer) (o : DmaOutcome), s.clocked = true → s.resident fn.val = false →
    (s.ring (hostRing fn.val d.val)).current = some c →
    exec (.dmaDescriptorDone fn d o) s = .next ((s.setRing (hostRing fn.val d.val) .reset).discharge fn.val c.seq)) ∧
  (∀ (s s1 : State) (dt : Nat) (fn : Fn) (c : DmaXfer) (bs : List Byte) (t0 : Nat), s.clocked = true → s.resident fn.val = true →
    (s.ring (hostRing fn.val 0)).current = some c → c.issued[bs.length / 4096]? = some t0 → t0 + 10000000 ≤ s.now + dt →
    bs.length < desBytes c.desc → (s.elapse dt).writeCvaN fn.val (some c.seq) (desField c.desc 128 64) (bs.take (desBytes c.desc)) = .ok s1 →
    exec (.dmaTimeout dt fn 0 bs) s = .next ((s1.count 0xC8 none (some fn.val) (min bs.length (desBytes c.desc))).ringFinish fn.val
      (hostRing fn.val 0) stDmaTimeout)) ∧
  (∀ (s : State) (dt : Nat) (fn : Fn) (c : DmaXfer) (bs : List Byte) (t0 : Nat), s.resident fn.val = true →
    (s.ring (hostRing fn.val 0)).current = some c → c.issued[bs.length / 4096]? = some t0 → s.now + dt < t0 + 10000000 →
    exec (.dmaTimeout dt fn 0 bs) s = .next (s.elapse dt))

/-- A port comes up, takes flits in order, resends on NAK, fails, and carries time (15_fabric_failover_and_spares.md, 02_clockless_timing_and_tide.md). -/
def Obligations.FabricPorts : Prop :=
  (∀ (s : State) (p : FabPort), s.board.powered = true → s.power.mode < 3 → (s.port p.val).mode = .down ∨ (s.port p.val).mode = .training →
    s.pair.role ≠ .leaving → s.dictVal 0x660002 = 0 →
    ∃ t, exec (.linkTrained p) s = .next t ∧ (t.port p.val).mode = .up ∧ (t.port p.val).retries = (s.port p.val).retries ∧
      (t.port p.val).rxSeq = 0 ∧ (∀ k, k ≠ p.val → t.port k = s.port k) ∧ t.hbm = s.hbm ∧ t.ctxs = s.ctxs ∧ t.queues = s.queues ∧ t.pair = s.pair) ∧
  (∀ (s : State) (p : FabPort), s.board.powered = false ∨ (s.port p.val).mode = .up → exec (.linkTrained p) s = .next s) ∧
  (∀ (s : State) (dt : Nat) (p : FabPort) (f : List Byte), s.board.powered = true → (s.port p.val).mode = .up → flitOk f = true →
    flitField f 0 1 = 1 → flitField f 2 2 = (s.port p.val).rxSeq → flitFirst f = true → flitLast f = false →
    (s.slackRuns = true →
      exec (.msg dt p f) s = .next ((((s.elapse dt).setPort p.val { (s.port p.val).heard (s.now + dt) f with
        rxSeq := ((s.port p.val).rxSeq + 1) % 65536, nakSent := false, lastMsg := s.now + dt, partials := (f.drop 8).take 244
        freed0 := (s.port p.val).freed0 + (if flitVc f then 0 else 1), freed1 := (s.port p.val).freed1 + (if flitVc f then 1 else 0) }).count 0x61
          (some (fabricPortId p.val)) none 1).pumpPort p.val)) ∧
    (s.slackRuns = false → ∃ t, exec (.msg dt p f) s = .next t ∧
      t.obs.slack.flits = s.obs.slack.flits ++ [(p.val, messageCtx ((f.drop 8).take 244), f)] ∧
      (t.port p.val).partials = (f.drop 8).take 244 ∧ t.trace = s.trace)) ∧
  (∀ (s : State) (dt : Nat) (p : FabPort) (f : List Byte), s.board.powered = true → (s.port p.val).mode = .up → flitOk f = true →
    flitField f 0 1 = 1 → flitField f 2 2 = (s.port p.val).rxSeq → flitFirst f = true → flitLast f = true → s.asleep = false →
    s.fab.seen.contains ((msgOf ((f.drop 8).take 244)).src, (msgOf ((f.drop 8).take 244)).id) = false →
    ∃ t, exec (.msg dt p f) s = .next t ∧ t.fab.inbox = s.fab.inbox ++ [(p.val, msgOf ((f.drop 8).take 244))] ∧ (t.port p.val).partials = [] ∧
      (t.port p.val).rxSeq = ((s.port p.val).rxSeq + 1) % 65536 ∧
      t.fab.seen = (((msgOf ((f.drop 8).take 244)).src, (msgOf ((f.drop 8).take 244)).id) :: s.fab.seen).take 4096 ∧
      t.hbm = s.hbm ∧ t.ctxs = s.ctxs) ∧
  (∀ (s : State) (dt : Nat) (p : FabPort) (f : List Byte), s.board.powered = true → (s.port p.val).mode = .up → flitOk f = false →
    (s.port p.val).nakSent = false → s.board.lost = false → s.dictVal 0x660002 = 0 →
    ∃ t, exec (.msg dt p f) s = .next t ∧ t.port p.val = { s.port p.val with nakSent := true, freed0 := 0, freed1 := 0 } ∧
      t.trace = .flit p.val (flitBytes 0x02 0 0 (s.port p.val).rxSeq (s.port p.val).freed0 (s.port p.val).freed1 []) :: s.trace ∧
      t.fab.inbox = s.fab.inbox ∧ (∀ k, k ≠ p.val → t.port k = s.port k)) ∧
  (∀ (s : State) (dt : Nat) (p : FabPort) (f : List Byte), s.board.powered = true → (s.port p.val).mode = .up → flitOk f = true →
    flitField f 0 1 = 0 → exec (.msg dt p f) s = .next (((s.elapse dt).setPort p.val ((s.port p.val).heard (s.now + dt) f)).pumpPort p.val)) ∧
  (∀ (s : State) (dt : Nat) (p : FabPort) (f : List Byte), (s.port p.val).mode = .up → flitOk f = true → flitField f 0 1 = 1 →
    flitField f 2 2 ≠ (s.port p.val).rxSeq → exec (.msg dt p f) s = .next (s.elapse dt)) ∧
  (∀ (x : PortState) (now : Nat) (f : List Byte), ackAhead x.base (flitField f 4 2) = 0 →
    x.heard now f = { x with credit0 := min 64 (x.credit0 + flitField f 6 1), credit1 := min 64 (x.credit1 + flitField f 7 1) }) ∧
  (∀ (s : State) (p : FabPort) (q : BitVec 16), s.board.powered = true → (s.port p.val).mode = .up → s.board.lost = false → s.dictVal 0x660002 = 0 →
    ∃ t, exec (.nak p q) s = .next t ∧
      (t.port p.val).retries = min 65535 ((s.port p.val).retries + (if ((s.port p.val).acked s.now q.toNat).base = q.toNat
        then ((s.port p.val).acked s.now q.toNat).outstanding else 0)) ∧
      (t.port p.val).resend = (q.toNat, if (s.port p.val).resend.1 = q.toNat ∧ 0 < (s.port p.val).resend.2 then (s.port p.val).resend.2 + 1 else 1) ∧
      (∀ k, k ≠ p.val → t.port k = s.port k) ∧ t.hbm = s.hbm ∧ t.ctxs = s.ctxs) ∧
  (∀ (s : State) (p : FabPort) (q : BitVec 16) (m : FabMsg), s.board.powered = true → (s.port p.val).mode = .up → s.board.lost = false →
    (s.port p.val).base = q.toNat → (s.port p.val).txSeq = (q.toNat + 1) % 65536 → (s.port p.val).unacked = [(q.toNat, 1, m)] → m.flits = 1 →
    (s.port p.val).waiting = [] → s.dictVal 0x660002 = 0 →
    ∃ t, exec (.nak p q) s = .next t ∧ t.trace = .flit p.val (flitBytes 0x01 (m.ctrl 0) q.toNat (s.port p.val).rxSeq (s.port p.val).freed0
      (s.port p.val).freed1 (m.piece 0)) :: s.trace) ∧
  (∀ (s : State) (p : FabPort) (q : BitVec 16), s.board.lost = true ∨ (s.port p.val).mode ≠ .up → exec (.nak p q) s = .next s) ∧
  (∀ (s : State) (dt : Nat) (p : FabPort), s.board.powered = true → (s.port p.val).mode = .up →
    8 ≤ (s.port p.val).resend.2 → (s.port p.val).unacked = [] → (s.port p.val).waiting = [] → (∀ k c, (s.ring k).current ≠ some c) →
    s.dictVal 0x660002 = 0 → ∃ t, exec (.linkFail dt p) s = .next t ∧ (t.port p.val).mode = .training ∧ (t.port p.val).retries = (s.port p.val).retries ∧
      t.dictVal 0x550002 = min (dictMax 0x550002) (s.dictVal 0x550002 + 1) ∧ (∀ x, t.fab.routes.valAt 0 (x * 16 + p.val) = 0) ∧
      (∀ k, k ≠ p.val → t.port k = s.port k) ∧ t.hbm = s.hbm ∧ t.ctxs = s.ctxs) ∧
  (∀ (s : State) (dt : Nat) (p : FabPort), (s.port p.val).mode ≠ .up ∨ ((s.port p.val).resend.2 < 8 ∧ (s.port p.val).unacked = []) →
    exec (.linkFail dt p) s = .next (s.elapse dt)) ∧
  (∀ (s : State) (p : FabPort) (t1 : BitVec 64), s.board.powered = true → s.tide.serves = true → (s.port p.val).mode = .up → s.board.lost = false →
    exec (.timeReq p t1) s = .next ((s.setPort p.val { s.port p.val with freed0 := 0, freed1 := 0 }).emit (.flit p.val (flitBytes 0x04 0 0
      (s.port p.val).rxSeq (s.port p.val).freed0 (s.port p.val).freed1 (beBytes 8 t1.toNat ++ beBytes 8 s.tideNat ++ beBytes 8 s.tideNat))))) ∧
  (∀ (s : State) (p : FabPort) (t1 : BitVec 64), s.tide.serves = false → exec (.timeReq p t1) s = .next s) ∧
  (∀ (s : State) (p q : Nat), p ∈ s.timePorts → q ∈ s.portsUp → q < p → (s.tide.fabric.valAt .none q).valid = false) ∧
  (∀ (s : State) (dt p : Nat), s.board.powered = true → s.timePorts = [p] → (s.port p).mode = .up → s.board.lost = false → s.tide.lastReq = none →
    exec (.fabricTimeReqSend dt) s = .next (({ s.elapse dt with tide := { (s.elapse dt).tide with lastReq := some (s.now + dt) } }.setPort p
      { s.port p with freed0 := 0, freed1 := 0 }).emit (.flit p (flitBytes 0x03 0 0 (s.port p).rxSeq (s.port p).freed0 (s.port p).freed1
        (beBytes 8 (s.tideAfter dt).toNat))))) ∧
  (∀ (s : State) (dt t0 : Nat), s.tide.lastReq = some t0 → s.now + dt < t0 + 1000000 → exec (.fabricTimeReqSend dt) s = .next (s.elapse dt)) ∧
  (∀ (s : State) (dt : Nat) (p : FabPort) (t1 t2 t3 : BitVec 64) (err : BitVec 32), s.board.powered = true → (s.port p.val).mode = .up →
    ∃ t, exec (.timeResp dt p t1 t2 t3 err) s = .next t ∧ t = { s.elapse dt with tide := t.tide } ∧
      (t.tide.fabric.valAt .none p.val).valid = true ∧ (t.tide.fabric.valAt .none p.val).last = s.now + dt ∧
      (t.tide.fabric.valAt .none p.val).offset =
        (((t2.toNat : Int) - t1.toNat) + ((t3.toNat : Int) - (s.tideAfter dt).toNat)) / 2 ∧
      (t.tide.fabric.valAt .none p.val).delay =
        (((s.tideAfter dt).toNat - (t1.toNat : Int)) - ((t3.toNat : Int) - t2.toNat)) / 2 ∧
      (∀ k, k ≠ p.val → t.tide.fabric.valAt .none k = s.tide.fabric.valAt .none k) ∧ t.tide.count = s.tideAfter dt)

/-- What each kind of message does once it is taken from the inbox (15_fabric_failover_and_spares.md, 13_power_states_and_wake.md, 11_host_link_contexts_and_trust.md). The vote sent is a free value, log entry 41. -/
def Obligations.FabricMessages : Prop :=
  (∀ (s s1 : State) (p : Nat) (m : FabMsg), s.popMessage 0x0030 = some (s1, p, m) → p < 16 → s.pair.adopt = none →
    ∃ t, exec .placeAnnounce s = .next t ∧ (t.port p).peer = m.src ∧
      (∀ x, t.fab.routes.valAt 0 (x * 16 + p) = if (m.body.map BitVec.toNat).contains x then 1 else 0) ∧
      (∀ k, k % 16 ≠ p → t.fab.routes.valAt 0 k = s.fab.routes.valAt 0 k) ∧ t = { s1 with fab := t.fab }) ∧
  (∀ (s s1 : State) (p : Nat) (m : FabMsg), s.popMessage 0x0031 = some (s1, p, m) →
    exec .peerVote s = .next { s1 with
      fab := { s1.fab with peerVotes := s1.fab.peerVotes.put m.src (s.now, BitVec.ofNat 9 (beNat (m.body.take 2))) }
      power := { s1.power with
        deeperSince := if Nat.land (BitVec.ofNat 9 (beNat (m.body.take 2))).toNat (511 - s1.voteOf 40) = 0 then s1.power.deeperSince else none } }) ∧
  (∀ (s s1 : State) (p : Nat) (m : FabMsg), s.popMessage 0x0033 = some (s1, p, m) → exec .fabScrubDone s = .next s1) ∧
  (∀ (s s1 : State) (p : Nat) (m : FabMsg), s.popMessage 0x0034 = some (s1, p, m) → exec .fabCtxGone s = .next s1) ∧
  (∀ (s s1 : State) (ty p : Nat) (m : FabMsg), s.popMessage ty = some (s1, p, m) →
    (p, m) ∈ s.fab.inbox ∧ m.type = ty ∧ s1 = { s with fab := { s.fab with inbox := s.fab.inbox.erase (p, m) } }) ∧
  (∀ (s s1 : State) (p : Nat) (m : FabMsg) (c : DmaXfer), s.popMessage 0x0002 = some (s1, p, m) → (s.ring (fabRing m.ctx 0)).current = some c →
    desTag c.desc = beNat (m.body.take 4) → desField c.desc 26 6 = m.src →
    exec .dmaResult s = .next (s1.ringFinish m.ctx (fabRing m.ctx 0) (BitVec.ofNat 16 (beNat ((m.body.drop 4).take 2))))) ∧
  (∀ (s s1 : State) (p : Nat) (m : FabMsg), s.popMessage 0x0002 = some (s1, p, m) → (s.ring (fabRing m.ctx 0)).current = none →
    (s.ring (fabRing m.ctx 1)).current = none → exec .dmaResult s = .next s1) ∧
  (∀ (s s1 : State) (p : Nat) (m : FabMsg), s.popMessage 0x0001 = some (s1, p, m) → m.offset = 0 → m.final = true →
    s.ctxLive m.ctx (BitVec.ofNat 16 m.gen) = true → bitOf (s.reg m.ctx 0x701040) m.src = false →
    ∃ t, exec .dmaData s = .next t ∧ t.hbm = s.hbm ∧ t.ctxs = s.ctxs ∧
      t.net = (s1.raise stRxRefused (beData [(1, m.src)])).net ∧
      t.fab.rx = s.fab.rx.filter fun y => !(y.src == m.src && y.xfer == m.xfer)) ∧
  (∀ (s s1 s2 : State) (p : Nat) (m : FabMsg), s.popMessage 0x0001 = some (s1, p, m) → m.offset = 0 → m.final = true →
    s1.rxRefusal m (beNat (m.body.take 8)) (beNat ((m.body.drop 8).take 4)) = none → bitOf (beNat ((m.body.drop 16).take 4)) 0 = false →
    (s1.admitWork m.ctx).1.writeCvaN m.ctx (some (s1.pm.order + 1)) (beNat (m.body.take 8)) (m.body.drop 24) = .ok s2 →
    ∃ t, exec .dmaData s = .next t ∧ t.hbm = s2.hbm ∧ t.ctxs = s2.ctxs ∧ t.pm = (s2.discharge m.ctx (s1.pm.order + 1)).pm) ∧
  (∀ (s : State), s.popMessage 0x0030 = none → exec .placeAnnounce s = .next s) ∧
  (∀ (s : State), s.fab.inbox = [] → exec .peerVote s = .next s ∧ exec .fabScrubDone s = .next s ∧ exec .fabCtxGone s = .next s ∧
    exec .dmaResult s = .next s ∧ exec .dmaData s = .next s) ∧
  (∀ (s : State) (dt : Nat) (x : Place) (t0 : Nat) (v : BitVec 9), s.fab.peerVotes.look x.val = some (t0, v) →
    exec (.peerVoteLapse dt x) s = .next (if t0 + 150000000 ≤ s.now + dt
      then { s.elapse dt with fab := { s.fab with peerVotes := s.fab.peerVotes.del x.val } } else s.elapse dt)) ∧
  (∀ (s : State) (dt : Nat), ∃ t, exec (.peerVoteSend dt) s = .next t ∧ t.hbm = s.hbm ∧ t.ctxs = s.ctxs ∧
    (s.board.ready = true → s.mgmtUp = true → s.pair.role ≠ .leaving → s.fab.voteSent.2 + 50000000 ≤ s.now + dt →
      t.fab.voteSent = (BitVec.ofNat 9 (Config.freeNat s.free 0), s.now + dt))) ∧
  (∀ (s : State) (dt : Nat) (x : FabPayload), s.fab.payloads = [x] → s.fab.rx = [] → x.type ≠ 0x0020 →
    exec (.reassemblyTimeout dt) s = .next (if x.last + 10000000 ≤ s.now + dt
      then ({ s.elapse dt with fab := { s.fab with payloads := [] } } : State).bump 0x550009 else s.elapse dt)) ∧
  (∀ (s : State) (dt : Nat) (x : FabRx), s.fab.payloads = [] → s.fab.rx = [x] →
    exec (.reassemblyTimeout dt) s = .next (if x.last + 10000000 ≤ s.now + dt
      then (({ s.elapse dt with fab := { s.fab with rx := [] } } : State).discharge x.ctx x.seq).bump 0x550009 else s.elapse dt))

/-- Fabric transfers leave through their ring; bit-error tests are asked for, accepted, run and judged (15_fabric_failover_and_spares.md). -/
def Obligations.FabricTransfersAndTests : Prop :=
  (∀ (s : State) (fn : Fn) (d : RingNo) (v : BitVec 32), s.serves fn.val = true → (s.ctx fn.val).tdi ≠ .locked →
    (s.ring (fabRing fn.val d.val)).running = true → v.toNat % 4096 < 2 ^ (s.ring (fabRing fn.val d.val)).order →
    exec (.fabXferDoorbell fn d v) s =
      .next ((s.setRing (fabRing fn.val d.val) { s.ring (fabRing fn.val d.val) with tail := v.toNat % 4096 }).count 0xC7 none (some fn.val) 1)) ∧
  (∀ (s : State) (fn : Fn) (d : RingNo) (v : BitVec 32), s.serves fn.val = true → (s.ring (fabRing fn.val d.val)).running = false →
    exec (.fabXferDoorbell fn d v) s = .next (s.setRing (fabRing fn.val d.val) { s.ring (fabRing fn.val d.val) with dbDrop := true })) ∧
  (∀ (s : State) (fn : Fn) (d : RingNo) (bs : List Byte), s.unitsRun = true → s.resident fn.val = true → (s.ring (fabRing fn.val d.val)).running = true →
    (s.ring (fabRing fn.val d.val)).current = none → (s.ring (fabRing fn.val d.val)).head ≠ (s.ring (fabRing fn.val d.val)).tail →
    s.readCvaN fn.val none ((s.ring (fabRing fn.val d.val)).base.toNat / 4096 * 4096 + 32 * (s.ring (fabRing fn.val d.val)).head) 32 = some bs →
    s.rangeBad fn.val (desField (BitVec.ofNat 256 (leNat bs)) 192 64) (desBytes (BitVec.ofNat 256 (leNat bs))) 0 = none →
    desBytes (BitVec.ofNat 256 (leNat bs)) ≠ 0 →
    ((s.routeTo (desField (BitVec.ofNat 256 (leNat bs)) 26 6)).isSome = true →
      (s.readCvaN fn.val (some (s.pm.order + 1)) (desField (BitVec.ofNat 256 (leNat bs)) 192 64) (desBytes (BitVec.ofNat 256 (leNat bs)))).isSome = true →
      ∃ t, exec (.fabXferStart fn d) s = .next t ∧
        t.ring (fabRing fn.val d.val) = { s.ring (fabRing fn.val d.val) with
          current := some ⟨(s.ring (fabRing fn.val d.val)).head, BitVec.ofNat 256 (leNat bs), s.pm.order + 1, [], false⟩ } ∧
        t.hbm = s.hbm ∧ t.ctxs = s.ctxs ∧ t.pm = (s.admitWork fn.val).1.pm) ∧
    ((s.routeTo (desField (BitVec.ofNat 256 (leNat bs)) 26 6)).isNone = true ∨
        s.readCvaN fn.val (some (s.pm.order + 1)) (desField (BitVec.ofNat 256 (leNat bs)) 192 64) (desBytes (BitVec.ofNat 256 (leNat bs))) = none →
      exec (.fabXferStart fn d) s = .next (((s.admitWork fn.val).1.setRing (fabRing fn.val d.val) { s.ring (fabRing fn.val d.val) with
          current := some ⟨(s.ring (fabRing fn.val d.val)).head, BitVec.ofNat 256 (leNat bs), s.pm.order + 1, [], false⟩ }).ringFinish fn.val
        (fabRing fn.val d.val) (if (s.readCvaN fn.val (some (s.pm.order + 1)) (desField (BitVec.ofNat 256 (leNat bs)) 192 64)
          (desBytes (BitVec.ofNat 256 (leNat bs)))).isNone then stFabricPoison else stNoRoute)))) ∧
  (∀ (s : State) (fn : Fn) (d : RingNo), s.unitsRun = false ∨ (s.ring (fabRing fn.val d.val)).running = false →
    exec (.fabXferStart fn d) s = .next s) ∧
  (∀ (s : State) (dt : Nat) (p : FabPort) (l : BitVec 8) (ms : BitVec 32), s.board.powered = true → (s.port p.val).mode = .up →
    (s.port p.val).lastMsg + 10000000 ≤ s.now + dt → s.pair.role = .alone ∨ s.pairSetting 0x500007 ≠ p.val →
    s.board.lost = false →
    ∃ t, exec (.testReq dt p l ms) s = .next t ∧ t.port p.val = { s.port p.val with
        freed0 := 0, freed1 := 0, mode := .testing, test := some ⟨ms.toNat, l.toNat % 16, s.now + dt, decide (ms.toNat < 10000)⟩ } ∧
      t.trace = .flit p.val (flitBytes 0x07 0 0 (s.port p.val).rxSeq (s.port p.val).freed0 (s.port p.val).freed1 (beBytes 1 1)) :: s.trace ∧
      (∀ k, k ≠ p.val → t.port k = s.port k) ∧ t = { s.elapse dt with fab := t.fab, trace := t.trace }) ∧
  (∀ (s : State) (dt : Nat) (p : FabPort) (l : BitVec 8) (ms : BitVec 32), s.board.powered = true → (s.port p.val).mode = .up →
    s.board.lost = false → s.now + dt < (s.port p.val).lastMsg + 10000000 →
    exec (.testReq dt p l ms) s = .next (((s.elapse dt).setPort p.val { s.port p.val with freed0 := 0, freed1 := 0 }).emit (.flit p.val (flitBytes 0x07 0 0
      (s.port p.val).rxSeq (s.port p.val).freed0 (s.port p.val).freed1 (beBytes 1 0))))) ∧
  (∀ (s : State) (p : FabPort) (b : BerTest), (s.port p.val).asked = some b →
    exec (.testAck p true) s = .next (s.setPort p.val { s.port p.val with mode := .testing, asked := none, test := some { b with start := s.now } })) ∧
  (∀ (s : State) (p : FabPort) (b : BerTest), (s.port p.val).asked = some b →
    ∃ t, exec (.testAck p false) s = .next t ∧ t.port p.val = { s.port p.val with asked := none } ∧
      t.fab.berQueue = s.fab.berQueue ++ [if b.scheduled then p.val + 16 else p.val] ∧ (∀ k, k ≠ p.val → t.port k = s.port k)) ∧
  (∀ (s : State) (p : FabPort) (a : Bool), (s.port p.val).asked = none → exec (.testAck p a) s = .next s) ∧
  (∀ s : State, s.woOpen = true → s.portsUp = [] → exec (.berTest 1) s = .next { s with fab := { s.fab with berQueue := [] } }) ∧
  (∀ (s : State) (p : Nat) (rest : List Nat), s.woOpen = true → s.portsUp = p :: rest → p < 16 → (s.port p).mode = .up → (s.port p).lastMsg + 10000000 ≤ s.now → s.pair.role = .alone →
    s.board.lost = false → (∀ e ∈ s.fab.ports, e.2.test = none ∧ e.2.asked = none) →
    ∃ t, exec (.berTest 1) s = .next t ∧ t.fab.berQueue = rest ∧ (t.port p).asked = some ⟨10000, 0xF, s.now, false⟩ ∧ (t.port p).mode = .up ∧
      t.trace = .flit p (flitBytes 0x06 0 0 (s.port p).rxSeq (s.port p).freed0 (s.port p).freed1 (beBytes 1 0xF ++ beBytes 3 0 ++ beBytes 4 10000)) ::
        s.trace) ∧
  (∀ (s : State) (v : BitVec 8), s.woOpen = false ∨ (v ≠ 1 ∧ v ≠ 2) → exec (.berTest v) s = .next s) ∧
  (∀ (s : State) (dt : Nat), s.mgmtUp = false ∨ s.dictVal 0x540001 = 0 → exec (.berSchedule dt) s = .next (s.elapse dt)) ∧
  (∀ (s : State) (dt : Nat), s.mgmtUp = true → s.dictVal 0x540001 ≠ 0 → s.fab.berAt + s.dictVal 0x540001 * 1000000000 ≤ s.now + dt →
    ∃ t, exec (.berSchedule dt) s = .next t ∧ t.fab.berAt = s.now + dt ∧ (∀ e ∈ t.fab.berQueue, e ∈ s.portsUp.map (· + 16)) ∧ t.hbm = s.hbm) ∧
  (∀ (s : State) (dt : Nat) (p : FabPort) (b : BerTest) (errs : List Nat), s.board.powered = true → (s.port p.val).test = some b → b.scheduled = false →
    b.start + b.ms * 1000000 ≤ s.now + dt → (∀ k c, (s.ring k).current ≠ some c) → (s.port p.val).unacked = [] → (s.port p.val).waiting = [] → s.fab.berQueue = [] →
    ∃ t, exec (.berTestEnd dt p errs) s = .next t ∧ (t.port p.val).mode = .training ∧
      t.dictVal (0x541001 + p.val) = min (2 ^ 64 - 1) ((((List.range 4).filter fun l => bitOf b.lanes l).map fun l => (errs[l]?).getD 0).foldl (· + ·) 0) ∧
      (∀ l, l < 4 → bitOf b.lanes l = true → 0 < (errs[l]?).getD 0 → (p.val, l) ∈ t.fab.failedLanes) ∧
      (∀ x ∈ t.fab.failedLanes, x ∈ s.fab.failedLanes ∨ (x.1 = p.val ∧ x.2 < 4 ∧ 0 < (errs[x.2]?).getD 0)) ∧ t.hbm = s.hbm) ∧
  (∀ (s : State) (dt : Nat) (p : FabPort) (errs : List Nat), (s.port p.val).test = none → exec (.berTestEnd dt p errs) s = .next (s.elapse dt))

/-- Heartbeats are sent every millisecond, refresh what is known of the partner, and a silent path is reported (15_fabric_failover_and_spares.md). -/
def Obligations.PairHeartbeats : Prop :=
  (∀ (s : State) (dt : Nat), s.pairOpen = true → s.pair.heartbeatAt + 1000000 ≤ s.now + dt →
    ∃ t, exec (.heartbeatSend dt) s = .next t ∧ t.pair = { s.pair with heartbeatAt := s.now + dt, seqs := t.pair.seqs } ∧
      t.pair.seqs.valAt 0 0x10 = (s.pair.seqs.valAt 0 0x10 + 1) % 2 ^ 32 ∧ t = { s.elapse dt with pair := t.pair, trace := t.trace, fab := t.fab }) ∧
  (∀ (s : State) (dt : Nat), s.pairOpen = false ∨ s.now + dt < s.pair.heartbeatAt + 1000000 → exec (.heartbeatSend dt) s = .next (s.elapse dt)) ∧
  (∀ (s : State) (dt : Nat) (path : BeatPath) (b : PairBody) (r : PairRole), s.pair.adopt = none → (s.hear (path = .tsn) 0x10 b).2 = true →
    roleOf b.role = some r → s.pair.role = .standby →
    ∃ t, exec (.heartbeat dt path b) s = .next t ∧ t.pair.role = .standby ∧ t.pair.partnerRole = some r ∧ t.pair.partnerHealth = b.health ∧
      t.pair.partnerMirror = b.mirrorSeq ∧ t.pair.silent = false ∧ t.pair.epoch = max s.pair.epoch b.epoch ∧ t.pair.seen = max s.pair.seen b.epoch ∧
      (path = .tsn → t.pair.tsnHeard = s.now + dt ∧ t.pair.tsnLost = false ∧ t.pair.fabHeard = s.pair.fabHeard ∧ t.pair.fabLost = s.pair.fabLost) ∧
      (path = .fabric → t.pair.fabHeard = s.now + dt ∧ t.pair.fabLost = false ∧ t.pair.tsnHeard = s.pair.tsnHeard ∧ t.pair.tsnLost = s.pair.tsnLost) ∧
      t.hbm = s.hbm ∧ t.ctxs = s.ctxs ∧ t.serving = s.serving) ∧
  (∀ (s : State) (dt : Nat) (path : BeatPath) (b : PairBody), s.pair.adopt = none → (s.hear (path = .tsn) 0x10 b).2 = true → b.role = 5 →
    s.pair.role = .init →
    ∃ t, exec (.heartbeat dt path b) s = .next t ∧ t.pair.role = .shadow ∧ t.pair.since = s.now + dt ∧ t.pair.passes = 0 ∧ t.pair.fails = 0 ∧
      t.hbm = s.hbm ∧ t.ctxs = s.ctxs) ∧
  (∀ (s : State) (dt : Nat) (path : BeatPath) (b : PairBody) (r : PairRole), s.pair.adopt = none → (s.hear (path = .tsn) 0x10 b).2 = true →
    roleOf b.role = some r → s.pair.role = .active → s.pair.epoch < b.epoch →
    ∃ t, exec (.heartbeat dt path b) s = .next t ∧ t.acts = false ∧ t.pair.epoch = b.epoch) ∧
  (∀ (s : State) (dt : Nat) (path : BeatPath) (b : PairBody), s.pair.adopt = none → s.pairOpen = false → exec (.heartbeat dt path b) s = .next (s.elapse dt)) ∧
  (∀ (s : State) (dt : Nat) (b : PairBody), s.pair.adopt = none → s.pairOpen = true → s.net.linkA = true → s.pairMac 0x10 b = false →
    exec (.heartbeat dt .tsn b) s = .next ((s.elapse dt).bump 0x550008)) ∧
  (∀ (s : State) (dt : Nat), s.pairOpen = true → s.pair.tsnLost = false → s.pair.fabLost = false → s.pair.tsnHeard + 3000000 ≤ s.now + dt →
    exec (.pathLost dt .tsn) s = .next ((({ s.elapse dt with pair := { s.pair with tsnLost := true } } : State).bump 0x550003).raise stPathLost
      (beData [(1, 0)]))) ∧
  (∀ (s : State) (dt : Nat), s.pairOpen = true → s.pair.fabLost = false → s.pair.tsnLost = true → s.pair.silent = false →
    s.pair.fabHeard + 3000000 ≤ s.now + dt →
    ∃ t, exec (.pathLost dt .fabric) s = .next t ∧ t.pair = { s.pair with fabLost := true, silent := true } ∧
      t.dictVal 0x550003 = min (dictMax 0x550003) (s.dictVal 0x550003 + 1) ∧ t = { s.elapse dt with pair := t.pair, dict := t.dict, net := t.net }) ∧
  (∀ (s : State) (dt : Nat), s.pair.tsnLost = true ∨ s.now + dt < s.pair.tsnHeard + 3000000 → exec (.pathLost dt .tsn) s = .next (s.elapse dt))

/-- The lease: RENEW sent, received and acknowledged, its end, RELEASE and RELINQUISH (15_fabric_failover_and_spares.md). -/
def Obligations.PairLease : Prop :=
  (∀ (s : State) (dt : Nat), s.pairOpen = true → s.pair.role = .active → s.slackRuns = true → s.pair.renewAt + 10000000 ≤ s.now + dt →
    s.now + dt < s.pair.leaseEnd → s.pairSetting 0x510001 ≠ 1 →
    ∃ t, exec (.renewSend dt) s = .next t ∧ t.pair = { s.pair with leaseEnd := s.now + dt + 50000000, renewAt := s.now + dt, seqs := t.pair.seqs } ∧
      t = { s.elapse dt with pair := t.pair, trace := t.trace, fab := t.fab }) ∧
  (∀ (s : State) (dt : Nat), s.pairOpen = true → s.pair.role = .active → s.slackRuns = true → s.pair.renewAt + 10000000 ≤ s.now + dt →
    s.now + dt < s.pair.leaseEnd → s.pairSetting 0x510001 = 1 →
    ∃ t, exec (.renewSend dt) s = .next t ∧ t.pair.leaseEnd = s.pair.leaseEnd ∧ t.pair.renewAt = s.now + dt ∧
      t.pair.renews = (((s.pair.seqs.valAt 0 0x11 + 1) % 2 ^ 32, s.now + dt) :: s.pair.renews).take 8 ∧ t = { s.elapse dt with pair := t.pair, trace := t.trace, fab := t.fab }) ∧
  (∀ (s : State) (dt : Nat), s.pair.role ≠ .active ∨ s.pair.leaseEnd ≤ s.now + dt ∨ s.now + dt < s.pair.renewAt + 10000000 →
    exec (.renewSend dt) s = .next (s.elapse dt)) ∧
  (∀ (s : State) (dt : Nat) (path : BeatPath) (b : PairBody), (s.hear (path = .tsn) 0x11 b).2 = true → s.pair.role ≠ .active →
    s.pair.epoch ≤ b.epoch → s.pair.seen ≤ b.epoch →
    ∃ t, exec (.renew dt path b) s = .next t ∧ t.pair.heard = s.now + dt ∧ t.pair.claim = none ∧ t.pair.released = false ∧
      t.pair.leaseEnd = s.now + dt + 1000 * b.leftUs ∧ t.pair.epoch = b.epoch ∧ t.pair.seen = b.epoch ∧ t.pair.role = s.pair.role ∧
      t = { s.elapse dt with pair := t.pair, trace := t.trace, net := t.net, dict := t.dict, fab := t.fab }) ∧
  (∀ (s : State) (dt : Nat) (path : BeatPath) (b : PairBody), s.pairOpen = false → exec (.renew dt path b) s = .next (s.elapse dt)) ∧
  (∀ (s : State) (dt : Nat) (b : PairBody) (r : Nat × Nat), s.pairOpen = true → s.pair.role = .active → b.pairId = s.pairSetting 0x500002 →
    s.pair.renews.find? (fun x => x.1 == b.seq) = some r →
    ∃ t, exec (.renewAck dt .fabric b) s = .next t ∧ t.pair.leaseEnd = max s.pair.leaseEnd (r.2 + 50000000) ∧
      (∀ x ∈ t.pair.renews, r.2 < x.2) ∧ t = { s.elapse dt with pair := { s.pair with leaseEnd := t.pair.leaseEnd, renews := t.pair.renews } }) ∧
  (∀ (s : State) (dt : Nat) (b : PairBody), s.pair.role ≠ .active → exec (.renewAck dt .fabric b) s = .next (s.elapse dt)) ∧
  (∀ (s : State) (dt : Nat), s.board.powered = true → s.pair.role = .active → s.pair.leaseEnd ≤ s.now + dt →
    ∃ t, exec (.leaseEnd dt) s = .next t ∧ t.pair.role = .fenced ∧ t.pair.leaseEnd = s.now + dt ∧ t.acts = false ∧ t.pair.epoch = s.pair.epoch) ∧
  (∀ (s : State) (dt : Nat), s.pair.role ≠ .active ∨ s.now + dt < s.pair.leaseEnd → exec (.leaseEnd dt) s = .next (s.elapse dt)) ∧
  (∀ s : State, s.woOpen = true → s.pair.role = .active → s.pair.partnerRole ≠ some .syncing →
    ∃ t, exec .relinquish s = .next t ∧ t.pair.role = .fenced ∧ t.pair.leaseEnd = s.now ∧ t.acts = false) ∧
  (∀ s : State, s.woOpen = true → s.pair.role ≠ .active ∨ s.pair.partnerRole = some .syncing →
    exec .relinquish s = .next (s.raise stPairState (beData [(1, fieldAt (s.pairBody 0x10 0 0 0) 1 1)]))) ∧
  (∀ s : State, s.woOpen = false → exec .relinquish s = .next s) ∧
  (∀ (s : State) (dt : Nat) (path : BeatPath) (b : PairBody), (s.hear (path = .tsn) 0x13 b).2 = true → s.slackRuns = true → s.pair.role = .standby →
    b.epoch = s.pair.epoch → s.pair.claim = none → s.pairSetting 0x510001 = 1 →
    ∃ t, exec (.pairRelease dt path b) s = .next t ∧ t.pair.claim = some (max s.pair.seen s.pair.epoch + 1, s.now + dt) ∧
      t.pair.seen = max s.pair.seen s.pair.epoch + 1 ∧ t.pair.released = true ∧ t.pair.role = .standby ∧ t.hbm = s.hbm ∧ t.serving = s.serving) ∧
  (∀ (s : State) (dt : Nat) (path : BeatPath) (b : PairBody), (s.hear (path = .tsn) 0x13 b).2 = true → s.slackRuns = true → s.pair.role = .standby →
    b.epoch = s.pair.epoch → s.pair.claim = none → s.pairSetting 0x510001 ≠ 1 →
    ∃ t, exec (.pairRelease dt path b) s = .next t ∧ t.pair.role = .active ∧ t.pair.epoch = max s.pair.seen s.pair.epoch + 1 ∧
      t.pair.leaseEnd = s.now + dt + 50000000 ∧ t.pair.holder = s.pair.place ∧ t.pair.answers = [s.pairSetting 0x500005] ∧ t.pair.staging = [])

/-- Who claims the lease and when, what GRANT and DENY decide, and how a spare adopts a place (15_fabric_failover_and_spares.md). -/
def Obligations.PairClaims : Prop :=
  (∀ (s : State) (dt : Nat), s.pairOpen = true → s.slackRuns = true → s.pair.role = .standby ∨ s.pair.role = .syncing → s.pair.claim = none →
    s.pair.heard + 55000000 ≤ s.now + dt → s.pairSetting 0x510001 = 1 →
    ∃ t, exec (.claimTimer dt) s = .next t ∧ t.pair.claim = some (max s.pair.seen s.pair.epoch + 1, s.now + dt) ∧ t.pair.role = s.pair.role ∧
      t.pair.epoch = s.pair.epoch ∧ t = { s.elapse dt with pair := t.pair, journal := t.journal, trace := t.trace }) ∧
  (∀ (s : State) (dt : Nat), s.pairOpen = true → s.slackRuns = true → s.pair.role = .standby ∨ s.pair.role = .syncing → s.pair.claim = none →
    s.pair.heard + 55000000 ≤ s.now + dt → s.pairSetting 0x510001 ≠ 1 →
    ∃ t, exec (.claimTimer dt) s = .next t ∧ t.pair.role = .active ∧ t.pair.epoch = max s.pair.seen s.pair.epoch + 1 ∧
      t.pair.leaseEnd = s.now + dt + 50000000 ∧ t.pair.holder = s.pair.place) ∧
  (∀ (s : State) (dt : Nat), s.now + dt < s.pair.heard + 55000000 ∨ (s.pair.role ≠ .standby ∧ s.pair.role ≠ .syncing) →
    exec (.claimTimer dt) s = .next (s.elapse dt)) ∧
  (∀ (s : State) (dt : Nat), s.pairOpen = true → s.slackRuns = true → s.pair.role = .init → s.pair.startupOk = true → s.pair.claim = none →
    s.pair.adopt = none → s.pair.since + (if s.pairSetting 0x500009 = 1 then 55000000 else 110000000) ≤ s.now + dt → s.pairSetting 0x510001 = 1 →
    ∃ t, exec (.initClaimTimer dt) s = .next t ∧ t.pair.claim = some (max s.pair.seen s.pair.epoch + 1, s.now + dt) ∧ t.pair.role = .init ∧
      t = { s.elapse dt with pair := t.pair, journal := t.journal, trace := t.trace }) ∧
  (∀ (s : State) (dt : Nat), s.pair.startupOk = false ∨ s.pair.role ≠ .init → exec (.initClaimTimer dt) s = .next (s.elapse dt)) ∧
  (∀ (s : State) (dt e t0 : Nat), s.pairOpen = true → s.slackRuns = true → s.pair.claim = some (e, t0) → t0 + 5000000 ≤ s.now + dt →
    ∃ t, exec (.claimResend dt) s = .next t ∧ t.pair = { s.pair with claim := some (e, s.now + dt), seqs := t.pair.seqs } ∧
      t = { s.elapse dt with pair := t.pair, trace := t.trace }) ∧
  (∀ (s : State) (dt : Nat), s.pair.claim = none → exec (.claimResend dt) s = .next (s.elapse dt)) ∧
  (∀ (s : State) (dt : Nat) (path : BeatPath) (b : PairBody), (s.hear (path = .tsn) 0x14 b).2 = true → s.pair.role = .active → s.pair.epoch < b.epoch →
    ∃ t, exec (.claim dt path b) s = .next t ∧ t.pair.role = .fenced ∧ t.acts = false ∧ t.pair.epoch = b.epoch ∧ t.pair.holder = b.place) ∧
  (∀ (s : State) (dt : Nat) (path : BeatPath) (b : PairBody), (s.hear (path = .tsn) 0x14 b).2 = true → s.pair.role = .standby →
    ∃ t, exec (.claim dt path b) s = .next t ∧ t.pair.role = .standby ∧ t.pair.epoch = max s.pair.epoch b.epoch ∧
      t.pair.seen = max s.pair.seen b.epoch ∧ t = { s.elapse dt with pair := t.pair }) ∧
  (∀ (s : State) (dt e t0 : Nat) (path : PairPath) (b : PairBody), (s.hearWitness path 0x15 b).2 = true → s.pair.claim = some (e, t0) → b.epoch = e →
    s.slackRuns = true →
    ∃ t, exec (.grant dt path b) s = .next t ∧ t.pair.role = .active ∧ t.pair.epoch = e ∧ t.pair.leaseEnd = s.now + dt + 50000000 ∧
      t.pair.claim = none ∧ t.pair.holder = s.pair.place) ∧
  (∀ (s : State) (dt : Nat) (b : PairBody), s.pair.claim = none → exec (.grant dt .fabric b) s = .next (s.elapse dt) ∧
    exec (.deny dt .fabric b) s = .next (s.elapse dt)) ∧
  (∀ (s : State) (dt e t0 : Nat) (path : PairPath) (b : PairBody), (s.hearWitness path 0x16 b).2 = true → s.pair.claim = some (e, t0) →
    exec (.deny dt path b) s = .next ((s.elapse dt).raise stLeaseLost (beData [(8, e)]))) ∧
  (∀ (s : State) (p : Place), s.woOpen = true → s.pair.place = 0xFF → s.portsUp = [] →
    exec (.placeAdopt p) s = .next { s with pair := { s.pair with adopt := some (p.val, s.now + 110000000) } }) ∧
  (∀ (s : State) (p : Place), s.woOpen = true → s.pair.place ≠ 0xFF →
    exec (.placeAdopt p) s = .next (s.raise stPairState (beData [(1, fieldAt (s.pairBody 0x10 0 0 0) 1 1)]))) ∧
  (∀ (s : State) (dt p t0 : Nat), s.pair.adopt = some (p, t0) → s.mgmtUp = true → t0 ≤ s.now + dt →
    ∃ t, exec (.placeAdoptTimeout dt) s = .next t ∧ t.pair.place = p ∧ t.pair.adopt = none ∧ t.pair.since = s.now + dt ∧
      t.pair.role = (if s.pairSetting 0x500001 = 1 then .init else .alone) ∧ t.hbm = s.hbm ∧ t.ctxs = s.ctxs) ∧
  (∀ (s : State) (dt : Nat), s.pair.adopt = none → exec (.placeAdoptTimeout dt) s = .next (s.elapse dt))

/-- Mirror records, acknowledgements and snapshots; replays, comparisons and what their verdicts do (15_fabric_failover_and_spares.md, 18_integrity_faults_and_self_test.md). -/
def Obligations.PairMirrorAndComparison : Prop :=
  (∀ (s s1 : State) (p : Nat) (m : FabMsg), s.pair.role = .standby → s.popMessage 0x0010 = some (s1, p, m) → m.offset = 0 → m.final = true →
    s.pair.mirrorApplied < beNat (m.body.take 4) →
    ∃ t, exec .mirror s = .next t ∧ t.pair.mirrorApplied = beNat (m.body.take 4) ∧ t.pair.role = .standby ∧ t.ctxs = s.ctxs ∧ t.serving = s.serving ∧
      (beNat ((m.body.drop 4).take 1) = 5 → t.pair.roots.look (beNat ((m.body.drop 5).take 1)) =
        if (m.body.drop 8).isEmpty then none else some (m.body.drop 8)) ∧
      (beNat ((m.body.drop 4).take 1) = 1 → ∃ x ∈ t.pair.staging, x.ctx = beNat ((m.body.drop 5).take 1) ∧
        x.desc = BitVec.ofNat 1024 (leNat ((m.body.drop 8).take 128)))) ∧
  (∀ (s s1 : State) (p : Nat) (m : FabMsg), s.pair.role = .standby → s.popMessage 0x0010 = some (s1, p, m) → m.offset = 0 → m.final = true →
    beNat (m.body.take 4) ≤ s.pair.mirrorApplied → exec .mirror s = .next s1) ∧
  (∀ (s : State), s.fab.inbox = [] → exec .mirror s = .next s ∧ exec .mirrorAck s = .next s ∧ exec .snapshot s = .next s ∧ exec .replay s = .next s ∧
    exec .compareResult s = .next s ∧ exec .compareOutput s = .next s) ∧
  (∀ (s s1 : State) (p : Nat) (m : FabMsg), s.popMessage 0x0011 = some (s1, p, m) →
    exec .mirrorAck s = .next { s1 with pair := { s1.pair with
      mirrorAcked := max s.pair.mirrorAcked (beNat (m.body.take 4))
      mirrorSince := if s.pair.mirrorSent ≤ max s.pair.mirrorAcked (beNat (m.body.take 4)) then none else some s.now } }) ∧
  (∀ (s : State) (dt t0 : Nat), s.pair.role = .active → s.mgmtUp = true → s.pair.mirrorLost = false → s.pair.mirrorSince = some t0 →
    t0 + 1000000 ≤ s.now + dt →
    ∃ t, exec (.mirrorLost dt) s = .next t ∧ t.pair = { s.pair with mirrorLost := true, mirrorSince := none } ∧
      t.dictVal 0x550006 = min (dictMax 0x550006) (s.dictVal 0x550006 + 1) ∧ t = { s.elapse dt with pair := t.pair, dict := t.dict, net := t.net }) ∧
  (∀ (s : State) (dt : Nat), s.pair.role = .active → s.pair.mirrorLost = true → exec (.mirrorLost dt) s = .next (s.elapse dt)) ∧
  (∀ (s : State) (dt : Nat), s.pair.role = .standby → s.mgmtUp = true → s.pair.mirrorApplied < s.pair.partnerMirror →
    ∃ t, exec (.mirrorLost dt) s = .next t ∧ t.pair.role = .syncing ∧ t.pair.staging = [] ∧ t.pair.snapshot = false ∧ t.pair.mirrorApplied = 0 ∧
      t.hbm = s.hbm ∧ t.ctxs = s.ctxs) ∧
  (∀ (s s1 : State) (p : Nat) (m : FabMsg), s.pair.role ≠ .syncing → s.popMessage 0x0012 = some (s1, p, m) → m.offset = 0 → m.final = true →
    exec .snapshot s = .next s1) ∧
  (∀ (s s1 : State) (p : Nat) (m : FabMsg), s.pair.role = .syncing → s.popMessage 0x0012 = some (s1, p, m) → m.offset = 0 → m.final = true →
    m.body.length < 10 → s.pair.staging = [] →
    ∃ t, exec .snapshot s = .next t ∧ t.pair.snapshot = true ∧ t.pair.mirrorApplied = beNat (m.body.take 4) ∧
      t.pair.role = (if s.pair.partnerMirror ≤ beNat (m.body.take 4) then .standby else .syncing) ∧ t.pair.staging = []) ∧
  (∀ (s s1 : State) (p : Nat) (m : FabMsg), s.popMessage 0x0020 = some (s1, p, m) → m.offset = 0 → m.final = true →
    exec .replay s = .next (if s.pair.role = .shadow ∨ s.pair.role = .standby
      then { s1 with pair := { s1.pair with replays := s1.pair.replays ++ [⟨m.src, m.body, s1.pair.role = .standby⟩] } } else s1)) ∧
  (∀ (s : State) (out : List Byte), s.computeOpen = false ∨ s.pair.replays = [] → exec (.replayRunDone out) s = .next s) ∧
  (∀ (s : State) (out : List Byte) (x : ReplayRun) (rest : List ReplayRun), s.computeOpen = true → s.pair.replays = x :: rest →
    parseReplay x.payload = none →
    exec (.replayRunDone out) s = .next (({ s with pair := { s.pair with replays := rest } } : State).compareAnswer x.src 0 0 2)) ∧
  (∀ (s : State) (out : List Byte) (x : ReplayRun) (rest : List ReplayRun) (q : ReplayParts), s.computeOpen = true → s.pair.replays = x :: rest →
    parseReplay x.payload = some q → x.standby = true → s.comparePasses (s.compareOutputs q q.outputs out) = true →
    exec (.replayRunDone out) s = .next (({ ({ s with pair := { s.pair with replays := rest } } : State).bump 0x603009 with
      integ := { s.integ with disagreements := 0 } } : State).compareAnswer x.src (s.compareOutputs q q.outputs out).1
        (s.compareOutputs q q.outputs out).2 0)) ∧
  (∀ (s s1 : State) (p : Nat) (m : FabMsg), s.popMessage 0x0021 = some (s1, p, m) → m.src ≠ s.pairSetting 0x500005 →
    exec .compareResult s = .next s1) ∧
  (∀ (s s1 : State) (p : Nat) (m : FabMsg), s.popMessage 0x0021 = some (s1, p, m) → m.src = s.pairSetting 0x500005 → s.pair.role = .init →
    beNat ((m.body.drop 8).take 1) = 0 →
    exec .compareResult s = .next { s1 with pair := { s1.pair with startupOk := s1.integ.mismatched.isEmpty } }) ∧
  (∀ (s s1 : State) (p : Nat) (m : FabMsg), s.popMessage 0x0021 = some (s1, p, m) → m.src = s.pairSetting 0x500005 → s.pair.role = .active →
    beNat ((m.body.drop 8).take 1) = 0 →
    exec .compareResult s = .next { s1 with integ := { s1.integ with disagreements := 0 } }) ∧
  (∀ (s s1 : State) (p : Nat) (m : FabMsg), s.popMessage 0x0022 = some (s1, p, m) → m.offset = 0 → m.final = true → s.dictVal 0x520002 ≠ 1 →
    exec .compareOutput s = .next s1) ∧
  (∀ (s s1 : State) (p : Nat) (m : FabMsg), s.popMessage 0x0022 = some (s1, p, m) → m.offset = 0 → m.final = true → s.dictVal 0x520002 = 1 →
    s.pair.outputs.look m.ctx = none → m.ctx < 16 →
    exec .compareOutput s = .next { s1 with pair := { s1.pair with outputs := s1.pair.outputs.put (32 + m.ctx) m.body } }) ∧
  (∀ (s : State) (dt : Nat), s.computeOpen = false ∨ s.now + dt < s.integ.replayAt + s.dictVal 0x680001 * 1000000000 →
    exec (.standbyReplay dt) s = .next (s.elapse dt)) ∧
  (∀ (s : State) (dt : Nat), s.computeOpen = true → s.integ.replayAt + s.dictVal 0x680001 * 1000000000 ≤ s.now + dt → s.pair.role = .standby →
    s.pair.replays = [] → s.integ.sweep = none →
    ∃ t, exec (.standbyReplay dt) s = .next t ∧ t.integ.sweep = some (6, s.now + dt) ∧ t.integ.replayAt = s.now + dt ∧
      t = { s.elapse dt with integ := t.integ })

/-- Each of the 22 operators takes effect once, when it is issued under its own operator code, and marks itself computed (06_operator_catalogue.md, 07_convolution_path.md, 08_attention_and_kv_pages.md, 05_graph_contract_and_queues.md). -/
def Obligations.OperatorsTakeEffectWhenIssued : Prop :=
  (∀ (s : State) (id op code : Nat) (i : Instr) (j : Job) (p : Program) (r : BitVec 512),
    (i, code) ∈ [(Instr.matmul id op, 0x0001), (.conv2d id op, 0x0010), (.conv2dGrouped id op, 0x0011), (.maxpool2d id op, 0x0018),
      (.avgpool2d id op, 0x0019), (.attention id op, 0x0020), (.layernorm id op, 0x0030), (.rmsnorm id op, 0x0031), (.softmax id op, 0x0032),
      (.groupnorm id op, 0x0033), (.rope id op, 0x0034), (.embedGather id op, 0x0040), (.topk id op, 0x0050), (.sample id op, 0x0051),
      (.argmax id op, 0x0052), (.resize id op, 0x0060), (.colorConvert id op, 0x0061), (.convert id op, 0x0070), (.transpose id op, 0x0071),
      (.reduce id op, 0x0072), (.concat id op, 0x0073), (.map id op, 0x0080)] →
    s.jobs.look id = some j → s.progs.look j.prog = some p → p.operators[op]? = some r →
    (code ≠ 0x0051 → s.clocked = true → j.ops[op]? = some .issued → opCode r = code → j.fault = none → s.issues j.regions = true →
      ∃ t flags poison fail outside, exec i s = .next t ∧ t.jobs = s.jobs.put id (j.computed op flags poison fail outside) ∧
        (j.computed op flags poison fail outside).ops = j.ops.set op .computed ∧
        (j.computed op flags poison fail outside).numFlags &&& j.numFlags = j.numFlags ∧
        t = { s with
          jobs := t.jobs, free := t.free, trace := t.trace, dict := t.dict, obs := t.obs, hbm := t.hbm, pm := t.pm
          integ := t.integ, regions := t.regions, limits := t.limits, fab := t.fab }) ∧
    (s.clocked = false ∨ j.ops[op]? ≠ some .issued ∨ opCode r ≠ code ∨ j.fault ≠ none ∨ s.issues j.regions = false → exec i s = .next s)) ∧
  (∀ (s : State) (id op : Nat) (j : Job) (p : Program) (r : BitVec 512), s.jobs.look id = some j → s.progs.look j.prog = some p →
    p.operators[op]? = some r → s.clocked = true → j.ops[op]? = some .issued → opCode r = 0x0051 → j.fault = none → s.issues j.regions = true →
    exec (.sample id op) s = .next { s with
      jobs := s.jobs.put id { j with ops := j.ops.set op .sampling }
      serving := { s.serving with rows := s.serving.rows ++ (List.range (sampleRows (s.opEnv j p op r))).map fun b => .sample id op b } }) ∧
  (∀ (s s1 : State) (id op row : Nat) (rest : List SamplerItem) (j : Job) (p : Program) (r : BitVec 512), s.clocked = true →
    s.serving.rows = .sample id op row :: rest → s1 = { s with serving := { s.serving with rows := rest } } →
    s.jobs.look id = some j → s.progs.look j.prog = some p → p.operators[op]? = some r → j.ops[op]? = some .sampling → j.fault = none →
    ∃ t flags poison fail, exec .samplerRow s = .next t ∧
      t.jobs = s.jobs.put id { j.computed op flags poison fail false with
        ops := (j.computed op flags poison fail false).ops.set op (if row + 1 = sampleRows (s1.opEnv j p op r) then .computed else .sampling) } ∧
      t = { s1 with
        jobs := t.jobs, free := t.free, trace := t.trace, dict := t.dict, obs := t.obs, hbm := t.hbm, pm := t.pm
        integ := t.integ, fab := t.fab })

/-- An operator stores only in the planes of its output tensors (06_operator_catalogue.md, 04_device_memory_and_page_manager.md, 05_graph_contract_and_queues.md). -/
def Obligations.OperatorsStoreOnlyInTheirOutputs : Prop :=
  ∀ (s t : State) (id op : Nat) (i : Instr) (j : Job) (p : Program) (r : BitVec 512),
    i ∈ [Instr.matmul id op, .conv2d id op, .conv2dGrouped id op, .maxpool2d id op, .avgpool2d id op, .attention id op, .layernorm id op, .rmsnorm id op,
      .softmax id op, .groupnorm id op, .rope id op, .embedGather id op, .topk id op, .sample id op, .argmax id op, .resize id op, .colorConvert id op,
      .convert id op, .transpose id op, .reduce id op, .concat id op, .map id op] →
    s.jobs.look id = some j → s.progs.look j.prog = some p → p.operators[op]? = some r →
    (∀ cva f d, s.translate j.ctx (some j.seq) cva = some (f, d) → s.writableInPlace j.ctx (some j.seq) cva = true) →
    (∀ v ∈ (s.opEnv j p op r).outs, tSparse v.t = false) →
    exec i s = .next t →
    ∀ d, (∀ v ∈ emptyView :: (s.opEnv j p op r).outs, ∀ cva f,
        (v.base ≤ cva ∧ cva < v.base + tElemExtent v.t) ∨ (v.scale ≤ cva ∧ cva < v.scale + tScaleExtent v.t) →
        s.translate j.ctx (some j.seq) cva ≠ some (f, d)) →
      t.hbm.read d = s.hbm.read d

/-- What the operators compute with: integer sums, window extents, padding folds, masks, area weights, selections and the corner rows of softmax (06_operator_catalogue.md, 07_convolution_path.md, 08_attention_and_kv_pages.md, 03_number_formats_and_tensor_blocks.md). -/
def Obligations.OperatorArithmetic : Prop :=
  (∀ (pick : Nat → Nat) (ts : List Int), (ts.map Int.natAbs).sum < 2 ^ 31 → freeIntSum pick ts = (ts.sum, 0)) ∧
  (∀ w p0 p1 d k st n : Nat, outExtent w p0 p1 d k st = some n →
    0 < n ∧ (n - 1) * st + d * (k - 1) + 1 ≤ w + p0 + p1 ∧ w + p0 + p1 < n * st + d * (k - 1) + 1) ∧
  (∀ (u : Int) (w : Nat), 0 < w → foldMirror u w < w ∧ foldRepeat u w < w ∧ foldMirror (-u) w = foldMirror u w ∧
    (inside u w = true → (foldMirror u w : Int) = u ∧ (foldRepeat u w : Int) = u)) ∧
  (∀ i j sq skv : Nat, maskedAt false 0 i j sq skv = false ∧ (j < skv → maskedAt true 0 (sq - 1) j sq skv = true → sq = 0)) ∧
  (∀ x i w : Nat, x < w → i < w → w ≤ 2 ^ 24 → (overlapLen x i w w).isSome = decide (i = x)) ∧
  (∀ (b : Bool) (xs : List Val), ((selOrder b xs).map Prod.fst).Perm (List.range xs.length)) ∧
  (∀ (pick : Nat → Nat) (log : Bool) (xs vs : List Val) (x : Val), (∃ y ∈ xs, Val.isNan y = true) →
    softmaxElem pick log xs x = (.nan, 0) ∧ attendRow pick xs vs = (.nan, 0)) ∧
  (∀ (pick : Nat → Nat) (xs vs : List Val) (x : Val), (∀ y ∈ xs, y = .inf true) →
    softmaxElem pick false xs x = (Val.zero, 0) ∧ softmaxElem pick true xs x = (.inf true, 0) ∧ attendRow pick xs vs = (Val.zero, 0))

/-- KV tables: CREATE, EXTEND, WRITE, ADVANCE, TRUNCATE and DESTROY, and their refusals that change nothing (08_attention_and_kv_pages.md, 04_device_memory_and_page_manager.md). -/
def Obligations.KvEditsOnATable : Prop :=
  (∀ (s s1 : State) (c : Ctx) (g : KvGeometry) (id b : Nat), s.clocked = true → ((s.ctx c.val).mode = .active ∨ (s.ctx c.val).mode = .locked) →
    kvGeomOk g.layers g.hkv g.d g.dv = true → g.kind ≤ 2 → s.freeSlot s.kv.tables 65536 0 = some id → s.draw.takeBlock 1 = some (s1, b) →
    ∃ t, exec (.kvCreate c g) s = .next t ∧ t.kv.answer = stOk ∧
      t.kvTable id = some ⟨c.val, (s.ctx c.val).gen, g.kind, g.layers, g.hkv, g.d, g.dv, 0, 0, 0, [], b, none⟩ ∧
      (∀ x, x ≠ id → t.kvTable x = s.kvTable x) ∧ t.kv.pages = s.kv.pages ∧ t = { s with free := t.free, kv := t.kv }) ∧
  (∀ (s : State) (c : Ctx) (g : KvGeometry), s.clocked = true → (s.ctx c.val).mode ≠ .active → (s.ctx c.val).mode ≠ .locked →
    exec (.kvCreate c g) s = .next { s with kv := { s.kv with answer := stCtxGone } }) ∧
  (∀ (s s1 s2 : State) (table : BitVec 16) (tcode : BitVec 3) (fmt : BitVec 4) (t t1 : KvTable) (es : List KvEntry), s.clocked = true →
    s.kvOwner table.toNat = .ok t → kvSpanOk t tcode.toNat fmt.toNat = true → spanTokens t.spans % kvTokens tcode.toNat = 0 →
    spanTokens t.spans + kvTokens tcode.toNat ≤ 1048576 → s.growBlock table.toNat t (t.entryCount + t.layers) = some (s1, t1) →
    s1.kvNewPages t1 tcode.toNat fmt.toNat false t1.layers 0 [] = .ok (s2, es) →
    ∃ u x, exec (.kvExtend table tcode fmt) s = .next u ∧ u.kv.answer = stOk ∧ u.kvTable table.toNat = some x ∧ x.length = t.length ∧
      x.version = t.version + 1 ∧ x.layers = t.layers ∧ x.spans = t.spans ++ [⟨tcode.toNat, es⟩] ∧ es.length = t.layers ∧ (∀ e ∈ es, e.fill = 0) ∧
      (∀ y, y ≠ table.toNat → u.kvTable y = s.kvTable y) ∧ u = { s with free := u.free, dict := u.dict, pm := u.pm, kv := u.kv }) ∧
  (∀ (s : State) (table : BitVec 16) (tcode : BitVec 3) (fmt : BitVec 4) (t : KvTable), s.clocked = true → s.kvOwner table.toNat = .ok t →
    kvSpanOk t tcode.toNat fmt.toNat = false → exec (.kvExtend table tcode fmt) s = .next { s with kv := { s.kv with answer := stKvtGeometry } }) ∧
  (∀ (s : State) (table : BitVec 16) (layer slot off : Nat) (row : KvRow) (t : KvTable) (pg : KvPage), s.clocked = true → s.kvOwner table.toNat = .ok t →
    t.overlay = none → t.locate layer t.length true = some (slot, off) → s.kvPage slot = some pg → s.refsOf pg.frame ≤ 1 → off < kvTokens pg.tcode →
    pg.fmt ≤ 5 → kvGeomOk 1 pg.hkv pg.d pg.dv = true → (pg.fmt = 3 → pg.d % 32 = 0 ∧ pg.dv % 32 = 0) →
    kvPageK pg.fmt (kvTokens pg.tcode) pg.hkv pg.d pg.dv = some pg.k →
    ∃ u x, exec (.kvWrite table layer [row]) s = .next u ∧ u.kv.answer = stOk ∧ u.kvTable table.toNat = some x ∧ x.length = t.length ∧
      x.version = t.version + 1 ∧ (∀ y, y ≠ table.toNat → u.kvTable y = s.kvTable y) ∧
      (∀ a, a < pg.frame * granule ∨ (pg.frame + 2 ^ pg.k) * granule ≤ a → u.hbm.read a = s.hbm.read a) ∧
      u = { s with free := u.free, hbm := u.hbm, kv := u.kv }) ∧
  (∀ (s : State) (table : BitVec 16) (n : Nat) (t : KvTable), s.clocked = true → s.kvOwner table.toNat = .ok t → t.length + n ≤ t.filled →
    exec (.kvAdvance table n) s = .next { s with kv := { s.kv with
      tables := s.kv.tables.put table.toNat { t with length := t.length + n, version := t.version + 1 }, answer := stOk } }) ∧
  (∀ (s : State) (table : BitVec 16) (n : Nat) (t : KvTable), s.clocked = true → s.kvOwner table.toNat = .ok t → t.filled < t.length + n →
    exec (.kvAdvance table n) s = .next { s with kv := { s.kv with answer := stLengthBounds } }) ∧
  (∀ (s : State) (table : BitVec 16) (p : Nat) (t : KvTable), s.clocked = true → s.kvOwner table.toNat = .ok t → p ≤ t.length →
    (∀ w ∈ s.kv.walks.vals, w.table = table.toNat → w.length ≤ p) → s.kvPendingOn table.toNat = false →
    ∃ u, exec (.kvTruncate table p) s = .next u ∧ u.kv.answer = stOk ∧
      u.kvTable table.toNat = some { t with length := p, version := t.version + 1, spans := clipSpans t.spans p } ∧
      (∀ y, y ≠ table.toNat → u.kvTable y = s.kvTable y) ∧ u = { s with pm := u.pm, kv := u.kv }) ∧
  (∀ (s : State) (table : BitVec 16) (p : Nat) (t : KvTable), s.clocked = true → s.kvOwner table.toNat = .ok t → p ≤ t.length →
    s.kvPendingOn table.toNat = true →
    ∃ u, exec (.kvTruncate table p) s = .next u ∧ u.kv.answer = stOk ∧ u.kvTable table.toNat = some { t with epoch := t.epoch + 1 } ∧
      u.kv.pending = s.kv.pending ++ [⟨table.toNat, .truncate p, t.epoch⟩] ∧ u.pm = s.pm ∧ u.hbm = s.hbm) ∧
  (∀ (s : State) (table : BitVec 16) (p : Nat) (t : KvTable), s.clocked = true → s.kvOwner table.toNat = .ok t → t.length < p →
    exec (.kvTruncate table p) s = .next { s with kv := { s.kv with answer := stLengthBounds } }) ∧
  (∀ (s : State) (table : BitVec 16) (t : KvTable), s.clocked = true → s.kvOwner table.toNat = .ok t → s.kvHeld table.toNat t.epoch = false →
    s.kvPendingOn table.toNat = false →
    ∃ u, exec (.kvDestroy table) s = .next u ∧ u.kv.answer = stOk ∧ u.kvTable table.toNat = none ∧
      (∀ y, y ≠ table.toNat → u.kvTable y = s.kvTable y) ∧ u = { s with pm := u.pm, kv := u.kv }) ∧
  (∀ (s : State) (table : BitVec 16) (t : KvTable), s.clocked = true → s.kvOwner table.toNat = .ok t → s.kvHeld table.toNat t.epoch = true →
    ∃ u, exec (.kvDestroy table) s = .next u ∧ u.kv.answer = stOk ∧ u.kvTable table.toNat = some { t with epoch := t.epoch + 1 } ∧
      u.kv.pending = s.kv.pending ++ [⟨table.toNat, .destroy, t.epoch⟩] ∧
      u = { s with free := u.free, trace := u.trace, dict := u.dict, kv := u.kv, fab := u.fab, obs := u.obs })

/-- KV tables: READ, FORK, REPLACE, SPEC_OPEN, COMMIT, ROLLBACK, and edits that wait for walks (08_attention_and_kv_pages.md, 05_graph_contract_and_queues.md). -/
def Obligations.KvSharingAndSpeculation : Prop :=
  (∀ (s s2 : State) (fn : Fn) (r : BitVec 128) (gen : BitVec 16) (t : KvTable), s.clocked = true → s.kv.reads.look fn.val = some (r, gen) →
    s.ctxLive fn.val gen = true → r.extractLsb' 8 8 = 0 → (r.extractLsb' 64 64).toNat % 64 = 0 →
    s.kvTable (r.extractLsb' 16 16).toNat = some t → s.kvPendingOn (r.extractLsb' 16 16).toNat = false →
    (t.ctx ≠ fn.val → exec (.kvtRead fn) s =
      .next (({ s with kv := { s.kv with reads := s.kv.reads.del fn.val } } : State).pathDone 1 fn.val stKvtNoTable none)) ∧
    (t.ctx = fn.val → (r.extractLsb' 32 32).toNat < (s.kvReadBytes (r.extractLsb' 16 16).toNat t).length → exec (.kvtRead fn) s =
      .next (({ s with kv := { s.kv with reads := s.kv.reads.del fn.val } } : State).pathDone 1 fn.val stLengthBounds none)) ∧
    (t.ctx = fn.val → (s.kvReadBytes (r.extractLsb' 16 16).toNat t).length ≤ (r.extractLsb' 32 32).toNat →
      s.cvaMapped fn.val (r.extractLsb' 64 64).toNat (s.kvReadBytes (r.extractLsb' 16 16).toNat t).length = true →
      ({ s with kv := { s.kv with reads := s.kv.reads.del fn.val } } : State).writeCvaN fn.val none (r.extractLsb' 64 64).toNat
        (s.kvReadBytes (r.extractLsb' 16 16).toNat t) = .ok s2 →
      exec (.kvtRead fn) s = .next (s2.pathDone 1 fn.val stOk none) ∧
      (s.kvReadBytes (r.extractLsb' 16 16).toNat t).length % 8 = 0 ∧ 64 ≤ (s.kvReadBytes (r.extractLsb' 16 16).toNat t).length)) ∧
  (∀ (s : State) (fn : Fn), s.kv.reads.look fn.val = none → exec (.kvtRead fn) s = .next s) ∧
  (∀ (s : State) (table : BitVec 16) (kind p : Nat) (t : KvTable), s.clocked = true → s.kvOwner table.toNat = .ok t → t.length < p →
    (s.kvCreate t.ctx kind t.layers t.hkv t.d t.dv).2.1 = stOk → table.toNat ≠ (s.kvCreate t.ctx kind t.layers t.hkv t.d t.dv).2.2 →
    exec (.kvFork table kind p) s = .next { s with kv := { s.kv with answer := stLengthBounds } }) ∧
  (∀ (s s1 : State) (table : BitVec 16) (kind p : Nat) (t u u1 : KvTable), s.clocked = true → s.kvOwner table.toNat = .ok t → p ≤ t.length →
    (s.kvCreate t.ctx kind t.layers t.hkv t.d t.dv).2.1 = stOk → table.toNat ≠ (s.kvCreate t.ctx kind t.layers t.hkv t.d t.dv).2.2 →
    s.kvAnySpec (spanSlots (clipSpans t.spans p)) = false → s.kvRefFull (spanSlots (clipSpans t.spans p)) = false →
    (s.kvCreate t.ctx kind t.layers t.hkv t.d t.dv).1.kvTable (s.kvCreate t.ctx kind t.layers t.hkv t.d t.dv).2.2 = some u →
    (s.kvCreate t.ctx kind t.layers t.hkv t.d t.dv).1.growBlock (s.kvCreate t.ctx kind t.layers t.hkv t.d t.dv).2.2 u
      ((clipSpans t.spans p).length * u.layers) = some (s1, u1) →
    ∃ v x, exec (.kvFork table kind p) s = .next v ∧ v.kv.answer = stOk ∧
      v.kvTable (s.kvCreate t.ctx kind t.layers t.hkv t.d t.dv).2.2 = some x ∧ x.ctx = t.ctx ∧ x.kind = kind ∧ x.layers = t.layers ∧ x.length = p ∧
      x.spans = clipSpans t.spans p ∧ x.overlay = none ∧ v.kvTable table.toNat = some t ∧
      v = { s with free := v.free, dict := v.dict, pm := v.pm, kv := v.kv }) ∧
  (∀ (s : State) (table : BitVec 16) (span : Nat) (spans : List (Nat × List Nat)) (wait : Bool) (t : KvTable), s.clocked = true →
    s.kvOwner table.toNat = .ok t → t.spans.length ≤ span →
    exec (.kvReplace table span spans wait) s = .next { s with kv := { s.kv with answer := stLengthBounds } }) ∧
  (∀ (s : State) (table : BitVec 16) (slot tcode fill : Nat) (t : KvTable) (p : KvPage), s.clocked = true → s.kvOwner table.toNat = .ok t →
    t.spans = [⟨tcode, [⟨slot, fill⟩]⟩] → t.layers = 1 → tcode ≤ 6 → s.kvPage slot = some p → p.spec = false → p.ctx = t.ctx → p.tcode = tcode →
    p.hkv = t.hkv → p.d = t.d → p.dv = t.dv → s.refsOf p.frame < 65535 →
    s.kvHeld table.toNat t.epoch = true ∨ s.kvPendingOn table.toNat = true →
    exec (.kvReplace table 0 [(tcode, [slot])] false) s = .next { s with kv := { s.kv with answer := stPageBusy } }) ∧
  (∀ (s : State) (table : BitVec 16) (slot old tcode fill size : Nat) (wait : Bool) (t : KvTable) (p : KvPage), s.clocked = true →
    s.kvOwner table.toNat = .ok t → t.spans = [⟨tcode, [⟨old, fill⟩]⟩] → t.layers = 1 → tcode ≤ 6 → s.kvPage slot = some p → p.spec = false →
    p.ctx = t.ctx → p.tcode = tcode → p.hkv = t.hkv → p.d = t.d → p.dv = t.dv → s.refsOf p.frame < 65535 → s.kv.blocks.look t.base = some size →
    1 ≤ size → s.kvPendingOn table.toNat = false →
    (s.kvHeld table.toNat t.epoch = false →
      ∃ u, exec (.kvReplace table 0 [(tcode, [slot])] wait) s = .next u ∧ u.kv.answer = stOk ∧
        u.kvTable table.toNat = some { t with version := t.version + 1, spans := [⟨tcode, [⟨slot, min (kvTokens tcode) fill⟩]⟩] } ∧
        (∀ y, y ≠ table.toNat → u.kvTable y = s.kvTable y) ∧ u = { s with pm := u.pm, kv := u.kv }) ∧
    (s.kvHeld table.toNat t.epoch = true → wait = true →
      ∃ u, exec (.kvReplace table 0 [(tcode, [slot])] wait) s = .next u ∧ u.kv.answer = stOk ∧
        u.kvTable table.toNat = some { t with epoch := t.epoch + 1 } ∧ u.refsOf p.frame = (if (s.frame p.frame).isSome then s.refsOf p.frame + 1 else 0) ∧
        u.kv.pending = s.kv.pending ++ [⟨table.toNat, .replace 0 [⟨tcode, [⟨slot, 0⟩]⟩], t.epoch⟩])) ∧
  (∀ (s : State) (table : BitVec 16) (n : Nat) (t : KvTable) (o : KvOverlay), s.clocked = true → s.kvOwner table.toNat = .ok t → t.overlay = some o →
    exec (.specOpen table n) s = .next { s with kv := { s.kv with answer := stSpecState } } ∧
    (o.count < n → exec (.commit table n) s = .next { s with kv := { s.kv with answer := stSpecState } }) ∧
    ∃ u, exec (.rollback table) s = .next u ∧ u.kv.answer = stOk ∧ u.kvTable table.toNat = some { t with overlay := none } ∧
      u.dictVal 0x630006 = min (dictMax 0x630006) (s.dictVal 0x630006 + 1) ∧ u.hbm = s.hbm ∧ u = { s with dict := u.dict, pm := u.pm, kv := u.kv }) ∧
  (∀ (s : State) (table : BitVec 16) (n : Nat) (t : KvTable), s.clocked = true → s.kvOwner table.toNat = .ok t → t.overlay = none →
    (n < 1 ∨ 9 < n → exec (.specOpen table n) s = .next { s with kv := { s.kv with answer := stLengthBounds } }) ∧
    exec (.commit table n) s = .next { s with kv := { s.kv with answer := stSpecState } } ∧
    exec (.rollback table) s = .next { s with kv := { s.kv with answer := stSpecState } } ∧
    ∃ u, exec (.specOpen table n) s = .next u ∧ u.hbm = s.hbm ∧ (u.kv.answer = stOk →
      ∃ o, u.kvTable table.toNat = some { t with overlay := some o } ∧ o.start = t.length ∧ o.count = n ∧ o.entries.length = 2 * t.layers ∧
        ∀ e ∈ o.entries, e.fill = 0)) ∧
  (∀ (s s1 s2 s3 : State) (table : BitVec 16) (n b f : Nat) (t : KvTable) (x : KvSpan) (e : KvEntry) (p : KvPage) (es es2 : List KvEntry),
    s.clocked = true → s.kvOwner table.toNat = .ok t → t.overlay = none → 1 ≤ n → n ≤ 9 → t.spans.getLast? = some x → x.entries.head? = some e →
    s.kvPage e.slot = some p → p.fmt = f → s.takeBlock (2 * t.layers) = some (s1, b) → s1.kvNewPages t 0 f true t.layers 0 [] = .ok (s2, es) →
    s2.kvNewPages t 0 f true t.layers 0 es = .ok (s3, es2) →
    ∃ u, exec (.specOpen table n) s = .next u ∧ u.kv.answer = stOk ∧ u.kvTable table.toNat = some { t with overlay := some ⟨t.length, n, b, es2⟩ } ∧
      es2.length = 2 * t.layers ∧ (∀ y, y ≠ table.toNat → u.kvTable y = s.kvTable y) ∧
      u = { s with free := u.free, pm := u.pm, kv := u.kv }) ∧
  (∀ (s : State) (table : BitVec 16) (c : Nat) (t : KvTable) (o : KvOverlay), s.clocked = true → s.kvOwner table.toNat = .ok t → t.overlay = some o →
    c ≤ o.count → o.start + c ≤ spanTokens t.spans →
    s.commitMixes t o c (((o.entries.head?).bind s.kvEntryFmt).getD 0) = false →
    (∀ i l, i < c → l < t.layers → ∃ e off main moff pg mp, t.entryAt l (o.start + i) true = some (e, off) ∧
      t.mainEntry l (o.start + i) = some (main, moff) ∧ s.kvPage e.slot = some pg ∧ s.kvPage main.slot = some mp ∧ s.refsOf mp.frame ≤ 1) →
    ∃ u x, exec (.commit table c) s = .next u ∧ u.kv.answer = stOk ∧ u.kvTable table.toNat = some x ∧ x.length = o.start + c ∧ x.overlay = none ∧
      x.version = t.version + 1 ∧ x.layers = t.layers ∧ x.spans.length = t.spans.length ∧
      (∀ y, y ≠ table.toNat → u.kvTable y = s.kvTable y) ∧
      u = { s with free := u.free, hbm := u.hbm, pm := u.pm, kv := u.kv, integ := u.integ }) ∧
  (∀ (s : State) (table : BitVec 16) (p : KvPending) (rest : List KvPending) (t : KvTable), s.clocked = true → s.kv.pending = p :: rest →
    p.table = table.toNat → s.kvTable table.toNat = some t →
    (s.kvHeld table.toNat p.epoch = true → exec (.editPendingExecute table) s = .next s) ∧
    (s.kvHeld table.toNat p.epoch = false → p.edit = .destroy → ∃ u, exec (.editPendingExecute table) s = .next u ∧ u.kvTable table.toNat = none ∧
      u.hbm = s.hbm ∧ u = { s with pm := u.pm, kv := u.kv }))

/-- Jobs: which one starts next and on which regions, which operators issue, and what a completion leaves (05_graph_contract_and_queues.md, 01_package_regions_and_figures.md). -/
def Obligations.JobsArePlacedAndComplete : Prop :=
  (∀ (s : State) (id : Nat) (j : Job), s.nextJob = some (id, j) → (id, j) ∈ s.jobs ∧ s.jobStartable j = true ∧
    ∀ e ∈ s.jobs, s.jobStartable e.2 = true → e.2.priority ≤ j.priority ∧
      (e.2.priority = j.priority → j.deadline ≠ 0 → e.2.deadline ≠ 0 → j.deadline ≤ e.2.deadline) ∧
      (e.2.priority = j.priority → j.deadline = 0 → 2 ^ 64 ≤ e.2.deadline ∨ (e.2.deadline = 0 ∧ j.bell ≤ e.2.bell))) ∧
  (∀ (s : State) (dt : Nat), s.computeOpen = false ∨ (s.elapse dt).nextJob = none → exec (.jobPlace dt) s = .next (s.elapse dt)) ∧
  (∀ (s : State) (dt id : Nat) (j : Job) (p : Program), s.computeOpen = true → (s.elapse dt).nextJob = some (id, j) → s.progs.look j.prog = some p →
    (s.elapse dt).freeRegions ≠ [] →
    ∃ t k, exec (.jobPlace dt) s = .next t ∧ t.jobs = s.jobs.put id k ∧ k.placed = true ∧ k.regions = (s.elapse dt).freeRegions.take (if p.maxRegions = 0 then 6 else p.maxRegions) ∧
      k.started = s.now + dt ∧ k.ctx = j.ctx ∧ k.bindings = j.bindings ∧
      (∀ r ∈ k.regions, (s.elapse dt).regionFree r = true ∧ (t.regions.valAt .reset r).holder = .job id ∧ (t.regions.valAt .reset r).sram = some j.ctx) ∧
      (∀ r, r ∉ k.regions → t.regions.valAt .reset r = s.regions.valAt .reset r) ∧
      t.hbm = s.hbm ∧ t.kv = s.kv ∧ t.pm = s.pm ∧ t.queues = s.queues ∧ t.ctxs = s.ctxs ∧ t.progs = s.progs ∧ t.serving = s.serving) ∧
  (∀ (j : Job) (p : Program) (i : Nat), (j.issue p).ops.length = j.ops.length ∧
    (j.ops[i]? = some .waiting → ((j.issue p).ops[i]? = some .issued ↔ opReady p.operators j.ops i = true)) ∧
    (j.ops[i]? ≠ some .waiting → (j.issue p).ops[i]? = j.ops[i]?)) ∧
  (∀ (s : State) (dt id op : Nat) (j : Job) (p : Program), s.jobs.look id = some j → s.progs.look j.prog = some p →
    (s.clocked = true → j.placed = true → j.fault = none → j.ops[op]? = some .computed → (s.elapse dt).issues j.regions = true →
      (s.elapse dt).jobStalled id = false →
      exec (.operatorComplete dt id op) s =
        .next { s.elapse dt with jobs := s.jobs.put id (({ j with ops := j.ops.set op .complete } : Job).issue p) }) ∧
    (j.ops[op]? ≠ some .computed → exec (.operatorComplete dt id op) s = .next (s.elapse dt))) ∧
  (∀ (s : State) (dt id : Nat) (j : Job) (p : Program) (e : QEntry), s.clocked = true → s.jobs.look id = some j → s.progs.look j.prog = some p →
    (s.queue j.ctx j.q).entries.find? (fun y => y.id == j.entry) = some e → s.jobStalled id = false → p.unloaded = false →
    j.fault.isSome = true ∨ (j.placed = true ∧ (∀ x ∈ j.ops, x = .complete) ∧ j.regions.all (s.elapse dt).granting = true) →
    ∃ t energy, exec (.jobComplete dt id) s = .next t ∧ t.jobs = s.jobs.del id ∧ t.nextId = s.nextId + 1 ∧
      (∀ r ∈ j.regions, (t.regions.valAt .reset r).holder ≠ .job id) ∧
      (∀ r, r ∉ j.regions → t.regions.valAt .reset r = s.regions.valAt .reset r) ∧
      t.progs = s.progs.put j.prog { p with users := p.users - 1 } ∧
      t.queues = ((s.elapse dt).completeEntry j.ctx j.q e.id j.answer.1 (BitVec.ofNat 32 j.answer.2) j.numFlags 0 energy
        (j.rerun p e s.nextId (s.queue j.ctx j.q).epoch)).queues ∧
      (s.mirrored j.ctx = false → t.hbm = s.hbm ∧ t.pair = s.pair) ∧ t.kv = s.kv ∧ t.ctxs = s.ctxs ∧ t.serving = s.serving) ∧
  (∀ (s : State) (dt id : Nat) (j : Job), s.jobs.look id = some j → j.fault = none → (∃ x ∈ j.ops, x ≠ .complete) →
    exec (.jobComplete dt id) s = .next (s.elapse dt)) ∧
  (∀ (e : QEntry) (tide : Nat), ((e.flags tide).getLsbD 7 = true ↔
      entType e.raw = 0x02 ∧ entField e.raw 448 64 ≠ 0 ∧ entField e.raw 448 64 < tide) ∧
    (e.flags tide).getLsbD 5 = e.rerun ∧ ∀ i, i ≠ 7 → i ≠ 5 → (e.flags tide).getLsbD i = false)

/-- Models and adapters: bind, unbind, new generations and their end (09_serving_engine.md). -/
def Obligations.ServedModelsAndAdapters : Prop :=
  (∀ (s : State) (fn : Fn) (q : Qn) (e : QEntry), s.unitsRun = true → s.nextEntry fn.val q.val 0x10 = some e →
    ((s.model fn.val (entField e.raw 224 2)).isSome = true → exec (.modelBind fn q) s = .next (s.runEntry fn.val q.val e stModelBusy 0)) ∧
    (∀ s1, s.modelBind fn.val (entField e.raw 224 2) (entField e.raw 448 64) = (s1, stOk) →
      exec (.modelBind fn q) s = .next (s1.runEntry fn.val q.val e stOk 0) ∧
      ∃ m p, s1.model fn.val (entField e.raw 224 2) = some m ∧ m.leaving = none ∧ 16 ≤ m.maxContext ∧ m.maxContext ≤ 1048576 ∧ 2 ≤ m.vocab ∧
        m.vocab ≤ 262144 ∧ 1 ≤ m.layers ∧ m.layers ≤ 512 ∧ s.progs.look m.prog = some p ∧ p.unloaded = false ∧
        s1 = { s with serving := { s.serving with models := s.serving.models.put (fn.val * 4 + entField e.raw 224 2) m }
                      progs := s.progs.put m.prog { p with users := p.users + 1 } })) ∧
  (∀ (s : State) (fn : Fn) (q : Qn) (e : QEntry), s.unitsRun = true → s.nextEntry fn.val q.val 0x11 = some e →
    (s.model fn.val (entField e.raw 224 2) = none → exec (.modelUnbind fn q) s = .next (s.runEntry fn.val q.val e stNoModel 0)) ∧
    (∀ m, s.model fn.val (entField e.raw 224 2) = some m →
      (m.leaving.isSome = true → exec (.modelUnbind fn q) s = .next (s.runEntry fn.val q.val e stNoModel 0)) ∧
      (m.leaving = none → ∃ t, exec (.modelUnbind fn q) s = .next t ∧
        t.model fn.val (entField e.raw 224 2) = some { m with leaving := some ⟨fn.val, q.val, e.id⟩ } ∧
        t.queues = (s.startEntry fn.val q.val e.id .running).queues ∧ t = { s with serving := t.serving, queues := t.queues }))) ∧
  (∀ (s : State) (c : Ctx) (slot : Fin 4) (m : Model) (e : EntryRef), s.clocked = true → s.model c.val slot.val = some m → m.leaving = some e →
    ((∃ r ∈ s.requestsOf c.val, reqModel r.2.desc = slot.val) → exec (.modelUnbindDone c slot) s = .next s) ∧
    ((∀ r ∈ s.requestsOf c.val, reqModel r.2.desc ≠ slot.val) → s.serving.steps.look c.val = none → ∃ t, exec (.modelUnbindDone c slot) s = .next t ∧
      t.model c.val slot.val = none ∧ t.queues = (s.completeEntry e.fn e.q e.id stOk 0).queues ∧ t.hbm = s.hbm ∧
      t = { s with serving := t.serving, queues := t.queues, progs := t.progs, pm := t.pm })) ∧
  (∀ (s s1 : State) (fn : Fn) (q : Qn) (e : QEntry) (st : Status), s.unitsRun = true → s.nextEntry fn.val q.val 0x15 = some e →
    s.adapterLoad fn.val (entField e.raw 224 8) (entField e.raw 448 64) = (s1, st) → st ≠ stOk →
    exec (.adapterLoad fn q) s = .next (s1.runEntry fn.val q.val e st 0) ∧ s1.serving.adapters = s.serving.adapters ∧
    s1.serving.requests = s.serving.requests ∧ s1.hbm = s.hbm) ∧
  (∀ (s s1 : State) (fn : Fn) (q : Qn) (e : QEntry), s.unitsRun = true → s.nextEntry fn.val q.val 0x15 = some e →
    s.adapterLoad fn.val (entField e.raw 224 8) (entField e.raw 448 64) = (s1, stOk) →
    ∃ i a, s1.currentAdapter fn.val (entField e.raw 224 8) = some (i, a) ∧ s.serving.adapters.look i = none ∧ a.waiters = [] ∧
      a.gen = (if s.serving.adapterLast.valAt 0 (fn.val * 256 + entField e.raw 224 8) = 65535 then 1
        else s.serving.adapterLast.valAt 0 (fn.val * 256 + entField e.raw 224 8) + 1) ∧
      (∀ x ∈ s1.serving.adapters, x.2.ctx = fn.val → x.2.handle = entField e.raw 224 8 → x.2.current = true → x = (i, a)) ∧
      (e.raw.getLsbD 232 = false → ∃ t, exec (.adapterLoad fn q) s = .next t ∧ t.serving = s1.serving ∧
        t.queues = (s.runEntry fn.val q.val e stOk 0).queues)) ∧
  (∀ (s : State) (fn : Fn) (q : Qn) (e : QEntry), s.unitsRun = true → s.nextEntry fn.val q.val 0x16 = some e →
    (s.currentAdapter fn.val (entField e.raw 224 8) = none → exec (.adapterRetire fn q) s = .next (s.runEntry fn.val q.val e stNoAdapter 0)) ∧
    (∀ i a, s.currentAdapter fn.val (entField e.raw 224 8) = some (i, a) → e.raw.getLsbD 232 = false → ∃ t, exec (.adapterRetire fn q) s = .next t ∧
      t.serving = { s.serving with adapters := s.serving.adapters.put i { a with current := false } } ∧
      t.queues = (s.runEntry fn.val q.val e stOk 0).queues ∧ t.hbm = s.hbm)) ∧
  (∀ (s : State) (gen : Fin 256) (a : AdapterGen), s.serving.adapters.look gen.val = some a →
    (a.current = true ∨ s.pinned a ≠ [] → exec (.adapterForceDone gen) s = .next s ∧ exec (.adapterGenFree gen) s = .next s) ∧
    (s.clocked = true → a.current = false → s.pinned a = [] →
      (a.waiters ≠ [] → ∃ t, exec (.adapterForceDone gen) s = .next t ∧ t.serving.adapters = s.serving.adapters.del gen.val ∧
        t.queues = (s.completeRefs a.waiters stOk).queues ∧ t.hbm = s.hbm) ∧
      (a.waiters = [] → ∃ t, exec (.adapterGenFree gen) s = .next t ∧ t.serving.adapters = s.serving.adapters.del gen.val ∧ t.queues = s.queues ∧
        t.hbm = s.hbm)))

/-- Requests and streams: SUBMIT, CANCEL, REQ_READ, streams, delivery, deadlines, and the end of a request (09_serving_engine.md, 05_graph_contract_and_queues.md). -/
def Obligations.RequestsAndStreams : Prop :=
  (∀ (s : State) (fn : Fn) (q : Qn) (e : QEntry), s.unitsRun = true → s.nextEntry fn.val q.val 0x13 = some e →
    (∀ st, s.workRefusal fn.val = some st → exec (.submit fn q) s = .next (s.runEntry fn.val q.val e st 0)) ∧
    (∀ s1 st, s.workRefusal fn.val = none → s.submitRequest fn.val (entField e.raw 448 64) = (s1, st) →
      exec (.submit fn q) s = .next (s1.runEntry fn.val q.val e st 0) ∧
      (st ≠ stOk → s1.serving.requests = s.serving.requests ∧ s1.queues = s.queues ∧ s1.hbm = s.hbm) ∧
      (st = stOk → ∃ i r, s.serving.requests.look i = none ∧ i < 8192 ∧ s1.request i = some r ∧ r.ctx = fn.val ∧ r.state = .waiting ∧ r.delivered = 0 ∧
        r.out = [] ∧ r.admitTide = s.tideNat ∧ r.inFlight = false ∧ ∀ x ∈ s.requestsOf fn.val, reqTag x.2.desc ≠ reqTag r.desc))) ∧
  (∀ (s : State) (fn : Fn) (q : Qn) (e : QEntry), s.unitsRun = true → s.nextEntry fn.val q.val 0x14 = some e →
    (s.requestByTag fn.val (entField e.raw 480 32) = none → exec (.cancel fn q) s = .next (s.runEntry fn.val q.val e stReqStale 0)) ∧
    (∀ i r, s.requestByTag fn.val (entField e.raw 480 32) = some (i, r) → s.request i = some r → r.cancelPending = false → r.state ≠ .ending →
      ∃ t r', exec (.cancel fn q) s = .next t ∧ t.request i = some r' ∧ r'.cancels = r.cancels ++ [⟨fn.val, q.val, e.id⟩] ∧ r'.endReason = 4 ∧
        r'.status = stOk ∧ r'.endDue = true ∧ r'.delivered = r.delivered ∧
        (r.inFlight = false → r'.state = .ending) ∧ (r.inFlight = true → r'.state = .draining ∧ r'.cancelPending = true) ∧
        t.queues = (s.startEntry fn.val q.val e.id .running).queues ∧ t.hbm = s.hbm ∧ t.kv = s.kv)) ∧
  (∀ (s s2 : State) (fn : Fn) (q : Qn) (e : QEntry), s.unitsRun = true → s.nextEntry fn.val q.val 0x19 = some e →
    (s.requestByTag fn.val (entField e.raw 192 32) = none → exec (.reqRead fn q) s = .next (s.runEntry fn.val q.val e stReqStale 0)) ∧
    (∀ i r0 r, s.requestByTag fn.val (entField e.raw 192 32) = some (i, r0) → (s.refreshWaits fn.val).request i = some r →
      entField e.raw 448 64 + 128 ≤ 2 ^ 38 → s.cvaMapped fn.val (entField e.raw 448 64) 128 = true →
      (s.refreshWaits fn.val).draw.writeCvaN fn.val none (entField e.raw 448 64) (leBytes 128 ((s.refreshWaits fn.val).requestWord r)) = .ok s2 →
      exec (.reqRead fn q) s = .next (s2.runEntry fn.val q.val e stOk 0))) ∧
  (∀ (s : State) (fn : Fn) (q : Qn) (e : QEntry), s.unitsRun = true → s.nextEntry fn.val q.val 0x17 = some e →
    (entField e.raw 232 5 < 4 ∨ 16 < entField e.raw 232 5 ∨ (entField e.raw 240 5 ≠ 0 ∧ entField e.raw 240 5 < 8) →
      exec (.streamOpen fn q) s = .next (s.runEntry fn.val q.val e stBadEntry 0)) ∧
    (4 ≤ entField e.raw 232 5 → entField e.raw 232 5 ≤ 16 → entField e.raw 240 5 = 0 ∨ 8 ≤ entField e.raw 240 5 →
      ((s.stream fn.val (entField e.raw 224 8)).isSome = true → exec (.streamOpen fn q) s = .next (s.runEntry fn.val q.val e stStreamBusy 0)) ∧
      (s.stream fn.val (entField e.raw 224 8) = none → ∃ t, exec (.streamOpen fn q) s = .next t ∧
        t.stream fn.val (entField e.raw 224 8) = some ⟨entField e.raw 448 64, entField e.raw 232 5, entField e.raw 240 5, 0, 0, true, true, none⟩ ∧
        t.queues = (s.runEntry fn.val q.val e stOk 0).queues ∧ t = { s with serving := t.serving, queues := t.queues }))) ∧
  (∀ (s : State) (fn : Fn) (q : Qn) (e : QEntry), s.unitsRun = true → s.nextEntry fn.val q.val 0x18 = some e →
    (s.stream fn.val (entField e.raw 224 8) = none → exec (.streamClose fn q) s = .next (s.runEntry fn.val q.val e stNoStream 0)) ∧
    (∀ x, s.stream fn.val (entField e.raw 224 8) = some x → x.closing = none → ∃ t, exec (.streamClose fn q) s = .next t ∧
      t.stream fn.val (entField e.raw 224 8) = some { x with closing := some ⟨fn.val, q.val, e.id⟩ } ∧ t = { s with serving := t.serving, queues := t.queues })) ∧
  (∀ (s : State) (c : Ctx) (n : StreamNo) (x : Stream) (e : EntryRef), s.clocked = true → s.stream c.val n.val = some x → x.closing = some e →
    ((∃ r ∈ s.requestsOf c.val, reqStream r.2.desc = n.val) → exec (.streamCloseDone c n) s = .next s) ∧
    ((∀ r ∈ s.requestsOf c.val, reqStream r.2.desc ≠ n.val) → ∃ t, exec (.streamCloseDone c n) s = .next t ∧ t.stream c.val n.val = none ∧
      t.queues = (s.completeEntry e.fn e.q e.id stOk 0).queues ∧ t = { s with serving := t.serving, queues := t.queues })) ∧
  (∀ (s s1 : State) (c : Ctx) (n : StreamNo) (x : Stream) (i : Nat) (r : Request) (tok : BitVec 32) (rest : List (BitVec 32)), s.unitsRun = true →
    s.mayServe c.val = true → s.stream c.val n.val = some x → ((s.streamDue c.val n.val).filter fun e => s.mirrorCovers e.1) = [(i, r)] →
    (2 ^ x.order - 1 ≤ x.used → exec (.streamRecordWrite c n) s = .next s) ∧
    (x.used < 2 ^ x.order - 1 → r.drawn = tok :: rest → s.cvaMapped c.val (x.ring + x.tail * 32) 32 = true →
      (s.noteIdle c.val).draw.writeCvaN c.val none (x.ring + x.tail * 32)
        (leBytes 32 (streamRecord s.tideNat r tok.toNat r.delivered 0 0 false + (if x.phase = true then 1 else 0))) = .ok s1 →
      ∃ t r' y, exec (.streamRecordWrite c n) s = .next t ∧ t.hbm = s1.hbm ∧ t.request i = some r' ∧ r'.delivered = r.delivered + 1 ∧
        r'.out = r.out ++ [tok] ∧ t.stream c.val n.val = some y ∧ y.tail = (x.tail + 1) % 2 ^ x.order ∧
        y.phase = (if (x.tail + 1) % 2 ^ x.order = 0 then !x.phase else x.phase) ∧ y.head = x.head ∧
        (reqMaxNew r.desc ≤ r.delivered + 1 → (∀ k, k < reqStopCount r.desc → reqStop r.desc k ≠ tok.toNat) → r.inFlight = false →
          r'.state = .ending ∧ r'.endReason = 2 ∧ r'.status = stOk ∧ r'.endDue = true))) ∧
  (∀ (s : State) (fn : Fn) (n : StreamNo) (v : BitVec 16) (x : Stream), s.serves fn.val = true → (s.ctx fn.val).tdi ≠ .locked →
    s.stream fn.val n.val = some x →
    (2 ^ x.order ≤ v.toNat → exec (.streamHead fn n v) s = .next s) ∧
    (v.toNat < 2 ^ x.order → ∃ t, exec (.streamHead fn n v) s = .next t ∧ t.stream fn.val n.val = some { x with head := v.toNat, armed := true } ∧
      t = { s with serving := t.serving, free := t.free, trace := t.trace, dict := t.dict, fab := t.fab, obs := t.obs })) ∧
  (∀ (s : State) (i : Fin 8192) (r : Request), s.clocked = true → s.request i.val = some r →
    (r.state ≠ .ending ∨ r.endDue = true ∨ r.drawn ≠ [] ∨ r.inFlight = true → exec (.requestFree i) s = .next s) ∧
    (r.state = .ending → r.endDue = false → r.drawn = [] → r.inFlight = false → ∃ t, exec (.requestFree i) s = .next t ∧ t.request i.val = none ∧
      t.kvTable r.table = none ∧ t.hbm = s.hbm ∧ t.queues = s.queues ∧ t.serving = { s.serving with requests := s.serving.requests.del i.val })) ∧
  (∀ (s : State) (dt : Nat) (i : Fin 8192) (r : Request), s.clocked = true → s.request i.val = some r →
    (reqDeadline r.desc ≠ 0 → reqDeadline r.desc < (s.elapse dt).tideNat → r.state ≠ .ending → r.deadlineMissed = false →
      exec (.requestDeadlineMissed dt i) s = .next (((s.elapse dt).setRequest i.val { r with deadlineMissed := true }).bump 0x640003)) ∧
    (reqDeadline r.desc = 0 ∨ (s.elapse dt).tideNat ≤ reqDeadline r.desc ∨ r.deadlineMissed = true →
      exec (.requestDeadlineMissed dt i) s = .next (s.elapse dt)) ∧
    (∀ t0, r.noMemSince = some t0 → r.inFlight = false → r.state = .waiting ∨ r.state = .prefill ∨ r.state = .decode →
      (s.now + dt < t0 + 100000000 → exec (.noMemoryTimeout dt i) s = .next (s.elapse dt)) ∧
      (t0 + 100000000 ≤ s.now + dt → ∃ t r', exec (.noMemoryTimeout dt i) s = .next t ∧ t.request i.val = some r' ∧ r'.state = .ending ∧
        r'.status = stNoMemory ∧ r'.endReason = 5 ∧ r'.endDue = true ∧ t.kv = s.kv ∧ t.hbm = s.hbm))) ∧
  (∀ (s : State) (c : Ctx), s.ctxRunning c.val = true → s.computeOpen = true → ∃ t, exec (.servingRegionsTake c) s = .next t ∧
    (∀ r, r < 6 → (s.regions.valAt .reset r).holder ≠ .free → t.regions.valAt .reset r = s.regions.valAt .reset r) ∧
    (t.servingRegions c.val).length ≤ max (s.servingWant c.val) (s.servingRegions c.val).length ∧
    (s.freeRegions ≠ [] → (s.servingRegions c.val).length < s.servingWant c.val → (s.servingRegions c.val).length < (t.servingRegions c.val).length) ∧
    t = { s with free := t.free, regions := t.regions, serving := { s.serving with idleSince := t.serving.idleSince } }) ∧
  (∀ (s : State) (dt : Nat) (c : Ctx), s.clocked = true → s.serving.steps.look c.val = none →
    (s.ctxRunning c.val = false ∨ (s.anyStartable c.val = false ∧ (s.elapse dt).anyStartable c.val = false ∧ s.serving.idleSince.valAt 0 c.val + 1000000 ≤ s.now + dt) →
      ∃ t, exec (.servingRegionsReturn dt c) s = .next t ∧ t.servingRegions c.val = [] ∧ t = { s.elapse dt with regions := t.regions }))

/-- Serving steps: one per context at a time, their members, their completion and fault, and the sampler (09_serving_engine.md, 08_attention_and_kv_pages.md). -/
def Obligations.ServingSteps : Prop :=
  (∀ (s : State) (dt : Nat) (c : Ctx) (st : ServingStep), s.serving.steps.look c.val = some st →
    ∀ i ∈ [Instr.decodeStepIssue dt c, .prefillRowIssue dt c, .specStepIssue dt c],
      ∃ t, exec i s = .next t ∧ t.serving.steps = s.serving.steps ∧ t.kv = s.kv ∧ t.hbm = s.hbm ∧ t.regions = s.regions) ∧
  (∀ (s : State) (dt : Nat) (c : Ctx), s.serving.steps.look c.val = none →
    ∀ x ∈ [(Instr.decodeStepIssue dt c, [StepKind.decode]), (.prefillRowIssue dt c, [.prefill]), (.specStepIssue dt c, [.spec, .decode])],
      ∃ t, exec x.1 s = .next t ∧ (∀ st, t.serving.steps.look c.val = some st →
        st.kind ∈ x.2 ∧ 0 < st.members.length ∧ st.members.length ≤ 256 ∧ s.ctxRunning c.val = true ∧ s.computeOpen = true ∧
        st.regions = s.stepRegions c.val ∧ st.regions ≠ [] ∧ (x.2 = [.decode] → ∀ m ∈ st.members, m.charged = 1 ∧ m.tokens.length ≤ 1) ∧
        (st.kind = .decode → ∀ m ∈ st.members, m.drafts = [] ∧ m.tokens.length ≤ 1) ∧
        (st.kind = .prefill → ∀ m ∈ st.members, m.tokens.length ≤ s.dictVal 0x310002 ∧ m.charged ≤ s.dictVal 0x310002)) ∧
        (∀ y, y ≠ c.val → t.serving.steps.look y = s.serving.steps.look y)) ∧
  (∀ (s u v : State) (dt i : Nat) (c : Ctx) (r : Request) (rest : List (Nat × Request)) (m : Model) (kv : KvTable) (cu : Customer),
    u = ((s.elapse dt).noteIdle c.val).refreshWaits c.val → u.mayStep c.val = true → u.request i = some r →
    u.model c.val (reqModel r.desc) = some m → (u.kvTable r.table).isSome = true → v.kvTable r.table = some kv →
    v.customer r.ctx (reqCustomer r.desc) = some cu → (v.walkFormats m r.table).1 = true →
    ((u.keyOrder c.val).filter (fun e => e.2.state = .decode) = (i, r) :: rest →
      (∀ e ∈ u.keyOrder c.val, e.2.state = .decode) ∨ u.serving.sincePrefill.valAt 0 c.val < u.dictVal 0x310003 →
      ((∀ e ∈ u.keyOrder c.val, u.draftCount e.2 = 0) → 1 ≤ m.sMax →
        u.evictingEdit r.ctx (fun x => x.kvCover r.table m.kvTcode m.kvFmt (x.reqLength r + 1) 65537) = (v, stOk) →
        ∃ t st b, exec (.decodeStepIssue dt c) s = .next t ∧ t.serving.steps.look c.val = some st ∧ st.kind = .decode ∧ st.model = reqModel r.desc ∧
          b ∈ st.members ∧ b.req = i ∧ b.start = kv.length ∧ b.tokens = (r.sequence.drop kv.length).take 1 ∧ b.drafts = [] ∧ b.charged = 1) ∧
      (reqSpecSource r.desc = 2 → 0 < u.draftCount r → u.draftCount r + 1 ≤ m.sMax →
        u.evictingEdit r.ctx (fun x => x.kvSpecOpen r.table (u.draftCount r + 1)) = (v, stOk) →
        ∃ t st b, exec (.specStepIssue dt c) s = .next t ∧ t.serving.steps.look c.val = some st ∧ st.kind = .spec ∧ st.model = reqModel r.desc ∧
          b ∈ st.members ∧ b.req = i ∧ b.start = kv.length ∧ b.drafts = (u.prefixDrafts r).take (u.draftCount r) ∧
          b.tokens = ((r.sequence ++ b.drafts).drop kv.length).take (u.draftCount r + 1) ∧ b.charged = u.draftCount r + 1)) ∧
    (∀ n, (u.keyOrder c.val).filter (fun e => e.2.state != .decode) = (i, r) :: rest →
      (∀ e ∈ u.keyOrder c.val, e.2.state ≠ .decode) ∨ u.dictVal 0x310003 ≤ u.serving.sincePrefill.valAt 0 c.val →
      n = min (min (r.sequence.length - u.reqLength r) (u.dictVal 0x310002)) (min 16384 m.sMax) → 1 ≤ n →
      u.evictingEdit r.ctx (fun x => x.kvCover r.table m.kvTcode m.kvFmt (x.reqLength r + n) 65537) = (v, stOk) →
      ∃ t st b, exec (.prefillRowIssue dt c) s = .next t ∧ t.serving.steps.look c.val = some st ∧ st.kind = .prefill ∧ st.model = reqModel r.desc ∧
        b ∈ st.members ∧ b.req = i ∧ b.start = kv.length ∧ b.tokens = (r.sequence.drop kv.length).take n ∧ b.drafts = [] ∧
        b.charged = (if r.resumed = true then 0 else n))) ∧
  (∀ (s : State) (dt : Nat) (c : Ctx), s.serving.steps.look c.val = none → exec (.servingStepComplete dt c) s = .next (s.elapse dt) ∧
    exec (.servingStepFault dt c) s = .next (s.elapse dt)) ∧
  (∀ (s : State) (dt : Nat) (c : Ctx) (st : ServingStep), s.clocked = true → s.serving.steps.look c.val = some st →
    (s.elapse dt).issues st.regions = true → ∃ t, exec (.servingStepComplete dt c) s = .next t ∧ t.serving.steps.look c.val = none ∧
      (∀ y, y ≠ c.val → t.serving.steps.look y = s.serving.steps.look y) ∧ t.queues = s.queues ∧ t.jobs = s.jobs ∧
      (∀ r, { t.regions.valAt .reset r with division := none } = { s.regions.valAt .reset r with division := none })) ∧
  (∀ (s : State) (dt : Nat) (c : Ctx) (st : ServingStep) (m : StepMember) (r : Request), s.clocked = true → s.serving.steps.look c.val = some st →
    st.members = [m] → s.request m.req = some r → ∃ t r', exec (.servingStepFault dt c) s = .next t ∧ t.serving.steps.look c.val = none ∧
      t.request m.req = some r' ∧ r'.inFlight = false ∧ r'.delivered = r.delivered ∧ r'.out = r.out ∧
      (r.cancelPending = true → r'.state = .ending ∧ r'.drawn = []) ∧
      (r.cancelPending = false → r.restarts < 2 → r'.state = .waiting ∧ r'.resumed = true ∧ r'.restarts = r.restarts + 1) ∧
      (r.cancelPending = false → 2 ≤ r.restarts → r'.state = .ending ∧ r'.status = stJobFault ∧ r'.endReason = 5 ∧ r'.endDue = true)) ∧
  (∀ (s : State), s.serving.rows = [] → exec .samplerRow s = .next s) ∧
  (∀ (s : State) (x : LogitRows) (rest : List SamplerItem) (r : Request), s.clocked = true → s.serving.rows = .request x :: rest → s.request x.req = some r →
    x.drafts = [] → ∃ t, exec .samplerRow s = .next t ∧
      (∀ k, drawToken r.params (fun y => r.counts.valAt 0 y) (uniform (reqSeed r.desc) r.delivered 0) (((x.rows.head?).getD []).map decode32) = some k →
        t.request x.req = some { r with drawn := [BitVec.ofNat 32 k] } ∧ t.serving.rows = rest) ∧
      (drawToken r.params (fun y => r.counts.valAt 0 y) (uniform (reqSeed r.desc) r.delivered 0) (((x.rows.head?).getD []).map decode32) = none →
        r.inFlight = false → ∃ r', t.request x.req = some r' ∧ r'.state = .ending ∧ r'.status = stNoToken ∧ r'.endReason = 5) ∧
      t.kv = s.kv ∧ t.hbm = s.hbm ∧ t.queues = s.queues)

/-- CUSTOMER_SET starts a new customer at BURST, keeps an old one's level up to the new BURST, and changes the rate at once (R364). -/
def Obligations.CustomerSetKeepsTheLevel : Prop :=
  (∀ (s : State) (fn : Fn) (q : Qn) (e : QEntry), s.unitsRun = true → s.nextEntry fn.val q.val 0x12 = some e →
    (entField e.raw 448 32 = 0 → exec (.customerSet fn q) s = .next (s.runEntry fn.val q.val e stBadEntry 0)) ∧
    (entField e.raw 448 32 ≠ 0 → ∃ t, exec (.customerSet fn q) s = .next t ∧
      (s.customer fn.val (entField e.raw 224 10) = none → t.customer fn.val (entField e.raw 224 10) =
        some ⟨entField e.raw 480 32, entField e.raw 448 32, (entField e.raw 448 32 * 1024 : Nat), 0, s.tideNat⟩) ∧
      (∀ x, s.customer fn.val (entField e.raw 224 10) = some x → t.customer fn.val (entField e.raw 224 10) = some ⟨
        entField e.raw 480 32, entField e.raw 448 32,
        min (min (x.burst * 1024 : Int) (x.level + ((x.refill * 1024 * (s.tideNat - x.last) + x.carry) / 10 ^ 9 : Nat))) (entField e.raw 448 32 * 1024 : Nat),
        (x.refill * 1024 * (s.tideNat - x.last) + x.carry) % 10 ^ 9, s.tideNat⟩) ∧
      (∀ j, j < 1024 → j ≠ entField e.raw 224 10 → t.customer fn.val j = s.customer fn.val j) ∧
      t.queues = (s.runEntry fn.val q.val e stOk 0).queues ∧
      t = { s with queues := t.queues, serving := { s.serving with customers := t.serving.customers, idleSince := t.serving.idleSince } })) ∧
  (∀ (c : Customer) (a : Nat), c.refill = 0 → c.carry < 10 ^ 9 → c.level ≤ (c.burst * 1024 : Nat) → (c.refilled a).level = c.level) ∧
  (∀ (c : Customer) (a b : Nat), c.last ≤ a → a ≤ b → (c.refilled a).refilled b = c.refilled b ∧
    (c.refilled b).level ≤ ((c.burst * 1024 : Nat) : Int))

/-- Decode sessions: open, feed, pictures on the cores, output slots, events and close (10_video_engines.md). -/
def Obligations.VideoDecodeSessions : Prop :=
  (∀ (s : State) (fn : Fn) (q : Qn) (e : QEntry), s.unitsRun = true → s.nextEntry fn.val q.val 0x20 = some e →
    ((s.decSession fn.val (entField e.raw 224 7)).isSome = true → exec (.vdecOpen fn q) s = .next (s.runEntry fn.val q.val e stSessionBusy 0)) ∧
    (∀ s1 st, s.vdecOpen fn.val (entField e.raw 224 7) (entField e.raw 448 64) = (s1, st) →
      exec (.vdecOpen fn q) s = .next (s1.runEntry fn.val q.val e st 0) ∧ (st ≠ stOk → s1 = s) ∧
      (st = stOk → ∃ x, s1.decSession fn.val (entField e.raw 224 7) = some x ∧ dsOk x.desc = true ∧ x.queue = [] ∧ x.core = none ∧ x.closing = none ∧
        x.slots = List.replicate (dsCount x.desc) .free ∧ x.ring.due = [] ∧ x.outputs = 0 ∧ x.pictures = 0 ∧
        s1 = { s with free := s1.free, pm := s1.pm, video := { s.video with dec := s.video.dec.put (fn.val * 128 + entField e.raw 224 7) x } }))) ∧
  (∀ (s : State) (fn : Fn) (q : Qn) (e : QEntry), s.unitsRun = true → s.nextEntry fn.val q.val 0x21 = some e →
    (s.decSession fn.val (entField e.raw 224 7) = none → exec (.vdecFeed fn q) s = .next (s.runEntry fn.val q.val e stNoSession 0)) ∧
    (∀ x, s.decSession fn.val (entField e.raw 224 7) = some x → x.closing = none → x.feed = none →
      (dsInput x.desc < entField e.raw 416 32 → exec (.vdecFeed fn q) s = .next (s.runEntry fn.val q.val e stLengthBounds 0)) ∧
      (entField e.raw 416 32 ≤ dsInput x.desc → s.cvaMapped fn.val (entField e.raw 448 64) (entField e.raw 416 32) = true →
        ∃ t, exec (.vdecFeed fn q) s = .next t ∧ t.decSession fn.val (entField e.raw 224 7) = some { x with feed := some (e.raw, ⟨fn.val, q.val, e.id⟩) } ∧
          t.queues = (s.startEntry fn.val q.val e.id .running).queues ∧ t = { s with video := t.video, queues := t.queues }))) ∧
  (∀ (s : State) (c : Ctx) (n : DecNo) (x : DecSession) (raw : BitVec 512) (r : EntryRef) (bs : List Byte), s.clocked = true →
    s.decSession c.val n.val = some x → x.feed = some (raw, r) →
    (dsInput x.desc < x.queued + entField raw 416 32 → exec (.vdecFeedDone c n) s = .next s) ∧
    (x.queued + entField raw 416 32 ≤ dsInput x.desc → s.readCvaN c.val none (entField raw 448 64) (entField raw 416 32) = some bs → bs ≠ [] →
      (∀ p ∈ x.queue, p.bytes ≠ []) → x.discard = false → ∃ t, exec (.vdecFeedDone c n) s = .next t ∧ t.decSession c.val n.val = some { x with
        feed := none
        queue := x.queue ++ [⟨bs, entField raw 320 64, raw.getLsbD 240, raw.getLsbD 241⟩] ++ (if x.closing = none then [] else [⟨[], 0, true, false⟩]) } ∧
      t.queues = (s.completeEntry r.fn r.q r.id stOk 0).queues ∧ t = { s with video := t.video, queues := t.queues })) ∧
  (∀ (s : State) (fn : Fn) (q : Qn) (e : QEntry), s.unitsRun = true → s.nextEntry fn.val q.val 0x22 = some e →
    (s.decSession fn.val (entField e.raw 224 7) = none → exec (.vdecClose fn q) s = .next (s.runEntry fn.val q.val e stNoSession 0)) ∧
    (∀ x, s.decSession fn.val (entField e.raw 224 7) = some x → x.closing = none → ∃ t y, exec (.vdecClose fn q) s = .next t ∧
      t.decSession fn.val (entField e.raw 224 7) = some y ∧ y.closing = some ⟨fn.val, q.val, e.id⟩ ∧ y.feed = x.feed ∧ y.discard = e.raw.getLsbD 240 ∧
      y.queue = (if e.raw.getLsbD 240 = true then [] else if x.feed = none then x.queue ++ [⟨[], 0, true, false⟩] else x.queue) ∧ t = { s with video := t.video, queues := t.queues })) ∧
  (∀ (s : State) (c : Ctx) (n : DecNo) (x : DecSession) (r : EntryRef), s.clocked = true → s.decSession c.val n.val = some x → x.closing = some r →
    (x.core ≠ none ∨ x.ready ≠ [] ∨ x.feed ≠ none ∨ streamBytes x.queue ≠ 0 ∨ x.ring.due ≠ [] → exec (.vdecCloseDone c n) s = .next s) ∧
    (x.core = none → x.ready = [] → x.feed = none → streamBytes x.queue = 0 → x.ring.due = [] →
      (x.ring.tail + 2 ^ x.ring.order - x.ring.head) % 2 ^ x.ring.order < 2 ^ x.ring.order - 1 → ∃ t, exec (.vdecCloseDone c n) s = .next t ∧
      t.decSession c.val n.val = none ∧ t.queues = (s.completeEntry r.fn r.q r.id stOk 0).queues ∧
      (∀ m, m ≠ c.val * 128 + n.val → t.video.dec.look m = s.video.dec.look m))) ∧
  (∀ (s : State) (c : Ctx) (n : DecNo) (x : DecSession), s.clocked = true → s.decSession c.val n.val = some x →
    (x.ready = [] → exec (.decodeOutput c n) s = .next s) ∧
    (∀ r rest, x.ready = r :: rest → x.freeSlot = none → dsDrop x.desc = false → dsNoDamaged x.desc = false → exec (.decodeOutput c n) s = .next s) ∧
    (∀ r rest slot, x.ready = r :: rest → x.freeSlot = some slot → dsNoDamaged x.desc = false → ∃ t y, exec (.decodeOutput c n) s = .next t ∧
      t.decSession c.val n.val = some y ∧ y.ready = rest ∧ y.outputs = x.outputs + 1 ∧ y.pictures = x.pictures + 1 ∧ x.slots[slot]? = some .free ∧
      y.slots = x.slots.set slot .module ∧ y.lastSlot = slot ∧ y.size = ((r.planes (!dsTensor x.desc)).width, (r.planes (!dsTensor x.desc)).height)) ∧
    (∀ r rest, x.ready = r :: rest → dsNoDamaged x.desc = true → r.concealed = true ∨ r.derived = true → ∃ t y, exec (.decodeOutput c n) s = .next t ∧
      t.decSession c.val n.val = some y ∧ y.ready = rest ∧ y.outputs = x.outputs + 1 ∧ y.pictures = x.pictures ∧ y.slots = x.slots ∧ t.hbm = s.hbm)) ∧
  (∀ (s : State) (dt : Nat) (core : DecCore) (units : List DecUnit), s.computeOpen = true → s.agentIssues 8 = true →
    ((∃ x ∈ s.video.dec.vals, x.core = some core.val) ∨ (∀ e ∈ s.video.dec, e.2.startable (unitOf units e.1) = false) →
      exec (.decodePictureStart dt core units) s = .next (s.elapse dt)) ∧
    (∀ k x, (∀ y ∈ s.video.dec.vals, y.core ≠ some core.val) →
      pickSession s.video.turn 0 (fun y => dsPriority y.desc) (s.video.dec.filter fun e => e.2.startable (unitOf units e.1)) = some (k, x) →
      (k, x) ∈ s.video.dec ∧ x.startable (unitOf units k) = true ∧ (∀ e ∈ s.video.dec, e.2.startable (unitOf units e.1) = true → dsPriority e.2.desc ≤ dsPriority x.desc) ∧
      ∃ t y, exec (.decodePictureStart dt core units) s = .next t ∧ t.video.dec.look k = some y ∧ y.core = some core.val ∧ y.started = s.now + dt ∧
        y.queue = takeQueue (unitOf units k) x.queue ∧ y.slots = x.slots ∧ t.video.coreCtx.look core.val = some x.ctx ∧ t.hbm = s.hbm ∧ t.queues = s.queues)) ∧
  (∀ (s : State) (dt k : Nat) (core : DecCore) (o : DecodeOutcome) (x : DecSession), s.clocked = true →
    s.video.dec.find? (fun e => e.2.core == some core.val) = some (k, x) →
    (∃ t y, exec (.decodePictureDone dt core o) s = .next t ∧ t.video.dec.look k = some y ∧ y.core = none ∧ y.slots = x.slots ∧ y.outputs = x.outputs ∧
      (o.faults = [] → o.picture = none → y.ready = x.ready) ∧
      (∀ p, o.faults = [] → o.concealed = [] → o.picture = some p → beyondSession x.desc o.sequence = false →
        sequenceSupported (dsCodec x.desc) o.sequence = true → x.skipping = false → x.taint = false →
        p.shown = true → y.ready = insertReady ⟨p, o.sequence, x.pts, false, false, []⟩ x.ready) ∧
      (beyondSession x.desc o.sequence = true ∨ sequenceSupported (dsCodec x.desc) o.sequence = false → y.ready = x.ready ∧ y.skipping = true) ∧
      t = { s.elapse dt with video := t.video, dict := t.dict }) ∧
    (s.now + dt ≤ x.started + s.pictureBudget x → exec (.pictureTimeout dt core o) s = .next (s.elapse dt)) ∧
    (x.started + s.pictureBudget x < s.now + dt → ∃ t y, exec (.pictureTimeout dt core o) s = .next t ∧ t.video.dec.look k = some y ∧ y.core = none ∧
      y.lastStatus = stPictureTimeout ∧ t.dictVal 0x650004 = min (dictMax 0x650004) (s.dictVal 0x650004 + 1))) ∧
  (∀ (s : State) (fn : Fn) (n : DecNo) (v : BitVec 16) (w : BitVec 32) (x : DecSession), s.serves fn.val = true → (s.ctx fn.val).tdi ≠ .locked →
    s.decSession fn.val n.val = some x →
    (v.toNat < 2 ^ x.ring.order → ∃ t, exec (.eventHead fn (.dec n) v) s = .next t ∧
      t.decSession fn.val n.val = some { x with ring := { x.ring with head := v.toNat, armed := true } } ∧ t = { s with video := t.video }) ∧
    (∃ t y, exec (.outReturn fn n w) s = .next t ∧ t.decSession fn.val n.val = some y ∧ y.slots.length = x.slots.length ∧
      (∀ i, x.slots[i]? = some .host → w.getLsbD i = true → y.slots[i]? = some .free) ∧
      (∀ i, x.slots[i]? ≠ some .host ∨ w.getLsbD i = false → y.slots[i]? = x.slots[i]?) ∧ t = { s with video := t.video })) ∧
  (∀ (s : State) (c : Ctx) (n : DecNo) (x : DecSession), s.unitsRun = true → s.decSession c.val n.val = some x →
    (x.ring.due = [] → exec (.eventRecordWrite c (.dec n)) s = .next s) ∧
    (∀ e rest, x.ring.due = e :: rest → (x.ring.tail + 2 ^ x.ring.order - x.ring.head) % 2 ^ x.ring.order < 2 ^ x.ring.order - 1 →
      ∃ t y, exec (.eventRecordWrite c (.dec n)) s = .next t ∧ t.decSession c.val n.val = some y ∧ y.ring.due = rest ∧
        y.ring.tail = (x.ring.tail + 1) % 2 ^ x.ring.order ∧ y.ring.head = x.ring.head ∧ (∀ i, e.slot = some i → y.slots = x.slots.set i .host) ∧
        t.hbm = (s.storeCva c.val (x.ring.cva + x.ring.tail * 32) (leBytes 32 (eventRecord s.tideNat e x.ring.phase))).hbm))

/-- Encode sessions: open, frames, rate changes, pictures, slices under the rate model, reference marks and close (10_video_engines.md). -/
def Obligations.VideoEncodeSessions : Prop :=
  (∀ (s : State) (fn : Fn) (q : Qn) (e : QEntry), s.unitsRun = true → s.nextEntry fn.val q.val 0x23 = some e →
    ((s.encSession fn.val (entField e.raw 224 5)).isSome = true → exec (.vencOpen fn q) s = .next (s.runEntry fn.val q.val e stSessionBusy 0)) ∧
    (∀ s1 st, s.vencOpen fn.val (entField e.raw 224 5) (entField e.raw 448 64) = (s1, st) →
      exec (.vencOpen fn q) s = .next (s1.runEntry fn.val q.val e st 0) ∧ (st ≠ stOk → s1 = s) ∧
      (st = stOk → ∃ x, s1.encSession fn.val (entField e.raw 224 5) = some x ∧ esOk x.desc = true ∧ hrdBad x.desc x.rate = false ∧ x.frames = [] ∧
        x.current = none ∧ x.core = none ∧ x.number = 0 ∧ x.sinceIdr = none ∧
        s1 = { s with free := s1.free, pm := s1.pm, video := { s.video with enc := s.video.enc.put (fn.val * 32 + entField e.raw 224 5) x } }))) ∧
  (∀ (s : State) (fn : Fn) (q : Qn) (e : QEntry), s.unitsRun = true → s.nextEntry fn.val q.val 0x24 = some e →
    (s.encSession fn.val (entField e.raw 224 5) = none → exec (.vencFrame fn q) s = .next (s.runEntry fn.val q.val e stNoSession 0)) ∧
    (∀ x, s.encSession fn.val (entField e.raw 224 5) = some x → x.closing = none →
      (entField e.raw 240 16 = 0 ∨ 1024 < entField e.raw 240 16 ∨ 8 < entField e.raw 236 4 →
        exec (.vencFrame fn q) s = .next (s.runEntry fn.val q.val e stBadEntry 0)) ∧
      (0 < entField e.raw 240 16 → entField e.raw 240 16 ≤ 1024 → entField e.raw 236 4 ≤ 8 →
        s.readCvaN fn.val none (entField e.raw 448 64) (entField e.raw 240 16 * 64 * esHeight x.desc) = none →
        ∃ f, f.status = stSourceFault ∧ f.source = [] ∧ f.pts = entField e.raw 320 64 ∧ exec (.vencFrame fn q) s =
          .next (((s.setEnc fn.val (entField e.raw 224 5) { x with frames := x.frames ++ [f] }).bump 0x65000A).runEntry fn.val q.val e stSourceFault 0)) ∧
      (∀ a b, 0 < entField e.raw 240 16 → entField e.raw 240 16 ≤ 1024 → entField e.raw 236 4 = 0 →
        esWidth x.desc * esBytes x.desc ≤ entField e.raw 240 16 * 64 →
        s.readCvaN fn.val none (entField e.raw 448 64) (entField e.raw 240 16 * 64 * esHeight x.desc) = some a →
        s.readCvaN fn.val none (entField e.raw 384 64) (entField e.raw 240 16 * 64 * (esHeight x.desc / 2)) = some b →
        ∃ f, f.status = stOk ∧
          f.source = cropRows (entField e.raw 240 16 * 64) (esWidth x.desc * esBytes x.desc) (esHeight x.desc) a ++
            cropRows (entField e.raw 240 16 * 64) (esWidth x.desc * esBytes x.desc) (esHeight x.desc / 2) b ∧
          f.pyramid = pyramidOf x.desc f.source ∧ f.pts = entField e.raw 320 64 ∧ f.forceIdr = e.raw.getLsbD 232 ∧ exec (.vencFrame fn q) s =
          .next ((s.setEnc fn.val (entField e.raw 224 5) { x with frames := x.frames ++ [f] }).runEntry fn.val q.val e stOk 0)))) ∧
  (∀ (s : State) (fn : Fn) (q : Qn) (e : QEntry), s.unitsRun = true → s.nextEntry fn.val q.val 0x25 = some e →
    (s.encSession fn.val (entField e.raw 224 5) = none → exec (.vencClose fn q) s = .next (s.runEntry fn.val q.val e stNoSession 0)) ∧
    (∀ x, s.encSession fn.val (entField e.raw 224 5) = some x → x.closing = none → exec (.vencClose fn q) s =
      .next ((s.startEntry fn.val q.val e.id .running).setEnc fn.val (entField e.raw 224 5) { x with closing := some ⟨fn.val, q.val, e.id⟩ }))) ∧
  (∀ (s : State) (c : Ctx) (n : EncNo) (x : EncSession) (r : EntryRef), s.clocked = true → s.encSession c.val n.val = some x → x.closing = some r →
    (x.current ≠ none ∨ x.frames ≠ [] ∨ x.ring.due ≠ [] → exec (.vencCloseDone c n) s = .next s) ∧
    (x.current = none → x.frames = [] → x.ring.due = [] →
      (x.ring.tail + 2 ^ x.ring.order - x.ring.head) % 2 ^ x.ring.order < 2 ^ x.ring.order - 1 → ∃ t, exec (.vencCloseDone c n) s = .next t ∧
      t.encSession c.val n.val = none ∧ t.queues = (s.completeEntry r.fn r.q r.id stOk 0).queues)) ∧
  (∀ (s : State) (fn : Fn) (q : Qn) (e : QEntry), s.unitsRun = true → s.nextEntry fn.val q.val 0x26 = some e →
    (s.encSession fn.val (entField e.raw 224 5) = none → exec (.vencRate fn q) s = .next (s.runEntry fn.val q.val e stNoSession 0)) ∧
    (∀ x, s.encSession fn.val (entField e.raw 224 5) = some x → x.closing = none →
      (esRcMode x.desc = 0 → exec (.vencRate fn q) s = .next (s.runEntry fn.val q.val e stOk 0)) ∧
      (esRcMode x.desc = 1 → hrdBad x.desc (hrdRate (entField e.raw 480 32)) = true → exec (.vencRate fn q) s = .next (s.runEntry fn.val q.val e stHrdInfeasible 0)) ∧
      (esRcMode x.desc = 1 → hrdBad x.desc (hrdRate (entField e.raw 480 32)) = false → exec (.vencRate fn q) s =
        .next ((s.setEnc fn.val (entField e.raw 224 5) { x with
          bitrate := entField e.raw 480 32, nextRate := some (hrdRate (entField e.raw 480 32))
          coded := x.coded ++ [.rate (entField e.raw 480 32) (entField e.raw 448 32)] }).runEntry fn.val q.val e stOk 0)))) ∧
  (∀ (s : State) (fn : Fn) (n : EncNo) (v : BitVec 16) (w : BitVec 32) (x : EncSession), s.serves fn.val = true → (s.ctx fn.val).tdi ≠ .locked →
    s.encSession fn.val n.val = some x →
    (v.toNat < 2 ^ x.ring.order → exec (.eventHead fn (.enc n) v) s =
      .next (s.setEnc fn.val n.val { x with ring := { x.ring with head := v.toNat, armed := true } })) ∧
    (2 ^ x.ring.order ≤ v.toNat → ∃ t, exec (.eventHead fn (.enc n) v) s = .next t ∧ t.encSession fn.val n.val = some x) ∧
    (w.toNat < esOutBytes x.desc → exec (.outHead fn n w) s = .next (s.setEnc fn.val n.val { x with outHead := w.toNat })) ∧
    (esOutBytes x.desc ≤ w.toNat → exec (.outHead fn n w) s = .next s)) ∧
  (∀ (s : State) (c : Ctx) (n : EncNo) (x : EncSession) (e : VideoEvent) (rest : List VideoEvent), s.unitsRun = true → s.encSession c.val n.val = some x →
    x.ring.due = e :: rest → (x.ring.tail + 2 ^ x.ring.order - x.ring.head) % 2 ^ x.ring.order < 2 ^ x.ring.order - 1 →
    ∃ t y, exec (.eventRecordWrite c (.enc n)) s = .next t ∧ t.encSession c.val n.val = some y ∧ y.ring.due = rest ∧
      y.ring.tail = (x.ring.tail + 1) % 2 ^ x.ring.order ∧ y.outTail = x.outTail ∧
      t.hbm = (s.storeCva c.val (x.ring.cva + x.ring.tail * 32) (leBytes 32 (eventRecord s.tideNat e x.ring.phase))).hbm) ∧
  (∀ (s : State) (dt : Nat) (core : EncCore), s.computeOpen = true → s.agentIssues 8 = true →
    ((∃ x ∈ s.video.enc.vals, x.core = some core.val) → exec (.encodePictureStart dt core) s = .next (s.elapse dt)) ∧
    (∀ k x f rest, (∀ y ∈ s.video.enc.vals, y.core ≠ some core.val) →
      pickSession s.video.turn 8 (fun y => esPriority y.desc) (s.video.enc.filter fun e => e.2.core.isNone && !e.2.frames.isEmpty) = some (k, x) →
      x.frames = f :: rest → ∃ t y p, exec (.encodePictureStart dt core) s = .next t ∧ t.video.enc.look k = some y ∧ y.core = some core.val ∧
        y.frames = rest ∧ y.current = some p ∧ p.frame = f ∧ p.slices = 0 ∧ p.used = 0 ∧ (x.number = 0 → f.status = stOk → p.idr = true) ∧
        (p.idr = true → y.refs = [.current]) ∧
        y.coded = x.coded ++ [.picture f.source f.roi f.endOfStream f.markLong f.forceIdr (f.status != stSourceFault)] ∧ t.hbm = s.hbm)) ∧
  (∀ (s : State) (dt k : Nat) (core : EncCore) (x : EncSession) (p : EncPicture), s.clocked = true → s.encodeCore core.val = some (k, x, p) →
    (∀ (c : Ctx) (e : EncNo), k ≠ c.val * 32 + e.val ∨ x.sliceFits p (x.sliceBytes p).length = false → exec (.sliceWrite dt core c e) s = .next (s.elapse dt)) ∧
    (∀ (c : Ctx) (e : EncNo), k = c.val * 32 + e.val → x.sliceFits p (x.sliceBytes p).length = true → ∃ t y p', exec (.sliceWrite dt core c e) s = .next t ∧ t.video.enc.look k = some y ∧
      y.current = some p' ∧ p'.slices = p.slices + 1 ∧ p'.slices ≤ esSlices x.desc ∧
      p'.used = p.used + 8 * (x.sliceBytes p).length * bitUnit x.desc ∧ p'.cap = p.cap ∧
      (esRcMode x.desc ≠ 0 → p'.slices < esSlices x.desc → p'.used + restBits x.desc p ≤ p.cap) ∧
      (esRcMode x.desc ≠ 0 → p'.slices = esSlices x.desc → p.floor ≤ p'.used ∧ (p.floor ≤ p.used → p'.used ≤ p.cap)) ∧
      y.outTail = (x.outTail + (x.sliceBytes p).length) % esOutBytes x.desc ∧ y.ring.due.length = x.ring.due.length + 1 ∧
      t.hbm = ((s.elapse dt).storeRing x.ctx (esOut x.desc) (esOutBytes x.desc) x.outTail (x.sliceBytes p)).hbm)) ∧
  (∀ (s : State) (dt k : Nat) (core : EncCore) (x : EncSession) (p : EncPicture), s.clocked = true → s.encodeCore core.val = some (k, x, p) →
    (p.slices < esSlices x.desc → exec (.encodePictureDone dt core) s = .next (s.elapse dt)) ∧
    (esSlices x.desc ≤ p.slices → ∃ t y, exec (.encodePictureDone dt core) s = .next t ∧ t.video.enc.look k = some y ∧ y.core = none ∧ y.current = none ∧
      y.number = x.number + 1 ∧ y.refs.count .short ≤ esRefs x.desc ∧ y.refs.count .long ≤ esLongRefs x.desc ∧ RefMark.current ∉ y.refs ∧
      (esRcMode x.desc = 2 → y.fullness ≤ cpbUnits x.desc) ∧ (esRcMode x.desc = 1 → y.fullness = x.fullness - p.used + perPicture x.desc x.rate) ∧
      t = { s.elapse dt with video := t.video, dict := t.dict }))

/-- R43: a chip-level fault overrides region-level handling, and no region takes a further step of R37 (R43). -/
def Obligations.ChipFaultOverridesRegionHandling : Prop :=
  (∀ (s : State) (cause : FaultCause), ∃ t, exec (.chipFault cause) s = .next t ∧
    (∀ (dt : Nat) (r : Region) (pass : Bool), exec (.regionDrained dt r) t = .next (t.elapse dt) ∧
      exec (.regionSelftestDone dt r pass) t = .next (t.elapse dt)) ∧
    (s.board.powered = true → s.board.ready = true → s.slackRuns = true → s.slackArmed 3 = false → ∀ r, r < 6 →
      (t.regions.valAt .reset r).phase = (if (s.regions.valAt .reset r).phase = .disabled then .disabled else .draining) ∧
      ((s.regions.valAt .reset r).phase ≠ .disabled → (t.regions.valAt .reset r).faulted = []))) ∧
  (∀ (s : State), s.integ.persistent.isSome = true ∨ s.integ.recovering.isSome = true → ∀ (dt : Nat) (r : Region) (pass : Bool),
    exec (.regionDrained dt r) s = .next (s.elapse dt) ∧ exec (.regionSelftestDone dt r pass) s = .next (s.elapse dt) ∧ exec (.regionFault r) s = .next s)

/-- Region faults, drains and self-tests region by region; flit retries and when they become chip-level faults (01_package_regions_and_figures.md, 18_integrity_faults_and_self_test.md). -/
def Obligations.RegionFaultsAndRetries : Prop :=
  (∀ (s : State) (r : Region), s.clocked = true → s.integ.recovering = none → s.integ.persistent = none →
    ((s.regions.valAt .reset r.val).phase = .inService → ∃ t, exec (.regionFault r) s = .next t ∧
      t.regions.valAt .reset r.val = { s.regions.valAt .reset r.val with phase := .draining, faulted := s.jobsIn r.val } ∧
      (∀ x, x ≠ r.val → t.regions.valAt .reset x = s.regions.valAt .reset x) ∧
      t = { s with regions := t.regions, integ := { s.integ with windows := s.integ.windows.del r.val }, net := t.net, journal := t.journal, free := t.free, trace := t.trace, dict := t.dict, fab := t.fab, obs := t.obs }) ∧
    ((s.regions.valAt .reset r.val).phase = .selfTest → ∃ t, exec (.regionFault r) s = .next t ∧ (t.regions.valAt .reset r.val).phase = .disabled) ∧
    ((s.regions.valAt .reset r.val).phase = .draining ∨ (s.regions.valAt .reset r.val).phase = .disabled → exec (.regionFault r) s = .next s) ∧
    (∀ (dt : Nat) (b : Fin 32), (bitOf (s.disabledOf r.val) b.val = false → exec (.blockHang dt (.hang r b)) s = exec (.regionFault r) (s.elapse dt)) ∧
      (bitOf (s.disabledOf r.val) b.val = true → exec (.blockHang dt (.hang r b)) s = .next (s.elapse dt))) ∧
    ∀ dt : Nat, exec (.blockHang dt (.arbiter r)) s = exec (.regionFault r) (s.elapse dt)) ∧
  (∀ (s : State) (dt : Nat) (r : Region) (b : Fin 32) (w : Nat), s.clocked = true →
    (bitOf (s.disabledOf r.val) b.val = true → exec (.blockHang dt (.retried r b w 3 true)) s = .next (s.elapse dt)) ∧
    (bitOf (s.disabledOf r.val) b.val = false →
      2 ≤ ((s.integ.poisoned.valAt [] (turnBlock r.val b.val)).filter fun t => decide (s.now + dt ≤ t + 1000000000)).length →
      ∃ t, exec (.blockHang dt (.retried r b w 3 true)) s = .next t ∧ bitOf (t.disabledOf r.val) b.val = true)) ∧
  (∀ (s : State) (dt u : Nat), s.clocked = true → ∃ t, exec (.blockHang dt (.lostHbm u)) s = .next t ∧ (∀ v, v ∈ t.integ.lost ↔ v = u ∨ v ∈ s.integ.lost) ∧
    t.jobs = s.jobs ∧ t.hbm = s.hbm ∧ t.dictVal 0x603004 = min (dictMax 0x603004) (s.dictVal 0x603004 + 1) ∧
    ∀ f p, s.frameAt (u / 64) = some (f, p) → s.pm.frames.look f = some p → ∃ q, t.pm.frames.look f = some q ∧ q.retire = true) ∧
  (∀ (s : State) (dt : Nat) (r : Region), s.clocked = true → s.integ.recovering = none → s.integ.persistent = none →
    ((s.regions.valAt .reset r.val).phase = .draining → ∃ t, exec (.regionDrained dt r) s = .next t ∧ (t.regions.valAt .reset r.val).phase = .selfTest ∧
      (t.regions.valAt .reset r.val).sram = none ∧ (t.regions.valAt .reset r.val).faulted = [] ∧
      (∀ x, x ≠ r.val → t.regions.valAt .reset x = s.regions.valAt .reset x) ∧ t.hbm = s.hbm ∧ t.queues = s.queues ∧
      ∀ k j, s.jobs.look k = some j →
        ((s.regions.valAt .reset r.val).faulted.contains k = true ∨ (j.placed = true ∧ r.val ∈ j.regions) →
          t.jobs.look k = some (j.failAt stJobFault j.activeOp)) ∧
        ((s.regions.valAt .reset r.val).faulted.contains k = false → j.placed = false ∨ r.val ∉ j.regions → t.jobs.look k = some j)) ∧
    ((s.regions.valAt .reset r.val).phase ≠ .draining → exec (.regionDrained dt r) s = .next (s.elapse dt)) ∧
    ((s.regions.valAt .reset r.val).phase = .selfTest →
      (∃ t, exec (.regionSelftestDone dt r true) s = .next t ∧ t.regions.valAt .reset r.val = { s.regions.valAt .reset r.val with phase := .inService } ∧
        (∀ x, x ≠ r.val → t.regions.valAt .reset x = s.regions.valAt .reset x) ∧
        t = { s.elapse dt with regions := t.regions, free := t.free, trace := t.trace, dict := t.dict, fab := t.fab, obs := t.obs }) ∧
      ∃ t, exec (.regionSelftestDone dt r false) s = .next t ∧ (t.regions.valAt .reset r.val).phase = .disabled) ∧
    (∀ pass, (s.regions.valAt .reset r.val).phase ≠ .selfTest → exec (.regionSelftestDone dt r pass) s = .next (s.elapse dt))) ∧
  (∀ (s : State) (r : Nat), s.regionFree r = true → (s.regions.valAt .reset r).phase = .inService ∧ (s.regions.valAt .reset r).holder = .free) ∧
  (∀ (s : State) (cause : FaultCause), (s.board.powered = false → exec (.chipFault cause) s = .next s) ∧
    (s.board.powered = true → s.board.ready = true → s.slackRuns = true → s.slackArmed 3 = false → s.pair.role ≠ .active →
      ∃ t, exec (.chipFault cause) s = .next t ∧ (∀ k j, t.jobs.look k = some j → j.fault.isSome = true) ∧ t.serving.steps = [] ∧ (s.power.mode < 3 → t.hbm = s.hbm) ∧
        t.dictVal 0x600002 = causeCode cause ∧
        (causePersists (causeCode cause) = true ∨ s.integ.persistent.isSome = true → t.integ.persistent = some (s.integ.persistent.getD (causeCode cause)) ∧
          t.integ.recovering = none) ∧
        (causePersists (causeCode cause) = false → s.integ.persistent = none → t.integ.recovering = some (causeCode cause, s.now) ∧ t.integ.persistent = none)) ∧
    (s.board.powered = true → s.board.ready = true → s.slackRuns = false → s.obs.slack.faultPending = none → ∃ t, exec (.chipFault cause) s = .next t ∧
      t.obs.slack.faultPending = some (causeCode cause) ∧ t.regions = s.regions ∧ t.jobs = s.jobs ∧ t.integ = s.integ)) ∧
  (∀ (s : State) (l : D2D) (flit : Nat), s.board.powered = true → (s.d2d l).failed = false →
    ((s.d2d l).failing flit < 8 → exec (.d2dFlitRetry l flit) s = .next ((s.setD2d l ⟨flit, (s.d2d l).failing flit, false⟩).countD2d l) ∧
      exec (.d2dLinkFailed l flit) s = .next s) ∧
    ((s.d2d l).failing flit = 8 → exec (.d2dFlitRetry l flit) s = .next s ∧
      exec (.d2dLinkFailed l flit) s = exec (.chipFault .d2dLink) (s.setD2d l ⟨flit, 8, true⟩))) ∧
  (∀ (s : State) (l : D2D) (flit : Nat), (s.d2d l).failed = true → exec (.d2dFlitRetry l flit) s = .next s ∧ exec (.d2dLinkFailed l flit) s = .next s) ∧
  (∀ (s : State) (hop : Nat), s.clocked = true →
    (s.integ.noc.1 ≠ hop ∨ s.integ.noc.2 < 7 → ∃ t, exec (.nocHopResend hop) s = .next t ∧
      t.integ = { s.integ with noc := (hop, if s.integ.noc.1 = hop then s.integ.noc.2 + 1 else 1) } ∧
      t = { s with integ := t.integ, free := t.free, trace := t.trace, dict := t.dict, fab := t.fab, obs := t.obs }) ∧
    (s.integ.noc = (hop, 7) →
      exec (.nocHopResend hop) s = exec (.chipFault .nocHop) (({ s with integ := { s.integ with noc := (hop, 0) } } : State).count 0xC4 none none 1)))

/-- Self-test windows, mismatches, sweeps, the watchdog and the end of recovery (18_integrity_faults_and_self_test.md). -/
def Obligations.SelfTestWindowsSweepsAndRecovery : Prop :=
  (∀ (s : State) (dt : Nat), s.clocked = true →
    ((s.elapse dt).tideNat / 2000000000 = s.integ.windowsAt ∨ s.integ.recovering.isSome = true ∨ s.integ.sweep.isSome = true →
      exec (.selftestWindowOpen dt) s = .next (s.elapse dt)) ∧
    ((s.elapse dt).tideNat / 2000000000 ≠ s.integ.windowsAt → s.integ.recovering = none → s.integ.sweep = none →
      ∃ t, exec (.selftestWindowOpen dt) s = .next t ∧ t.integ.windowsAt = (s.elapse dt).tideNat / 2000000000 ∧
        (∀ r, r < 6 → (s.regions.valAt .reset r).phase = .inService → s.integ.windows.look r = none → s.disabledOf r = 0 → s.integ.repeats = [] →
          ∃ w, t.integ.windows.look r = some w ∧ w.block = s.integ.turn.valAt 0 r % 32 ∧ w.band = s.bandOf r ∧ w.opened = s.now + dt ∧
            w.owed = false ∧ w.repeating = false) ∧
        (∀ r, r < 6 → (s.regions.valAt .reset r).phase ≠ .inService → s.integ.windows.look r = none → t.integ.windows.look r = none) ∧
        t = { s.elapse dt with integ := t.integ, free := t.free, trace := t.trace, dict := t.dict, fab := t.fab, obs := t.obs })) ∧
  (∀ (s : State) (dt : Nat) (r : Region) (pass : Bool) (w : TestWindow), s.clocked = true → s.integ.windows.look r.val = some w →
    (s.now + dt < w.opened + 2000000 ∨ (s.elapse dt).issues [r.val] = false → exec (.selftestWindowDone dt r pass) s = .next (s.elapse dt)) ∧
    (w.opened + 2000000 ≤ s.now + dt → (s.elapse dt).issues [r.val] = true → w.owed = false → w.repeating = false →
      (s.regions.valAt .reset r.val).phase = .inService →
      (pass = true → ∃ t, exec (.selftestWindowDone dt r pass) s = .next t ∧ t.integ.windows = s.integ.windows.del r.val ∧
        t.integ.turn.valAt 0 r.val = (w.block + 1) % 32 ∧ t.integ.passed.look (r.val * 32 + w.block) = some (s.elapse dt).tideNat ∧
        t.integ.disabled = s.integ.disabled ∧ t.integ.quarantine = s.integ.quarantine ∧
        t.dictVal 0x603006 = min (dictMax 0x603006) (s.dictVal 0x603006 + 1) ∧ t.regions = s.regions ∧ t.jobs = s.jobs) ∧
      (pass = false → s.integ.mismatched.contains (r.val * 32 + w.block) = false → ∃ t q, exec (.selftestWindowDone dt r pass) s = .next t ∧
        t.integ.windows = s.integ.windows.del r.val ∧ t.integ.turn = s.integ.turn ∧
        t.integ.quarantine.look (r.val * 32 + w.block) = some q ∧ bitOf q w.band = true ∧
        ⟨r.val, w.block, w.band⟩ ∈ t.integ.repeats ∧ r.val * 32 + w.block ∈ t.integ.mismatched ∧ t.integ.disabled = s.integ.disabled) ∧
      (pass = false → s.integ.mismatched.contains (r.val * 32 + w.block) = true → ∃ t, exec (.selftestWindowDone dt r pass) s = .next t ∧
        bitOf (t.disabledOf r.val) w.block = true ∧ t.integ.quarantine.look (r.val * 32 + w.block) = none))) ∧
  (∀ (s : State) (dt : Nat) (r : Region) (w : TestWindow), s.clocked = true → s.integ.windows.look r.val = some w → w.owed = false →
    (w.stalled = none → exec (.windowAbandon dt r) s = .next (s.elapse dt)) ∧
    (∀ t0, w.stalled = some t0 → s.now + dt < t0 + 10000000 → exec (.windowAbandon dt r) s = .next (s.elapse dt)) ∧
    (∀ t0, w.stalled = some t0 → t0 + 10000000 ≤ s.now + dt → ∃ t, exec (.windowAbandon dt r) s = .next t ∧
      t.integ = { s.integ with windows := s.integ.windows.del r.val } ∧ t.dictVal 0x60300B = min (dictMax 0x60300B) (s.dictVal 0x60300B + 1) ∧
      t = { s.elapse dt with integ := t.integ, free := t.free, trace := t.trace, dict := t.dict, fab := t.fab, obs := t.obs })) ∧
  (∀ (s : State), s.clocked = true → s.limits.tripped = false → s.woOpen = true → s.integ.sweep = none → s.integ.recovering = none →
    ∃ t, exec .sweepStart s = .next t ∧ t.integ.sweep = some (0, s.now) ∧ (∀ r, r < 6 → t.integ.windows.look r = none) ∧ t = { s with integ := t.integ }) ∧
  (∀ (s : State), s.clocked = false ∨ s.limits.tripped = true ∨ s.integ.sweep.isSome = true → exec .sweepStart s = .next s) ∧
  (∀ (s : State) (dt start why : Nat) (bad : List (Region × Fin 32)), s.integ.sweep = some (why, start) →
    (s.now + dt < start + 640000000 → exec (.sweepDone dt bad) s = .next (s.elapse dt)) ∧
    (s.board.powered = true → s.slackRuns = true → s.asleep = false → start + 640000000 ≤ s.now + dt → why = 0 → bad = [] →
      ∃ t, exec (.sweepDone dt bad) s = .next t ∧ t.integ.sweep = none ∧ t.dictVal 0x603008 = min (dictMax 0x603008) (s.dictVal 0x603008 + 1) ∧
        t.integ.disabled = s.integ.disabled ∧ t.integ.mismatched = s.integ.mismatched ∧ t.integ.disagreements = s.integ.disagreements ∧
        t = { s.elapse dt with integ := t.integ, dict := t.dict, net := t.net }) ∧
    (∀ r b, s.board.powered = true → s.board.ready = true → s.slackRuns = true → s.asleep = false → start + 640000000 ≤ s.now + dt → bad = [(r, b)] →
      bitOf (s.disabledOf r.val) b.val = false → s.integ.mismatched.contains (r.val * 32 + b.val) = false → s.regionsGone = false →
      ∃ t, exec (.sweepDone dt bad) s = .next t ∧ t.integ.sweep = none ∧ r.val * 32 + b.val ∈ t.integ.mismatched ∧ t.integ.disagreements = 0)) ∧
  (∀ (s : State) (dt : Nat), (s.board.powered = false ∨ 3 ≤ s.power.mode → exec (.watchdogMiss dt) s = .next (s.elapse dt)) ∧
    (s.board.powered = true → s.power.mode < 3 →
      (∀ t0, s.integ.watchdog = some t0 → s.now + dt ≤ t0 + 10000000000 → exec (.watchdogMiss dt) s = .next (((s.elapse dt).journalClose 3).moduleReset false)) ∧
      (s.integ.watchdog = none → exec (.watchdogMiss dt) s =
        exec (.chipFault .firmware) { s.elapse dt with integ := { s.integ with watchdog := some (s.now + dt) } }))) ∧
  (∀ (s : State) (dt : Nat), (s.recoveryOver = false ∨ s.integ.recovering = none → exec (.recoveryDone dt) s = .next (s.elapse dt)) ∧
    (∀ c t0, s.integ.recovering = some (c, t0) → s.recoveryOver = true → s.pair.role ≠ .fenced → s.regionsGone = false →
      ∃ t, exec (.recoveryDone dt) s = .next t ∧ t.integ.recovering = none ∧ t.jobs = s.jobs ∧ t.hbm = s.hbm ∧
        ∀ r, r < 6 → (t.regions.valAt .reset r).phase = (if (s.regions.valAt .reset r).phase = .selfTest then .inService else (s.regions.valAt .reset r).phase)))

/-- The cap, the margin map, the 2 µs loops, sensors and bands, thermal trip and loop, and the 1 ms energy accounts (14_power_limits_energy_and_margins.md, 12_object_dictionary_and_mailboxes.md). -/
def Obligations.PowerLimitsAndEnergy : Prop :=
  (∀ (s : State) (w : Nat), s.mgmtUp = true →
    (w < 350 → exec (.capWrite .dictionary w) s = .next (({ s with limits := { s.limits with cap := 350, capSource := 1, capStatus := stCapUnachievable } } : State).raise
      stCapUnachievable (beData [(2, w)]))) ∧
    (350 ≤ w → w ≤ 1650 → exec (.capWrite .dictionary w) s =
      .next (({ s with limits := { s.limits with cap := w, capSource := 1, capStatus := stOk } } : State).bump 0x211003)) ∧
    (1650 < w → exec (.capWrite .dictionary w) s = .next s)) ∧
  (∀ (s : State) (fn : Fn) (w : Nat), s.serves fn.val = true →
    (fn.val ≠ 0 → exec (.capWrite (.register fn) w) s = .next s) ∧
    (fn.val = 0 → ∃ t, exec (.capWrite (.register fn) w) s = .next t ∧ 350 ≤ t.limits.cap ∧ t.limits.cap ≤ 1650 ∧ t.limits.capSource = 2 ∧
      (350 ≤ w → w ≤ 1650 → t.limits.cap = w) ∧ t = { s with limits := t.limits, net := t.net, dict := t.dict })) ∧
  (∀ (s : State) (r : Region) (b : Fin 8), s.mgmtUp = true →
    (∀ top, s.marginTop = some top → s.marginOf r.val b.val + 10 ≤ top → ∃ t, exec (.marginRaise r b) s = .next t ∧
      t.marginOf r.val b.val = s.marginOf r.val b.val + 10 ∧ (∀ k, k ≠ 8 * r.val + b.val → t.limits.margin.valAt 0 k = s.limits.margin.valAt 0 k) ∧
      t.limits.vcomp = s.limits.vcomp ∧ t = { s with limits := t.limits, net := t.net, journal := t.journal }) ∧
    (s.marginTop = none → ∃ t, exec (.marginRaise r b) s = .next t ∧ t.limits = s.limits ∧ t.journal = s.journal)) ∧
  (∀ (s : State) (dt : Nat) (w : PowerWindow), (s.elapse dt).tideNat % 2000 ≠ 0 ∨ s.board.powered = false ∨ s.power.mode = 4 →
    exec (.powerWindowEnd dt w) s = .next (s.elapse dt)) ∧
  (∀ (s : State) (dt : Nat) (w : PowerWindow), s.board.powered = true → s.board.ready = true → s.loopsRun = true → (s.elapse dt).tideNat % 2000 = 0 →
    ∃ t, exec (.powerWindowEnd dt w) s = .next t ∧ t.limits.inputNj = s.limits.inputNj + 2 * w.input ∧ t.limits.packageNj = s.limits.packageNj + 2 * w.package ∧
      ∀ r, r < 6 → t.vcompOf r ≤ s.vcompOf r + 10 ∧ s.vcompOf r ≤ t.vcompOf r + 10 ∧
        ((∃ x ∈ regionRails w r, x.2.2 < x.2.1) → t.limits.fRail.valAt 64 r ≤ s.limits.fRail.valAt 64 r - 1) ∧
        ((∀ x ∈ regionRails w r, x.2.1 * 100 ≤ x.2.2 * 95) → t.limits.fRail.valAt 64 r = min 64 (s.limits.fRail.valAt 64 r + 1)) ∧
        t.limits.cap = s.limits.cap ∧ t.limits.margin = s.limits.margin) ∧
  (∀ (old : Nat) (t : Int), old ≤ 7 → -125 ≤ t → nextBand old t ≤ 7 ∧ bandFloor (nextBand old t) - 2 < t ∧
    (nextBand old t < 7 → t < bandFloor (nextBand old t + 1)) ∧
    (bandFloor old - 2 < t → old = 7 ∨ t < bandFloor (old + 1) → nextBand old t = old)) ∧
  (∀ (s : State) (dt : Nat) (l : List (List Int)), s.board.powered = true → s.power.mode ≠ 4 →
    ((∃ x ∈ l.take 11, ∃ t ∈ x, 105 ≤ t) → s.board.ready = true → ∃ t, exec (.sensorRead dt l) s = .next t ∧ t.limits.tripped = true ∧
      ∀ r, t.fOf r = 0) ∧
    ((∀ x ∈ l, ∀ t ∈ x, t < 105) → ∃ t, exec (.sensorRead dt l) s = .next t ∧ t.limits.tripped = s.limits.tripped ∧
      ((∃ x ∈ l, ∃ t ∈ x, 95 < t) → t.limits.coolSince = none) ∧
      ((∀ x ∈ l, ∀ t ∈ x, t ≤ 95) → t.limits.coolSince = some (s.limits.coolSince.getD (s.now + dt))) ∧
      t.jobs = s.jobs ∧ t.regions = s.regions ∧ t.hbm = s.hbm)) ∧
  (∀ (s : State) (dt t0 : Nat), s.limits.coolSince = some t0 →
    (s.limits.tripped = false ∨ s.now + dt < t0 + 1000000000 → exec (.thermalTripClear dt) s = .next (s.elapse dt)) ∧
    (s.limits.tripped = true → t0 + 1000000000 ≤ s.now + dt → ∃ t, exec (.thermalTripClear dt) s = .next t ∧ t.limits.tripped = false ∧
      t.limits.fCap = 0 ∧ (∀ r, r < 6 → t.limits.fRail.valAt 64 r = 0 ∧ t.limits.fThermal.valAt 64 r = 0) ∧
      t = { s.elapse dt with limits := t.limits, integ := t.integ })) ∧
  (∀ (s : State) (dt : Nat), s.thermalTarget = none → exec (.thermalLoopTick dt) s = .next (s.elapse dt)) ∧
  (∀ (s : State) (dt : Nat) (target : Int), s.thermalTarget = some target → s.board.powered = true → s.loopsRun = true →
    ∃ t, exec (.thermalLoopTick dt) s = .next t ∧ t = { s.elapse dt with limits := t.limits, net := t.net, integ := t.integ } ∧ ∀ r, r < 6 →
      (target ≤ s.junctionOf r → min 900 (s.vLoNow r) < s.limits.ceiling.valAt 900 r →
        t.limits.ceiling.valAt 900 r = max (min 900 (s.vLoNow r)) (s.limits.ceiling.valAt 900 r - 10) ∧
        t.limits.fThermal.valAt 64 r = s.limits.fThermal.valAt 64 r) ∧
      (target ≤ s.junctionOf r → s.limits.ceiling.valAt 900 r ≤ min 900 (s.vLoNow r) →
        t.limits.fThermal.valAt 64 r = s.limits.fThermal.valAt 64 r - 4 ∧ t.limits.ceiling.valAt 900 r = s.limits.ceiling.valAt 900 r) ∧
      (s.junctionOf r ≤ target - 3 → s.limits.fThermal.valAt 64 r < 64 →
        t.limits.fThermal.valAt 64 r = min 64 (s.limits.fThermal.valAt 64 r + 4) ∧ t.limits.ceiling.valAt 900 r = s.limits.ceiling.valAt 900 r) ∧
      (target - 3 < s.junctionOf r → s.junctionOf r < target →
        t.limits.fThermal.valAt 64 r = s.limits.fThermal.valAt 64 r ∧ t.limits.ceiling.valAt 900 r = s.limits.ceiling.valAt 900 r)) ∧
  (∀ (s : State) (dt : Nat) (l : List (EnergyHolder × EnergyCount)) (o : List EnergyCount), s.board.powered = true → s.power.mode ≠ 4 →
    ((s.elapse dt).tideNat % 1000000 ≠ 0 → exec (.energyIntervalEnd dt l o) s = .next (s.elapse dt)) ∧
    ((s.elapse dt).tideNat % 1000000 = 0 → ∃ t, exec (.energyIntervalEnd dt l o) s = .next t ∧
      t.limits.packageTotal = s.limits.packageTotal + s.limits.packageNj ∧ t.limits.inputTotal = s.limits.inputTotal + s.limits.inputNj ∧
      t.limits.inputNj = 0 ∧ t.limits.packageNj = 0 ∧ t.limits.use = [] ∧ t.limits.cap = s.limits.cap ∧ t.hbm = s.hbm ∧ t.queues = s.queues ∧
      (∀ c id j x, s.limits.use = [] → s.limits.diverged = false → s.limits.over15 < 49 → s.jobs.look id = some j → l = [(.job c id, x)] →
        t.jobs = s.jobs.put id { j with energy := j.energy + s.modelEnergy (energyCounts l o) (some (.job c id)) } ∧
        (t.ctx c.val).energy = (s.ctx c.val).energy + s.modelEnergy (energyCounts l o) (some (.job c id)))))

/-- Votes, the way down from Run to Off, and the ways a module wakes (13_power_states_and_wake.md, 11_host_link_contexts_and_trust.md). -/
def Obligations.PowerStatesAndWake : Prop :=
  (∀ (s : State) (fn : Fn) (v : BitVec 32), s.serves fn.val = true → ∃ t, exec (.pwrVoteWrite (.host fn) v) s = .next t ∧
    t.power.votes.valAt 0 fn.val = BitVec.ofNat 9 (v.toNat % 512) ∧ (∀ h, h ≠ fn.val → t.power.votes.valAt 0 h = s.power.votes.valAt 0 h) ∧
    (BitVec.ofNat 9 (v.toNat % 512) = s.power.votes.valAt 0 fn.val → t.power.deeperSince = s.power.deeperSince) ∧
    t = { s with power := { s.power with votes := t.power.votes, deeperSince := t.power.deeperSince } }) ∧
  (∀ (s : State) (n : SessionNo) (v : BitVec 32), 512 ≤ v.toNat ∨ s.net.sessions.look n.val = none → exec (.pwrVoteWrite (.session n) v) s = .next s) ∧
  (∀ (s : State) (n : SessionNo) (v : BitVec 32) (x : QopSession), s.board.ready = true → s.mgmtUp = true → s.asleep = false → v.toNat < 512 →
    s.net.sessions.look n.val = some x → x.opening = false → ∃ t, exec (.pwrVoteWrite (.session n) v) s = .next t ∧
      t.power.votes.valAt 0 (32 + n.val) = BitVec.ofNat 9 v.toNat ∧ t.hbm = s.hbm ∧ t.ctxs = s.ctxs) ∧
  (∀ (s : State) (dt : Nat), (s.board.powered = true → s.power.mode = 0 → s.workOver = true →
      ∃ t, exec (.runToIdle dt) s = .next t ∧ t.power.mode = 1 ∧ t = { s.elapse dt with power := t.power }) ∧
    (s.power.mode ≠ 0 ∨ s.workOver = false → exec (.runToIdle dt) s = .next (s.elapse dt))) ∧
  (∀ (s : State) (dt : Nat), ((s.elapse dt).mayDrop = false → exec (.stateDrop dt) s = .next (s.elapse dt)) ∧
    ((s.elapse dt).mayDrop = true → s.power.mode = 1 → 2 ≤ (s.elapse dt).permitted →
      ∃ t, exec (.stateDrop dt) s = .next t ∧ t.power.entering = some (2, s.now + dt) ∧ t.power.mode = 1 ∧ t = { s.elapse dt with power := t.power }) ∧
    ((s.elapse dt).mayDrop = true → s.power.mode = 2 → (s.elapse dt).permitted = 3 → s.floorMiss = none →
      ∃ t, exec (.stateDrop dt) s = .next t ∧ t.power.entering = some (3, s.now + dt) ∧ t.power.missed = false ∧
        t = { s.elapse dt with power := t.power, journal := t.journal }) ∧
    ((s.elapse dt).mayDrop = true → s.power.mode = 2 → (s.elapse dt).permitted = 3 → s.floorMiss ≠ none →
      ∃ t, exec (.stateDrop dt) s = .next t ∧ t.power.entering = none ∧ t.power.missed = true ∧ t.power.mode = 2 ∧ t.hbm = s.hbm)) ∧
  (∀ (s : State) (dt start target : Nat), s.board.powered = true → s.power.exiting = none → s.power.wake = none → s.power.entering = some (target, start) →
    (target = 2 → ∃ t, exec (.powerEntryDone dt) s = .next t ∧ t.power.mode = 2 ∧ t.power.entering = none ∧ t.power.reachedTide = (s.elapse dt).tideNat ∧
      t = { s.elapse dt with power := t.power, net := t.net }) ∧
    (target = 3 → s.journal.queued = [] → ∃ t, exec (.powerEntryDone dt) s = .next t ∧ t.power.mode = 3 ∧ t.power.entering = none ∧ t.net.linkB = false ∧
      (∀ p x, t.fab.ports.look p = some x → x.mode = .down) ∧ (t.power.lost = true ↔ s.dictVal 0x201001 ≠ 0xFF)) ∧
    (3 ≤ target → s.journal.queued ≠ [] → exec (.powerEntryDone dt) s = .next (s.elapse dt)) ∧
    (target = 4 → s.journal.queued = [] → ∃ t, exec (.powerEntryDone dt) s = .next t ∧ t.board.powered = false ∧ t.board.ready = false ∧ t.power.mode = 4 ∧
      t.pending = s.pending ∧ t.journal.records = s.journal.records)) ∧
  (∀ (s : State) (dt : Nat), (s.asleep = false → exec (.wakeEvent dt) s = .next (s.elapse dt)) ∧
    (∀ w, s.board.powered = true → s.asleep = true → s.power.exiting = none → s.power.wake = some w →
      ∃ t, exec (.wakeEvent dt) s = .next t ∧ t.power.exiting = some (s.now + dt) ∧ t.power.entering = none ∧ t.power.wake = some w ∧
        t = { s.elapse dt with power := t.power })) ∧
  (∀ (s : State) (dt : Nat), (s.dictVal 0x200005 = 0 ∨ (s.elapse dt).tideNat < s.dictVal 0x200005 → exec (.wakeTimerFire dt) s = .next (s.elapse dt)) ∧
    (s.board.powered = true → s.dictVal 0x200005 ≠ 0 → s.dictVal 0x200005 ≤ (s.elapse dt).tideNat → ∃ t, exec (.wakeTimerFire dt) s = .next t ∧
      t.dictVal 0x200005 = 0 ∧ (s.asleep = true → t.power.wake ≠ none) ∧ (s.asleep = false → t.power.wake = s.power.wake) ∧
      t = { s.elapse dt with dict := t.dict, power := t.power })) ∧
  (∀ (s : State) (dt : Nat) (ma : BitVec 16), (ma.toNat ≤ 3000 ∨ s.power.mode ≠ 3 → exec (.brownOut dt ma) s = .next (s.elapse dt)) ∧
    (s.board.powered = true → s.power.mode = 3 → 3000 < ma.toNat → s.power.brownOut = false → ∃ t, exec (.brownOut dt ma) s = .next t ∧
      t.power.lost = true ∧ t.power.brownOut = true ∧ t.power.wake ≠ none ∧ t.hbm = s.hbm)) ∧
  (∀ (s : State) (dt : Nat), s.board.powered = true → s.power.held = [] →
    (s.power.exiting ≠ none → ∃ t, exec (.powerExitDone dt) s = .next t ∧ t.power.mode = 1 ∧ t.power.exiting = none ∧ t.power.entering = none ∧
      t.power.wake = none ∧ t.ctxs = s.ctxs) ∧
    (s.power.exiting = none → exec (.powerExitDone dt) s = .next (s.elapse dt))) ∧
  (∀ (s : State) (dt : Nat) (f : QopFrame) (fn : Fn) (off v : Nat) (t : State), s.board.powered = true → s.asleep = false →
    s.power.held = [.openReq f, .registerWrite fn .w0 off v false false] →
    exec (.openReq f) { s.elapse dt with power := { (s.elapse dt).power with held := [] } } = .next t →
    exec (.powerExitDone dt) s = exec (.registerWrite fn .w0 off v false false) t)

/-- Split reads of Tide and of counters latch the high half per function; SEL writes, snapshots and what each function sees (02_clockless_timing_and_tide.md, 16_counters_global_stop_and_hangs.md). -/
def Obligations.TideReadsCountersAndSnapshots : Prop :=
  (∀ (s : State) (fn : Fn), s.serves fn.val = true → ∃ t, exec (.evcTideNowLoRead fn) s = .next t ∧
    t.trace = .readData fn.val 0x610000 4 (s.tide.count.toNat % 2 ^ 32) :: s.trace ∧ t.readW0Word fn.val 0x610004 = s.tide.count.toNat / 2 ^ 32 ∧
    (∀ g, g ≠ fn.val → t.readW0Word g 0x610004 = s.readW0Word g 0x610004) ∧
    t = { s with trace := t.trace, tide := { s.tide with latch := t.tide.latch } }) ∧
  (∀ fn : Fn, State.reset.readW0Word fn.val 0x610004 = 0) ∧
  (∀ (s : State) (fn : Fn) (c : CounterRef) (v : BitVec 32), s.serves fn.val = true →
    (fn.val ≠ 0 → exec (.evcSelWrite fn c v) s = .next s) ∧
    (fn.val = 0 → counterExists c = true → sourceOk c (v.toNat % 512) = true → (v.getLsbD 28 = false ∨ v.getLsbD 24 = false) →
      ∃ t, exec (.evcSelWrite fn c v) s = .next t ∧ t.obs.counters.valAt .reset (counterKey c) = { Counter.reset with sel := v &&& 0x91F001FF } ∧
        (∀ k, k ≠ counterKey c → t.obs.counters.valAt .reset k = s.obs.counters.valAt .reset k) ∧
        t = { s with obs := { s.obs with counters := t.obs.counters } }) ∧
    (fn.val = 0 → counterExists c = true → sourceOk c (v.toNat % 512) = false ∨ (v.getLsbD 28 = true ∧ v.getLsbD 24 = true) →
      exec (.evcSelWrite fn c v) s = .next (s.setSnap 0 { s.snap 0 with cfgErr := true }))) ∧
  (∀ (s : State) (fn : Fn) (c : CounterRef) (last : Bool), s.serves fn.val = true →
    ∃ t, exec (.evcCntLoRead fn c last) s = .next t ∧
      (counterExists c = true → ∀ w, w = s.observe.counterWord fn.val (counterKey c) last →
        t.trace.head? = some (.readData fn.val (if last then lastOffset c else cntOffset c) 4 (w.toNat % 2 ^ 32)) ∧ t.obs.latch.valAt 0 fn.val = w.extractLsb' 32 32) ∧
      (counterExists c = false ∨ s.counterSeen fn.val (s.obs.counters.valAt .reset (counterKey c)) = false →
        t.trace.head? = some (.readData fn.val (if last then lastOffset c else cntOffset c) 4 0) ∧ t.obs.latch.valAt 0 fn.val = 0) ∧
      (∀ g, g ≠ fn.val → t.obs.latch.valAt 0 g = s.obs.latch.valAt 0 g) ∧
      t = { s with free := t.free, trace := t.trace, dict := t.dict, fab := t.fab, obs := { s.obs with latch := t.obs.latch, counters := t.obs.counters, rings := t.obs.rings, slack := t.obs.slack } }) ∧
  (∀ (s : State) (fn : Fn) (v : BitVec 32), s.serves fn.val = true → ∃ t, exec (.evcSnapGo fn v) s = .next t ∧
    (∀ g, g ≠ fn.val → t.snap g = s.snap g) ∧ t = { s with obs := { s.obs with snaps := t.obs.snaps } } ∧
    ((s.snap fn.val).going = none → snapOk (v.toNat / 4096 % 4) (v.toNat % 4096) = true →
      (t.snap fn.val).going = some (v.toNat / 4096 % 4, v.toNat % 4096) ∧ (t.snap fn.val).seq = (s.snap fn.val).seq) ∧
    ((s.snap fn.val).going ≠ none ∨ snapOk (v.toNat / 4096 % 4) (v.toNat % 4096) = false →
      (t.snap fn.val).cfgErr = true ∧ (t.snap fn.val).going = (s.snap fn.val).going)) ∧
  (∀ (s : State) (dt : Nat) (fn : Fn), ((s.snap fn.val).going = none → exec (.evcSnapDone dt fn) s = .next (s.elapse dt)) ∧
    (∀ x, s.board.powered = true → s.board.ready = true → (s.snap fn.val).going = some x → ∃ t, exec (.evcSnapDone dt fn) s = .next t ∧
      t.snap fn.val = { s.snap fn.val with
        going := none, seq := (s.snap fn.val).seq + 1, tide := s.tide.count + BitVec.ofNat 64 dt
        data := ((snapKeys x.1 x.2).map fun k => (s.elapse dt).observe.counterWord fn.val k false).take 256 } ∧
      (∀ g, g ≠ fn.val → t.snap g = s.snap g) ∧ t.hbm = s.hbm ∧ t.jobs = s.jobs ∧ t.queues = s.queues))

/-- Slack: triggers, STOP from and to other trays, capture, RESUME, SCAN, and the wait-for graph (16_counters_global_stop_and_hangs.md). -/
def Obligations.SlackStopsCapturesAndHangs : Prop :=
  (∀ (s : State) (fn : Fn), s.serves fn.val = true → (fn.val ≠ 0 → exec (.slackTrigger (.register fn)) s = .next s) ∧
    (fn.val = 0 → ∃ t, exec (.slackTrigger (.register fn)) s = .next t ∧ t.obs.slack.mode = .capturing ∧ t.obs.slack.source = 0 ∧ t.obs.slack.hops = 0 ∧
      t.obs.slack.status = stOk ∧ t.obs.slack.stopAt = s.now ∧ (∃ d, d ≤ 150 ∧ t.obs.slack.tide = s.tide.count + BitVec.ofNat 64 d) ∧
      t.obs.slack.triggerId.toNat = s.pair.place % 256 * 2 ^ 24 + (s.obs.slack.stops + 1) % 2 ^ 24 ∧ t.dictVal 0x660002 = 0 ∧
      (∀ p x, s.board.lost = false → s.fab.ports.look p = some x → x.mode = .up →
        ∃ a b, Emission.flit p (flitBytes 0x05 0 0 x.rxSeq a b t.obs.slack.stopBody) ∈ t.trace) ∧
      t = { s with free := t.free, trace := t.trace, dict := t.dict, fab := t.fab, obs := { s.obs with slack := t.obs.slack, counters := t.obs.counters, rings := t.obs.rings } })) ∧
  (∀ s : State, s.woOpen = true → s.slackRuns = true → ∃ t, exec (.slackTrigger .dictionary) s = .next t ∧ t.obs.slack.mode = .capturing ∧
    t.obs.slack.source = 0 ∧ t.jobs = s.jobs) ∧
  (∀ (s : State) (fn : Fn), s.fnPresent 0 = true → s.board.ready = true → s.pair.role ≠ .leaving → s.asleep = false → fn.val = 0 →
    (s.obs.slack.mode = .captured → s.obs.slack.faultPending = none → s.slackArmed 0 = false → ∃ t, exec (.slackResume (.register fn)) s = .next t ∧ t.obs.slack.mode = .running ∧
      t.obs.slack.status = stOk ∧ t.obs.slack.repeats = [] ∧ (∀ c, (s.ctx c).tear = .scrubbing → (t.ctx c).tearAt = (s.ctx c).tearAt + (s.now - s.obs.slack.stopAt)) ∧
      (∀ c, (s.ctx c).tear ≠ .scrubbing → t.ctx c = s.ctx c) ∧ t = { s with ctxs := t.ctxs, trace := t.trace, fab := t.fab, obs := { s.obs with slack := t.obs.slack, counters := t.obs.counters } }) ∧
    (s.obs.slack.mode = .captured → exec (.slackScan (.register fn)) s =
      .next { s with obs := { s.obs with slack := { s.obs.slack with mode := .scanning, status := stOk } } }) ∧
    (s.obs.slack.mode ≠ .captured →
      exec (.slackResume (.register fn)) s = .next { s with obs := { s.obs with slack := { s.obs.slack with status := stSlackState } } } ∧
      exec (.slackScan (.register fn)) s = .next { s with obs := { s.obs with slack := { s.obs.slack with status := stSlackState } } }) ∧
    (s.slackRuns = false → exec (.slackTrigger (.register fn)) s = .next { s with obs := { s.obs with slack := { s.obs.slack with status := stSlackState } } })) ∧
  (∀ (s : State) (dt : Nat), s.board.powered = true → s.board.ready = true → s.slackArmed 0 = false →
    (s.slackRuns = true → s.slackArmed 1 = true → s.obs.slack.atTide.toNat ≤ (s.elapse dt).tideNat → ∃ t, exec (.slackTideAt dt) s = .next t ∧
      t.obs.slack.mode = .capturing ∧ t.obs.slack.source = 2 ∧ t.obs.slack.atTide = s.obs.slack.atTide ∧ t.jobs = s.jobs) ∧
    (s.slackRuns = false ∨ s.slackArmed 1 = false ∨ (s.elapse dt).tideNat < s.obs.slack.atTide.toNat → exec (.slackTideAt dt) s = .next (s.elapse dt))) ∧
  (∀ (s : State) (p : FabPort) (b : StopBody), s.board.powered = true → s.board.ready = true → (s.port p.val).mode = .up →
    (s.slackRuns = true → s.slackArmed 4 = true → ∃ t, exec (.stop p b) s = .next t ∧ t.obs.slack.mode = .capturing ∧ t.obs.slack.source = 5 ∧
      t.obs.slack.hops = min 255 (b.hops.toNat + 1) ∧ t.obs.slack.port = p.val ∧ t.obs.slack.triggerId = b.triggerId ∧ t.obs.slack.originTide = b.originTide) ∧
    (s.slackRuns = true → s.slackArmed 4 = false → exec (.stop p b) s = .next s) ∧
    (s.slackRuns = false → b.triggerId = s.obs.slack.triggerId → ∃ t, exec (.stop p b) s = .next t ∧ t.obs.slack.repeats.look p.val = none ∧
      (∀ q, q ≠ p.val → t.obs.slack.repeats.look q = s.obs.slack.repeats.look q) ∧
      t = { s with obs := { s.obs with slack := { s.obs.slack with repeats := t.obs.slack.repeats } } }) ∧
    (s.slackRuns = false → b.triggerId ≠ s.obs.slack.triggerId → exec (.stop p b) s = .next s)) ∧
  (∀ (s : State) (dt : Nat) (p : FabPort), (s.obs.slack.repeats.look p.val = none → exec (.stopRepeat dt p) s = .next (s.elapse dt)) ∧
    (∀ n, s.obs.slack.repeats.look p.val = some n →
      (s.obs.slack.stopAt + 100000 ≤ s.now + dt → ∃ t, exec (.stopRepeat dt p) s = .next t ∧ t.obs.slack.repeats.look p.val = none ∧ t.trace = s.trace) ∧
      (s.now + dt < s.obs.slack.stopAt + 100000 → n + 200 ≤ s.now + dt → (s.port p.val).mode = .up → s.board.lost = false → ∃ t, exec (.stopRepeat dt p) s = .next t ∧
        t.obs.slack.repeats.look p.val = some (s.now + dt) ∧ t.trace = .flit p.val
          (flitBytes 0x05 0 0 (s.port p.val).rxSeq (s.port p.val).freed0 (s.port p.val).freed1 s.obs.slack.stopBody) :: s.trace) ∧
      (s.now + dt < s.obs.slack.stopAt + 100000 → s.now + dt < n + 200 → exec (.stopRepeat dt p) s = .next (s.elapse dt)))) ∧
  (∀ (s : State) (dt : Nat) (held : List HeldUnit), (s.obs.slack.mode ≠ .capturing → exec (.slackCaptureDone dt held) s = .next (s.elapse dt)) ∧
    (s.board.powered = true → s.obs.slack.mode = .capturing → ∃ t, exec (.slackCaptureDone dt held) s = .next t ∧
      t.obs.slack = { s.obs.slack with mode := .captured } ∧ (∀ i, i < graphBase → t.obs.capture.read i = (((s.elapse dt).captureBytes held)[i]?).getD 0) ∧
      (∀ i, graphBase ≤ i → t.obs.capture.read i = s.obs.capture.read i) ∧
      t = { s.elapse dt with free := t.free, net := t.net, obs := { (s.elapse dt).obs with capture := t.obs.capture, slack := t.obs.slack } })) ∧
  (∀ (s : State) (dt : Nat) (scan : List HeldUnit), (s.obs.slack.mode ≠ .scanning → exec (.scanDone dt scan) s = .next (s.elapse dt)) ∧
    (s.board.powered = true → s.obs.slack.mode = .scanning → ∃ t, exec (.scanDone dt scan) s = .next t ∧ t.obs.slack = { s.obs.slack with mode := .scanned } ∧
      (∀ i, i < s.obs.captureLength ∨ graphBase ≤ i → t.obs.capture.read i = s.obs.capture.read i) ∧
      t = { s.elapse dt with net := t.net, obs := { (s.elapse dt).obs with capture := t.obs.capture, slack := t.obs.slack } })) ∧
  (∀ (s : State) (dt : Nat) (since : List Nat) (edges : List WfgEdge), edges = (s.elapse dt).waitEdges since → s.board.ready = true → s.mgmtUp = true →
    (s.obs.wfgAsked = false → exec (.wfgBuild dt false since) s = .next (s.elapse dt)) ∧
    (s.slackRuns = false ∨ s.dictVal 0x670001 = 0 ∨ s.now + dt < s.obs.wfgAt + s.dictVal 0x670001 * 1000000 →
      exec (.wfgBuild dt true since) s = .next (s.elapse dt)) ∧
    (s.obs.wfgAsked = true → ∃ t, exec (.wfgBuild dt false since) s = .next t ∧ t.obs.wfgAsked = false ∧ t.obs.wfgAt = s.now + dt ∧
      t.obs.round.length = min 65535 edges.length ∧ t.dictVal 0x670004 = min 65535 edges.length ∧ t.jobs = s.jobs ∧ t.hbm = s.hbm) ∧
    (s.slackRuns = true → s.dictVal 0x670001 ≠ 0 → s.obs.wfgAt + s.dictVal 0x670001 * 1000000 ≤ s.now + dt →
      ∃ t, exec (.wfgBuild dt true since) s = .next t ∧ t.obs.wfgAt = s.now + dt ∧ t.obs.round.length = min 65535 edges.length ∧
        t.dictVal 0x670004 = min 65535 edges.length ∧ t.obs.wfgAsked = s.obs.wfgAsked ∧
        (∀ a b, edges = [a, b] → s.obs.round = [a, b] → s.obs.cycles = [] → edgeExternal a = false → edgeExternal b = false →
          edgeWaiter a = edgeHolder b → edgeWaiter b = edgeHolder a → edgeWaiter a ≠ edgeWaiter b →
          t.obs.cycles.length = 1 ∧ t.dictVal 0x670006 = min (dictMax 0x670006) (s.dictVal 0x670006 + 1) ∧
          (s.slackArmed 5 = true → t.obs.slack.mode = .capturing ∧ t.obs.slack.source = 6) ∧ (s.slackArmed 5 = false → t.obs.slack = s.obs.slack))))

/-- A completion for a torn-down context is dropped, counted in 0x7100.05, and no IDE stream changes (R468). -/
def Obligations.LateCompletionIsDroppedAndCounted : Prop :=
  ∀ (s : State) (c : Ctx), s.board.powered = true → (s.ctx c.val).ide.retired = true → s.resident c.val = false →
    ∃ t, exec (.lateCompletion c) s = .next t ∧ t.dictVal 0x710005 = min (dictMax 0x710005) (s.dictVal 0x710005 + 1) ∧
      (∀ x, (t.ctx x).ide = (s.ctx x).ide) ∧ t = { s with dict := t.dict }

/-- Opening, proving, closing and losing a QOP session, events, and the answers to ARP and ICMP (12_object_dictionary_and_mailboxes.md, 19_module_connector_power_and_bring_up.md). -/
def Obligations.QopSessionsAndFrames : Prop :=
  (∀ (s : State) (f : QopFrame) (h : QopHead) (slot : Nat), s.hearsQop f h → h.type = 1 → h.value.length = 34 → slot = fieldAt h.value 0 1 →
    slot ≤ 7 ∨ slot = 0xFF → fieldAt h.value 1 1 ≤ 1 → h.session = 0 → qopMac f.payload = List.replicate 16 0 →
    (∀ n, s.freeSessionSlot = some n → s.proofKey slot ≠ none → s.net.locked.look (lockSlot slot) = none → ∃ t x, exec (.openReq f) s = .next t ∧
      t.net.sessions.look n = some x ∧ x.opening = true ∧ x.keySlot = slot ∧ x.clientNonce = h.value.drop 2 ∧ x.moduleNonce.length = 32 ∧
      x.ip = f.ip ∧ x.udp = f.udp ∧ x.events = (fieldAt h.value 1 1 == 1) ∧ x.heard = s.now ∧
      (s.net.sessions.length ≤ 8 → ∀ m y, s.net.sessions.look m = some y → y.number ≠ x.number) ∧
      (∀ m, m ≠ n → t.net.sessions.look m = s.net.sessions.look m) ∧ t.sentQop f.ip f.udp ⟨2, x.number, 0, h.seq, 0, 0, 0, x.moduleNonce⟩ ∧
      t = { s with free := t.free, trace := t.trace, dict := t.dict, net := t.net }) ∧
    (s.freeSessionSlot = none ∨ s.proofKey slot = none ∨ s.net.locked.look (lockSlot slot) ≠ none → ∃ t st, exec (.openReq f) s = .next t ∧
      t.net.sessions = s.net.sessions ∧ t.sentQop f.ip f.udp ⟨0x7F, 0, st, h.seq, 0, 0, 0, []⟩ ∧
      (s.freeSessionSlot = none → st = stQopSessionLimit.toNat) ∧ t.net.locked = s.net.locked)) ∧
  (∀ (s : State) (f : QopFrame) (h : QopHead) (n : Nat) (x : QopSession), s.hearsQop f h → h.type = 3 → s.sessionOf f h.session true = some n →
    s.net.sessions.look n = some x → qopMac f.payload = List.replicate 16 0 →
    (h.value = s.proof x ((s.proofKey x.keySlot).getD []) → ∃ t y, exec (.openAuth f) s = .next t ∧ t.net.sessions.look n = some y ∧ y.opening = false ∧
      y.lastSeq = some h.seq ∧ y.heard = s.now ∧ y.idleMs = s.dictVal 0x120002 ∧ (x.keySlot = 0xFF → y.role = 0) ∧
      (x.keySlot ≠ 0xFF → ∀ k, s.trust.slots.look x.keySlot = some k → y.role = k.1) ∧ t.sentQop x.ip x.udp ⟨4, x.number, 0, h.seq, 0, 0, 0, leBytes 1 y.role⟩ ∧
      (∀ m, m ≠ n → t.net.sessions.look m = s.net.sessions.look m) ∧ t.net.failures = s.net.failures ∧ t.net.locked = s.net.locked) ∧
    (h.value ≠ s.proof x ((s.proofKey x.keySlot).getD []) → ∃ t, exec (.openAuth f) s = .next t ∧ t.net.sessions.look n = none ∧
      t.dictVal 0x610006 = min (dictMax 0x610006) (s.dictVal 0x610006 + 1) ∧
      (4 ≤ ((s.net.failures.valAt [] (lockSlot x.keySlot)).filter fun u => decide (s.now < u + 60000000000)).length →
        t.net.locked.look (lockSlot x.keySlot) = some (s.now + 60000000000)) ∧
      (((s.net.failures.valAt [] (lockSlot x.keySlot)).filter fun u => decide (s.now < u + 60000000000)).length < 4 → t.net.locked = s.net.locked))) ∧
  (∀ (s : State) (f : QopFrame) (h : QopHead) (n : Nat) (x : QopSession), s.hearsQop f h → h.type = 5 → s.ownsFrame f h n x →
    (s.awaited n = false → ∃ t, exec (.qopClose f) s = .next t ∧ t.net.sessions.look n = none ∧ t.power.votes.look (32 + n) = none ∧
      t.sentQop x.ip x.udp ⟨5, x.number, stOk.toNat, h.seq, 0, 0, 0, []⟩ ∧ (∀ m, m ≠ n → t.net.sessions.look m = s.net.sessions.look m)) ∧
    (s.awaited n = true → ∃ t, exec (.qopClose f) s = .next t ∧
      t.net.sessions.look n = some { x with lastSeq := some h.seq, heard := s.now, closing := some stOk } ∧ t.trace = s.trace)) ∧
  (∀ (s : State) (f : QopFrame) (h : QopHead) (n q : Nat) (x : QopSession), s.hearsQop f h → s.sessionOf f h.session false = some n →
    s.net.sessions.look n = some x → (x.lastSeq = some q ∧ h.seq ≤ q) ∨
      qopMac f.payload ≠ (hmac512 x.key (f.payload.take (f.payload.length - 16) ++ List.replicate 16 0)).take 16 →
    (h.type = 5 → exec (.qopClose f) s = .next ((s.metered f).bump 0x610005)) ∧ (h.type = 0x10 → exec (.qopRead f) s = .next ((s.metered f).bump 0x610005)) ∧
    (h.type = 0x11 → exec (.qopWrite f) s = .next ((s.metered f).bump 0x610005))) ∧
  (∀ (s : State) (f : QopFrame) (h : QopHead) (n : Nat) (x : QopSession) (tag : BitVec 16), s.board.ready = true → s.power.mode ≠ 3 → s.mgmtUp = true →
    s.tsnUp f.port = true → f.rtag = some tag → s.netVal 0x110202 = 1 → qopParse f.payload = some h → h.type = 0x10 →
    (s.meter (tsnNo f.port) 2 (s.frameBytes f.payload.length true)).2 = true → s.streamOf f h = some n → s.net.sessions.look n = some x →
    x.judge s.now tag.toNat = .copy → exec (.qopRead f) s = .next ((s.meter (tsnNo f.port) 2 (s.frameBytes f.payload.length true)).1.bump 0x610004)) ∧
  (∀ s : State, s.board.ready = true → s.mgmtUp = true → (s.net.linkA = true ∨ s.net.linkB = true) → s.net.sessions.wf = true →
    ∃ t, exec .qopEvent s = .next t ∧ t = { s with trace := t.trace, net := { s.net with sessions := t.net.sessions } } ∧
      ∀ n x, s.net.sessions.look n = some x → ∃ y, t.net.sessions.look n = some y ∧ y.queue = x.queue.drop 1 ∧ y.number = x.number ∧
        ∀ e rest, x.queue = e :: rest → y.lost = false ∧ y.eventSeq = (x.eventSeq + 1) % 2 ^ 32 ∧ t.sentQop x.ip x.udp
          ⟨0x20, x.number, 0, y.eventSeq, 0, 0, if x.lost then 1 else 0, beData [(2, e.code.toNat), (8, e.tide)] ++ e.data⟩) ∧
  (∀ (s : State) (p : TsnPort) (a : BitVec 32) (d : List Byte), s.board.ready = true → s.mgmtUp = true → s.tsnUp p = true →
    (a.toNat ≠ s.netVal 0x110003 → exec (.arpRequest p a) s = .next s ∧ exec (.icmpEcho p a d) s = .next s) ∧
    (a.toNat = s.netVal 0x110003 → (s.meter (tsnNo p) 3 64).2 = true → ∃ t, exec (.arpRequest p a) s = .next t ∧
      t.trace = .ether (tsnNo p) 0x0806 (a.toNat :: (s.dictOctVal (0x110001 + tsnNo p)).map BitVec.toNat) :: s.trace ∧
      t = { s with trace := t.trace, net := { s.net with meters := t.net.meters } }) ∧
    (a.toNat = s.netVal 0x110003 → (s.meter (tsnNo p) 3 (s.frameBytes d.length false)).2 = true → ∃ t, exec (.icmpEcho p a d) s = .next t ∧
      t.trace = .ether (tsnNo p) 0x0800 (d.map BitVec.toNat) :: s.trace ∧ t = { s with trace := t.trace, net := { s.net with meters := t.net.meters } })) ∧
  (∀ (s : State) (dt : Nat) (n : SessionNo) (x : QopSession), s.mgmtUp = true → s.net.sessions.look n.val = some x →
    (x.opening = true → x.heard + 1000000000 ≤ s.now + dt → ∃ t, exec (.openTimeout dt n) s = .next t ∧ t.net.sessions.look n.val = none ∧
      (∀ m, m ≠ n.val → t.net.sessions.look m = s.net.sessions.look m) ∧ t.trace = s.trace) ∧
    (x.opening = false ∨ s.now + dt < x.heard + 1000000000 → exec (.openTimeout dt n) s = .next (s.elapse dt)) ∧
    (x.opening = false → x.closing = none → x.heard + x.idleMs * 1000000 ≤ s.now + dt → s.awaited n.val = false →
      ∃ t, exec (.sessionIdleTimeout dt n) s = .next t ∧ t.net.sessions.look n.val = none ∧ t.power.votes.look (32 + n.val) = none) ∧
    (s.now + dt < x.heard + x.idleMs * 1000000 → exec (.sessionIdleTimeout dt n) s = .next (s.elapse dt))) ∧
  (∀ (s : State) (dt u : Nat) (slot : Fin 9), s.net.locked.look slot.val = some u →
    (u ≤ s.now + dt → ∃ t, exec (.slotLockExpire dt slot) s = .next t ∧ t.net.locked.look slot.val = none ∧
      (∀ m, m ≠ slot.val → t.net.locked.look m = s.net.locked.look m) ∧ t = { s.elapse dt with net := { s.net with locked := t.net.locked } }) ∧
    (s.now + dt < u → exec (.slotLockExpire dt slot) s = .next (s.elapse dt))) ∧
  (∀ (s : State) (up : Bool), s.board.powered = true → exec (.tsnLinkChange .a up) s = .next { s with net := { s.net with linkA := up } } ∧
    exec (.tsnLinkChange .b up) s = .next { s with net := { s.net with linkB := up && s.power.mode != 3 } })

/-- Reads and writes of the dictionary by frame and by mailbox, persisted writes, defaults and gate lists (12_object_dictionary_and_mailboxes.md, 17_firmware_images_and_journal.md, 02_clockless_timing_and_tide.md). -/
def Obligations.DictionaryAccess : Prop :=
  (∀ (s : State) (f : QopFrame) (h : QopHead) (n : Nat) (x : QopSession) (k : Nat), s.hearsQop f h → h.type = 0x10 → s.ownsFrame f h n x →
    k = h.index * 256 + h.sub →
    (∀ st, s.readRefusal ⟨x.role, some n⟩ k = some st → ∃ t, exec (.qopRead f) s = .next t ∧
      t.sentQop x.ip x.udp ⟨0x12, x.number, st.toNat, h.seq, h.index, h.sub, 0, []⟩ ∧ (∀ j, j ≠ 0x610001 → t.dictVal j = s.dictVal j) ∧
      t = { s with trace := t.trace, dict := t.dict, net := t.net, power := t.power } ∧
      (h.seq ≠ 0xFFFFFFFF → ∃ y, t.net.sessions.look n = some y ∧ y.lastSeq = some h.seq)) ∧
    (∀ r, s.readRefusal ⟨x.role, some n⟩ k = none → s.entryRow k = some r → r.numeric = true → ∃ t v, exec (.qopRead f) s = .next t ∧ v.length = r.ty.size ∧
      t.sentQop x.ip x.udp ⟨0x12, x.number, stOk.toNat, h.seq, h.index, h.sub, 0, v⟩ ∧ t.journal = s.journal ∧
      (s.derivedA k = none → s.derivedB k = none → s.derivedC k = none → k ≠ 0x200004 → k ≠ 0x610001 →
        v = (leBytes r.ty.size (s.dictVal k)).reverse))) ∧
  (∀ (s : State) (f : QopFrame) (h : QopHead) (n : Nat) (x : QopSession) (k : Nat), s.hearsQop f h → h.type = 0x11 → s.ownsFrame f h n x →
    k = h.index * 256 + h.sub →
    (∀ st, s.writeRefusal ⟨x.role, some n⟩ k (wireOrder k h.value) = some st → ∃ t, exec (.qopWrite f) s = .next t ∧
      t.sentQop x.ip x.udp ⟨0x12, x.number, st.toNat, h.seq, h.index, h.sub, 0, []⟩ ∧ (∀ j, j ≠ 0x610001 → t.dictVal j = s.dictVal j) ∧
      t.net.writes = s.net.writes ∧ t = { s with trace := t.trace, dict := t.dict, net := t.net, power := t.power }) ∧
    (∀ r, s.writeRefusal ⟨x.role, some n⟩ k (wireOrder k h.value) = none → s.entryRow k = some r → r.numeric = true →
      (r.access = .rw → k ≠ 0x200004 → k ≠ 0x210001 → k ≠ 0x250001 → k ≠ 0x250004 → k ≠ 0x610001 → ∃ t v, exec (.qopWrite f) s = .next t ∧
        t.dictVal k = leNat h.value.reverse ∧ (∀ j, j ≠ k → j ≠ 0x610001 → t.dictVal j = s.dictVal j) ∧
        t.sentQop x.ip x.udp ⟨0x12, x.number, stOk.toNat, h.seq, h.index, h.sub, 0, v⟩ ∧ t.journal = s.journal ∧ t.net.writes = s.net.writes) ∧
      (r.access = .rwp → ∃ t, exec (.qopWrite f) s = .next t ∧ t.trace = s.trace ∧ (∀ j, j ≠ 0x610001 → t.dictVal j = s.dictVal j) ∧
        t.net.writes = s.net.writes ++ [⟨k, h.value.reverse, s.journal.nextSeq, .qop n h.seq⟩] ∧
        t.journal.queued.length = s.journal.queued.length + 1 ∧ t.journal.durable = s.journal.durable))) ∧
  (∀ (s : State) (w : PendingWrite) (rest : List PendingWrite), s.board.ready = true → s.mgmtUp = true → s.net.writes = w :: rest →
    (s.journal.durable ≤ w.record → exec .rwPDurable s = .next s) ∧
    (∀ r, w.record < s.journal.durable → dictRow? w.key = some r → r.numeric = true → w.key ≠ 0x250001 → w.key ≠ 0x250004 → w.key ≠ 0x610007 →
      ∃ t, exec .rwPDurable s = .next t ∧ t.net.writes = rest ∧ t.dictVal w.key = leNat w.value ∧
        (∀ j, j ≠ w.key → j ≠ 0x610007 → t.dictVal j = s.dictVal j) ∧ t.journal = s.journal)) ∧
  (∀ s : State, (s.woOpen = false → exec .restoreDefaults s = .next s ∧ exec .gclConfigChange s = .next s) ∧
    (s.woOpen = true → exec .restoreDefaults s = .next { s with net := { s.net with restore := true } } ∧
      ∃ i, exec .gclConfigChange s = .next { s with net := { s.net with gclDue := true, gclAt := some i } } ∧
        (s.dictVal 0x110301 ≠ 0 → s.tideNat + 1000000 ≤ i ∧ (i = s.dictVal 0x110302 ∨ i < s.tideNat + 1000000 + s.dictVal 0x110301) ∧
          ∃ m, i = s.dictVal 0x110302 + m * s.dictVal 0x110301))) ∧
  (∀ (s : State) (dt : Nat), (s.net.gclAt = none → exec (.gclActivate dt) s = .next (s.elapse dt)) ∧
    (∀ i, s.net.gclAt = some i → ((s.elapse dt).tideNat < i → exec (.gclActivate dt) s = .next (s.elapse dt)) ∧
      (s.board.powered = true → s.board.ready = true → i ≤ (s.elapse dt).tideNat → exec (.gclActivate dt) s = .next { s.elapse dt with
        net := { s.net with gclDue := false, gclAt := none, gclOper := s.dictOctVal 0x110303, gclBase := s.dictVal 0x110302, gclCycle := s.dictVal 0x110301 } }))) ∧
  (∀ (s : State) (fn : Fn) (ch : MbxNo) (words : List Nat) (k : Nat), s.mailAt fn.val ch.val words → mbxCommand words = 2 → k = (words[1]?).getD 0 / 256 →
    (4 ≤ ch.val → ∃ t, exec (.dictRead fn ch) s = .next t ∧ s.answeredMail t fn.val ch.val words stMbxChannel []) ∧
    (∀ st, ch.val < 4 → (words[2]?).getD 0 = 0 → s.readRefusal ⟨mbxRole fn.val, none⟩ k = some st → ∃ t, exec (.dictRead fn ch) s = .next t ∧
      s.answeredMail t fn.val ch.val words st []) ∧
    (∀ r, ch.val < 4 → s.readRefusal ⟨mbxRole fn.val, none⟩ k = none → s.entryRow k = some r → r.numeric = true →
      (r.ty.size < (words[2]?).getD 0 → ∃ t, exec (.dictRead fn ch) s = .next t ∧ s.answeredMail t fn.val ch.val words stMbxBadLength []) ∧
      ((words[2]?).getD 0 = 0 → s.derivedA k = none → s.derivedB k = none → s.derivedC k = none → k ≠ 0x200004 →
        ∃ t, exec (.dictRead fn ch) s = .next t ∧
          s.answeredMail t fn.val ch.val words stOk ((r.ty.size * 65536 + r.ty.size) :: wordsOf 14 (leBytes r.ty.size (s.dictVal k)))))) ∧
  (∀ (s : State) (fn : Fn) (ch : MbxNo) (words : List Nat) (k len : Nat), s.mailAt fn.val ch.val words → mbxCommand words = 3 → ch.val < 4 →
    k = (words[1]?).getD 0 / 256 → len = bitsOf ((words[2]?).getD 0) 31 16 →
    (fn.val ≠ 0 → ∃ t, exec (.dictWrite fn ch) s = .next t ∧ s.answeredMail t fn.val ch.val words stRoleDenied [] ∧
      t = { s with mbx := t.mbx, dict := t.dict, trace := t.trace } ∧ ∀ j, j ≠ 0x610007 → t.dictVal j = s.dictVal j) ∧
    (∀ r v, fn.val = 0 → len ≤ 52 → 3 + (len + 3) / 4 ≤ words.length → v = ((words.drop 3).flatMap fun w => leBytes 4 w).take len →
      s.writeRefusal ⟨1, none⟩ k v = none → s.entryRow k = some r → r.numeric = true →
      (r.access = .rw → k ≠ 0x210001 → k ≠ 0x250001 → k ≠ 0x250004 → k ≠ 0x610007 → ∃ t, exec (.dictWrite fn ch) s = .next t ∧ t.dictVal k = leNat v ∧
        s.answeredMail t fn.val ch.val words stOk [k * 256] ∧ (∀ j, j ≠ k → j ≠ 0x610007 → t.dictVal j = s.dictVal j) ∧ t.journal = s.journal) ∧
      (r.access = .rwp → ∃ t, exec (.dictWrite fn ch) s = .next t ∧ t.dict = s.dict ∧
        t.net.writes = s.net.writes ++ [⟨k, v, s.journal.nextSeq, .mbx 0 ch.val ((words[0]?).getD 0 % 65536)⟩] ∧
        (t.channel (mbxKey fn.val ch.val)).inSeq = (s.channel (mbxKey fn.val ch.val)).inSeq))) ∧
  (∀ (s : State) (fn : Fn) (ch : MbxNo) (words : List Nat), s.mailAt fn.val ch.val words → mbxCommand words = 0x43 →
    (ch.val < 4 → ∃ t, exec (.netReset fn ch) s = .next t ∧ s.answeredMail t fn.val ch.val words stMbxChannel []) ∧
    (4 ≤ ch.val → (words[1]?).getD 0 ≠ 0x4E455452 → ∃ t, exec (.netReset fn ch) s = .next t ∧ s.answeredMail t fn.val ch.val words stMbxBadCommand [] ∧
      t.journal = s.journal) ∧
    (4 ≤ ch.val → (words[1]?).getD 0 = 0x4E455452 → s.journal.canTake = true → ∃ t, exec (.netReset fn ch) s = .next t ∧
      t.journal.queued.length = s.journal.queued.length + 11 ∧ t.dict = s.dict ∧ t.net.active = s.net.active ∧
      t.net.writes = s.net.writes ++ [⟨0, [], s.journal.nextSeq + 10, .mbx fn.val ch.val ((words[0]?).getD 0 % 65536)⟩]))

/-- Mailbox slots, drops and domains, ECHO, the key slots and the password, and mail from other trays (12_object_dictionary_and_mailboxes.md, 15_fabric_failover_and_spares.md). -/
def Obligations.MailboxesAndKeys : Prop :=
  (∀ (s : State) (fn : Fn) (ch : MbxNo) (v : BitVec 32) (ide : Bool) (x : MbxChannel), s.serves fn.val = true → x = s.channel (mbxKey fn.val ch.val) →
    (4 ≤ ch.val → fn.val ≠ 0 → exec (.mbxGo fn ch v ide) s = .next s ∧ exec (.mbxInRelease fn ch v ide) s = .next s) ∧
    (4 ≤ ch.val → fn.val = 0 → s.secureAccess ide = false → exec (.mbxGo fn ch v ide) s = .next (s.bump 0x710007) ∧
      exec (.mbxInRelease fn ch v ide) s = .next (s.bump 0x710007)) ∧
    (ch.val < 4 → s.targetDomain ch.val ≠ 0 → ∃ t, exec (.mbxGo fn ch v ide) s = .next t ∧ exec (.mbxInRelease fn ch v ide) s = .next t ∧
      t.reg fn.val mbxDomainOff = min 65535 (s.reg fn.val mbxDomainOff + 1) ∧ t = { s with regs := t.regs, dict := t.dict }) ∧
    (ch.val < 4 → s.targetDomain ch.val = 0 →
      (v.getLsbD 0 = true → 8 ≤ v.toNat / 256 % 32 → v.toNat / 256 % 32 ≤ 16 → ∃ t, exec (.mbxGo fn ch v ide) s = .next t ∧
        t.channel (mbxKey fn.val ch.val) = { x with
          len := v.toNat / 256 % 32, outMsg := (List.range (v.toNat / 256 % 32)).map (x.stage.valAt 0), outSeq := x.outSeq + 1, outFull := true
          outCollision := (!v.getLsbD 2 && x.outCollision) || x.outFull } ∧
        (∀ k, k ≠ mbxKey fn.val ch.val → t.channel k = s.channel k) ∧ t = { s with mbx := t.mbx, dict := t.dict } ∧ (x.outFull = false → t.dict = s.dict)) ∧
      (v.getLsbD 0 = true → v.toNat / 256 % 32 < 8 ∨ 16 < v.toNat / 256 % 32 → exec (.mbxGo fn ch v ide) s = .next s) ∧
      (∃ t, exec (.mbxInRelease fn ch v ide) s = .next t ∧ t = { s with mbx := t.mbx } ∧
        t.channel (mbxKey fn.val ch.val) = { x with
          inVector := v.toNat / 8 % 32, inCollision := !v.getLsbD 2 && x.inCollision, inFull := !v.getLsbD 1 && x.inFull }))) ∧
  (∀ (s : State) (fn : Fn), s.serves fn.val = true → ∃ t, exec (.mbxDomainRead fn) s = .next t ∧
    t.trace = .readData fn.val mbxDomainOff 4 (s.reg fn.val mbxDomainOff * 65536 + (if fn.val = 0 then s.lighthouseDomain * 4 else 0) + s.managementDomain) :: s.trace ∧
    t.reg fn.val mbxDomainOff = 0 ∧ t = { s with trace := t.trace, regs := t.regs }) ∧
  (∀ (s : State) (fn : Fn) (ch : MbxNo), (s.channel (mbxKey fn.val ch.val)).outFull = false →
    ∀ c ∈ [Instr.echo fn ch, .dictRead fn ch, .dictWrite fn ch, .keySet fn ch, .keyClear fn ch, .passwordSet fn ch, .netReset fn ch], exec c s = .next s) ∧
  (∀ (s : State) (fn : Fn) (ch : MbxNo) (words : List Nat), s.mailAt fn.val ch.val words →
    (mbxCommand words = 1 → ch.val < 4 → ∃ t, exec (.echo fn ch) s = .next t ∧ s.answeredMail t fn.val ch.val words stOk (words.drop 1)) ∧
    (mbxCommand words = 1 → 4 ≤ ch.val → ∃ t, exec (.echo fn ch) s = .next t ∧ s.answeredMail t fn.val ch.val words stMbxChannel []) ∧
    (mbxCommands.contains (mbxCommand words) = false → ∃ t, exec (.echo fn ch) s = .next t ∧ s.answeredMail t fn.val ch.val words stMbxBadCommand [])) ∧
  (∀ (s : State) (fn : Fn) (ch : MbxNo) (words : List Nat) (slot role part : Nat) (key : List Byte), s.mailAt fn.val ch.val words →
    slot = bitsOf ((words[1]?).getD 0) 31 24 → role = bitsOf ((words[1]?).getD 0) 23 16 → part = bitsOf ((words[1]?).getD 0) 15 8 →
    key = ((words.drop 2).flatMap fun w => leBytes 4 w).take 32 →
    (mbxCommand words = 0x40 → ch.val < 4 → ∃ t, exec (.keySet fn ch) s = .next t ∧ s.answeredMail t fn.val ch.val words stMbxChannel [] ∧ t.trust = s.trust) ∧
    (mbxCommand words = 0x40 → 4 ≤ ch.val → 10 ≤ words.length → slot ≤ 7 → role ≤ 3 →
      (part = 0 → s.trust.parts.look ch.val = none → ∃ t, exec (.keySet fn ch) s = .next t ∧ s.answeredMail t fn.val ch.val words stOk [] ∧
        t.trust.parts.look ch.val = some (slot, role, key) ∧ t.trust.slots = s.trust.slots) ∧
      (∀ first, part = 1 → s.trust.parts.look ch.val = some (slot, role, first) → ∃ t, exec (.keySet fn ch) s = .next t ∧
        s.answeredMail t fn.val ch.val words stOk [] ∧ t.trust.parts.look ch.val = none ∧ t.trust.slots.look slot = some (role, first ++ key) ∧
        (∀ j, j ≠ slot → t.trust.slots.look j = s.trust.slots.look j) ∧
        (∀ n x, s.net.sessions.look n = some x → x.keySlot = slot → s.awaited n = false → t.net.sessions.look n = none)) ∧
      (∀ other, part = 1 → s.trust.parts.look ch.val = some other → (other.1 ≠ slot ∨ other.2.1 ≠ role) → ∃ t, exec (.keySet fn ch) s = .next t ∧
        s.answeredMail t fn.val ch.val words stMbxBadCommand [] ∧ t.trust.parts.look ch.val = none ∧ t.trust.slots = s.trust.slots)) ∧
    (mbxCommand words = 0x41 → 4 ≤ ch.val → slot ≤ 7 → ∃ t, exec (.keyClear fn ch) s = .next t ∧ s.answeredMail t fn.val ch.val words stOk [] ∧
      t.trust.slots.look slot = none ∧ (∀ j, j ≠ slot → t.trust.slots.look j = s.trust.slots.look j) ∧
      (∀ n x, s.net.sessions.look n = some x → x.keySlot = slot → s.awaited n = false → t.net.sessions.look n = none))) ∧
  (∀ (s : State) (fn : Fn) (ch : MbxNo) (words : List Nat) (n : Nat) (v : List Byte), s.mailAt fn.val ch.val words → mbxCommand words = 0x42 → 4 ≤ ch.val →
    n = (words[1]?).getD 0 % 256 → v = ((words.drop 2).flatMap fun w => leBytes 4 w).take n →
    (n < 8 ∨ 48 < n → ∃ t, exec (.passwordSet fn ch) s = .next t ∧ s.answeredMail t fn.val ch.val words stBadPassword [] ∧ t.trust = s.trust) ∧
    (8 ≤ n → n ≤ 48 → 2 + (n + 3) / 4 ≤ words.length → utf8 v = true → ∃ t, exec (.passwordSet fn ch) s = .next t ∧
      s.answeredMail t fn.val ch.val words stOk [] ∧ t.trust.password = some (sha512 v) ∧ t.trust.slots = s.trust.slots ∧
      (∀ m x, s.net.sessions.look m = some x → x.keySlot = 0xFF → s.awaited m = false → t.net.sessions.look m = none))) ∧
  (∀ s : State, ((s.fab.inbox.find? fun e => e.2.type == 0x32) = none → exec .peerMail s = .next s) ∧
    (∀ e, s.board.ready = true → s.slackRuns = true → (s.fab.inbox.find? fun e => e.2.type == 0x32) = some e →
      (e.2.body.length < 32 → exec .peerMail s = .next { s with fab := { s.fab with inbox := s.fab.inbox.erase e } }) ∧
      (32 ≤ e.2.body.length → s.managementDomain = 0 → ∃ t j, exec .peerMail s = .next t ∧ j < 2 ∧ (t.channel (128 + j)).inFull = true ∧
        (t.channel (128 + j)).inMsg = wordsOf 16 e.2.body ∧ (t.channel (128 + j)).inSeq = (s.channel (128 + j)).inSeq + 1 ∧
        (∀ k, k ≠ 128 + j → t.channel k = s.channel k) ∧ t.fab.inbox = s.fab.inbox.erase e)))

end Slice0Obligations
end

