-- ==== Sys2Proof/Laws/State.lean ====
section
/-! SUPPORT. What each shared operation on the state leaves alone: one lemma per operation, one equation per field it does not touch. -/

namespace Sys2Proof.Machine

@[simp] theorem State.elapse_frame (s : State) (a0 : Nat) :
    (State.elapse s a0).resetAt = s.resetAt ∧ (State.elapse s a0).pending = s.pending ∧ (State.elapse s a0).free = s.free ∧
    (State.elapse s a0).trace = s.trace ∧ (State.elapse s a0).dict = s.dict ∧ (State.elapse s a0).dictOct = s.dictOct ∧
    (State.elapse s a0).regs = s.regs ∧ (State.elapse s a0).d2dA = s.d2dA ∧ (State.elapse s a0).d2dB = s.d2dB ∧
    (State.elapse s a0).regions = s.regions ∧ (State.elapse s a0).hbm = s.hbm ∧ (State.elapse s a0).pm = s.pm ∧ (State.elapse s a0).paths = s.paths ∧
    (State.elapse s a0).queues = s.queues ∧ (State.elapse s a0).progs = s.progs ∧ (State.elapse s a0).jobs = s.jobs ∧
    (State.elapse s a0).nextId = s.nextId ∧ (State.elapse s a0).nextBell = s.nextBell ∧ (State.elapse s a0).kv = s.kv ∧
    (State.elapse s a0).serving = s.serving ∧ (State.elapse s a0).video = s.video ∧ (State.elapse s a0).ctxs = s.ctxs ∧
    (State.elapse s a0).config = s.config ∧ (State.elapse s a0).dma = s.dma ∧ (State.elapse s a0).dmaTurn = s.dmaTurn ∧
    (State.elapse s a0).sched = s.sched ∧ (State.elapse s a0).trust = s.trust ∧ (State.elapse s a0).net = s.net ∧ (State.elapse s a0).mbx = s.mbx ∧
    (State.elapse s a0).limits = s.limits ∧ (State.elapse s a0).fab = s.fab ∧ (State.elapse s a0).pair = s.pair ∧ (State.elapse s a0).fw = s.fw ∧
    (State.elapse s a0).journal = s.journal ∧ (State.elapse s a0).integ = s.integ ∧ (State.elapse s a0).board = s.board := by
  unfold State.elapse; simp

@[simp] theorem State.emit_frame (s : State) (a0 : Emission) :
    (State.emit s a0).now = s.now ∧ (State.emit s a0).resetAt = s.resetAt ∧ (State.emit s a0).pending = s.pending ∧ (State.emit s a0).free = s.free ∧
    (State.emit s a0).dict = s.dict ∧ (State.emit s a0).dictOct = s.dictOct ∧ (State.emit s a0).regs = s.regs ∧ (State.emit s a0).d2dA = s.d2dA ∧
    (State.emit s a0).d2dB = s.d2dB ∧ (State.emit s a0).regions = s.regions ∧ (State.emit s a0).tide = s.tide ∧ (State.emit s a0).hbm = s.hbm ∧
    (State.emit s a0).pm = s.pm ∧ (State.emit s a0).paths = s.paths ∧ (State.emit s a0).queues = s.queues ∧ (State.emit s a0).progs = s.progs ∧
    (State.emit s a0).jobs = s.jobs ∧ (State.emit s a0).nextId = s.nextId ∧ (State.emit s a0).nextBell = s.nextBell ∧ (State.emit s a0).kv = s.kv ∧
    (State.emit s a0).serving = s.serving ∧ (State.emit s a0).video = s.video ∧ (State.emit s a0).ctxs = s.ctxs ∧
    (State.emit s a0).config = s.config ∧ (State.emit s a0).dma = s.dma ∧ (State.emit s a0).dmaTurn = s.dmaTurn ∧ (State.emit s a0).sched = s.sched ∧
    (State.emit s a0).trust = s.trust ∧ (State.emit s a0).net = s.net ∧ (State.emit s a0).mbx = s.mbx ∧ (State.emit s a0).power = s.power ∧
    (State.emit s a0).limits = s.limits ∧ (State.emit s a0).fab = s.fab ∧ (State.emit s a0).pair = s.pair ∧ (State.emit s a0).obs = s.obs ∧
    (State.emit s a0).fw = s.fw ∧ (State.emit s a0).journal = s.journal ∧ (State.emit s a0).integ = s.integ ∧ (State.emit s a0).board = s.board := by
  unfold State.emit; simp

@[simp] theorem State.draw_frame (s : State) :
    (State.draw s).now = s.now ∧ (State.draw s).resetAt = s.resetAt ∧ (State.draw s).pending = s.pending ∧ (State.draw s).trace = s.trace ∧
    (State.draw s).dict = s.dict ∧ (State.draw s).dictOct = s.dictOct ∧ (State.draw s).regs = s.regs ∧ (State.draw s).d2dA = s.d2dA ∧
    (State.draw s).d2dB = s.d2dB ∧ (State.draw s).regions = s.regions ∧ (State.draw s).tide = s.tide ∧ (State.draw s).hbm = s.hbm ∧
    (State.draw s).pm = s.pm ∧ (State.draw s).paths = s.paths ∧ (State.draw s).queues = s.queues ∧ (State.draw s).progs = s.progs ∧
    (State.draw s).jobs = s.jobs ∧ (State.draw s).nextId = s.nextId ∧ (State.draw s).nextBell = s.nextBell ∧ (State.draw s).kv = s.kv ∧
    (State.draw s).serving = s.serving ∧ (State.draw s).video = s.video ∧ (State.draw s).ctxs = s.ctxs ∧ (State.draw s).config = s.config ∧
    (State.draw s).dma = s.dma ∧ (State.draw s).dmaTurn = s.dmaTurn ∧ (State.draw s).sched = s.sched ∧ (State.draw s).trust = s.trust ∧
    (State.draw s).net = s.net ∧ (State.draw s).mbx = s.mbx ∧ (State.draw s).power = s.power ∧ (State.draw s).limits = s.limits ∧
    (State.draw s).fab = s.fab ∧ (State.draw s).pair = s.pair ∧ (State.draw s).obs = s.obs ∧ (State.draw s).fw = s.fw ∧
    (State.draw s).journal = s.journal ∧ (State.draw s).integ = s.integ ∧ (State.draw s).board = s.board := by
  unfold State.draw; simp

@[simp] theorem State.setDict_frame (s : State) (a0 : Nat) (a1 : Nat) :
    (State.setDict s a0 a1).now = s.now ∧ (State.setDict s a0 a1).resetAt = s.resetAt ∧ (State.setDict s a0 a1).pending = s.pending ∧
    (State.setDict s a0 a1).free = s.free ∧ (State.setDict s a0 a1).trace = s.trace ∧ (State.setDict s a0 a1).dictOct = s.dictOct ∧
    (State.setDict s a0 a1).regs = s.regs ∧ (State.setDict s a0 a1).d2dA = s.d2dA ∧ (State.setDict s a0 a1).d2dB = s.d2dB ∧
    (State.setDict s a0 a1).regions = s.regions ∧ (State.setDict s a0 a1).tide = s.tide ∧ (State.setDict s a0 a1).hbm = s.hbm ∧
    (State.setDict s a0 a1).pm = s.pm ∧ (State.setDict s a0 a1).paths = s.paths ∧ (State.setDict s a0 a1).queues = s.queues ∧
    (State.setDict s a0 a1).progs = s.progs ∧ (State.setDict s a0 a1).jobs = s.jobs ∧ (State.setDict s a0 a1).nextId = s.nextId ∧
    (State.setDict s a0 a1).nextBell = s.nextBell ∧ (State.setDict s a0 a1).kv = s.kv ∧ (State.setDict s a0 a1).serving = s.serving ∧
    (State.setDict s a0 a1).video = s.video ∧ (State.setDict s a0 a1).ctxs = s.ctxs ∧ (State.setDict s a0 a1).config = s.config ∧
    (State.setDict s a0 a1).dma = s.dma ∧ (State.setDict s a0 a1).dmaTurn = s.dmaTurn ∧ (State.setDict s a0 a1).sched = s.sched ∧
    (State.setDict s a0 a1).trust = s.trust ∧ (State.setDict s a0 a1).net = s.net ∧ (State.setDict s a0 a1).mbx = s.mbx ∧
    (State.setDict s a0 a1).power = s.power ∧ (State.setDict s a0 a1).limits = s.limits ∧ (State.setDict s a0 a1).fab = s.fab ∧
    (State.setDict s a0 a1).pair = s.pair ∧ (State.setDict s a0 a1).obs = s.obs ∧ (State.setDict s a0 a1).fw = s.fw ∧
    (State.setDict s a0 a1).journal = s.journal ∧ (State.setDict s a0 a1).integ = s.integ ∧ (State.setDict s a0 a1).board = s.board := by
  unfold State.setDict; simp

@[simp] theorem State.setDictOct_frame (s : State) (a0 : Nat) (a1 : List Byte) :
    (State.setDictOct s a0 a1).now = s.now ∧ (State.setDictOct s a0 a1).resetAt = s.resetAt ∧ (State.setDictOct s a0 a1).pending = s.pending ∧
    (State.setDictOct s a0 a1).free = s.free ∧ (State.setDictOct s a0 a1).trace = s.trace ∧ (State.setDictOct s a0 a1).dict = s.dict ∧
    (State.setDictOct s a0 a1).regs = s.regs ∧ (State.setDictOct s a0 a1).d2dA = s.d2dA ∧ (State.setDictOct s a0 a1).d2dB = s.d2dB ∧
    (State.setDictOct s a0 a1).regions = s.regions ∧ (State.setDictOct s a0 a1).tide = s.tide ∧ (State.setDictOct s a0 a1).hbm = s.hbm ∧
    (State.setDictOct s a0 a1).pm = s.pm ∧ (State.setDictOct s a0 a1).paths = s.paths ∧ (State.setDictOct s a0 a1).queues = s.queues ∧
    (State.setDictOct s a0 a1).progs = s.progs ∧ (State.setDictOct s a0 a1).jobs = s.jobs ∧ (State.setDictOct s a0 a1).nextId = s.nextId ∧
    (State.setDictOct s a0 a1).nextBell = s.nextBell ∧ (State.setDictOct s a0 a1).kv = s.kv ∧ (State.setDictOct s a0 a1).serving = s.serving ∧
    (State.setDictOct s a0 a1).video = s.video ∧ (State.setDictOct s a0 a1).ctxs = s.ctxs ∧ (State.setDictOct s a0 a1).config = s.config ∧
    (State.setDictOct s a0 a1).dma = s.dma ∧ (State.setDictOct s a0 a1).dmaTurn = s.dmaTurn ∧ (State.setDictOct s a0 a1).sched = s.sched ∧
    (State.setDictOct s a0 a1).trust = s.trust ∧ (State.setDictOct s a0 a1).net = s.net ∧ (State.setDictOct s a0 a1).mbx = s.mbx ∧
    (State.setDictOct s a0 a1).power = s.power ∧ (State.setDictOct s a0 a1).limits = s.limits ∧ (State.setDictOct s a0 a1).fab = s.fab ∧
    (State.setDictOct s a0 a1).pair = s.pair ∧ (State.setDictOct s a0 a1).obs = s.obs ∧ (State.setDictOct s a0 a1).fw = s.fw ∧
    (State.setDictOct s a0 a1).journal = s.journal ∧ (State.setDictOct s a0 a1).integ = s.integ ∧ (State.setDictOct s a0 a1).board = s.board := by
  unfold State.setDictOct; simp

@[simp] theorem State.bumpBy_frame (s : State) (a0 : Nat) (a1 : Nat) :
    (State.bumpBy s a0 a1).now = s.now ∧ (State.bumpBy s a0 a1).resetAt = s.resetAt ∧ (State.bumpBy s a0 a1).pending = s.pending ∧
    (State.bumpBy s a0 a1).free = s.free ∧ (State.bumpBy s a0 a1).trace = s.trace ∧ (State.bumpBy s a0 a1).dictOct = s.dictOct ∧
    (State.bumpBy s a0 a1).regs = s.regs ∧ (State.bumpBy s a0 a1).d2dA = s.d2dA ∧ (State.bumpBy s a0 a1).d2dB = s.d2dB ∧
    (State.bumpBy s a0 a1).regions = s.regions ∧ (State.bumpBy s a0 a1).tide = s.tide ∧ (State.bumpBy s a0 a1).hbm = s.hbm ∧
    (State.bumpBy s a0 a1).pm = s.pm ∧ (State.bumpBy s a0 a1).paths = s.paths ∧ (State.bumpBy s a0 a1).queues = s.queues ∧
    (State.bumpBy s a0 a1).progs = s.progs ∧ (State.bumpBy s a0 a1).jobs = s.jobs ∧ (State.bumpBy s a0 a1).nextId = s.nextId ∧
    (State.bumpBy s a0 a1).nextBell = s.nextBell ∧ (State.bumpBy s a0 a1).kv = s.kv ∧ (State.bumpBy s a0 a1).serving = s.serving ∧
    (State.bumpBy s a0 a1).video = s.video ∧ (State.bumpBy s a0 a1).ctxs = s.ctxs ∧ (State.bumpBy s a0 a1).config = s.config ∧
    (State.bumpBy s a0 a1).dma = s.dma ∧ (State.bumpBy s a0 a1).dmaTurn = s.dmaTurn ∧ (State.bumpBy s a0 a1).sched = s.sched ∧
    (State.bumpBy s a0 a1).trust = s.trust ∧ (State.bumpBy s a0 a1).net = s.net ∧ (State.bumpBy s a0 a1).mbx = s.mbx ∧
    (State.bumpBy s a0 a1).power = s.power ∧ (State.bumpBy s a0 a1).limits = s.limits ∧ (State.bumpBy s a0 a1).fab = s.fab ∧
    (State.bumpBy s a0 a1).pair = s.pair ∧ (State.bumpBy s a0 a1).obs = s.obs ∧ (State.bumpBy s a0 a1).fw = s.fw ∧
    (State.bumpBy s a0 a1).journal = s.journal ∧ (State.bumpBy s a0 a1).integ = s.integ ∧ (State.bumpBy s a0 a1).board = s.board := by
  unfold State.bumpBy; simp

@[simp] theorem State.bump_frame (s : State) (a0 : Nat) :
    (State.bump s a0).now = s.now ∧ (State.bump s a0).resetAt = s.resetAt ∧ (State.bump s a0).pending = s.pending ∧ (State.bump s a0).free = s.free ∧
    (State.bump s a0).trace = s.trace ∧ (State.bump s a0).dictOct = s.dictOct ∧ (State.bump s a0).regs = s.regs ∧ (State.bump s a0).d2dA = s.d2dA ∧
    (State.bump s a0).d2dB = s.d2dB ∧ (State.bump s a0).regions = s.regions ∧ (State.bump s a0).tide = s.tide ∧ (State.bump s a0).hbm = s.hbm ∧
    (State.bump s a0).pm = s.pm ∧ (State.bump s a0).paths = s.paths ∧ (State.bump s a0).queues = s.queues ∧ (State.bump s a0).progs = s.progs ∧
    (State.bump s a0).jobs = s.jobs ∧ (State.bump s a0).nextId = s.nextId ∧ (State.bump s a0).nextBell = s.nextBell ∧ (State.bump s a0).kv = s.kv ∧
    (State.bump s a0).serving = s.serving ∧ (State.bump s a0).video = s.video ∧ (State.bump s a0).ctxs = s.ctxs ∧
    (State.bump s a0).config = s.config ∧ (State.bump s a0).dma = s.dma ∧ (State.bump s a0).dmaTurn = s.dmaTurn ∧ (State.bump s a0).sched = s.sched ∧
    (State.bump s a0).trust = s.trust ∧ (State.bump s a0).net = s.net ∧ (State.bump s a0).mbx = s.mbx ∧ (State.bump s a0).power = s.power ∧
    (State.bump s a0).limits = s.limits ∧ (State.bump s a0).fab = s.fab ∧ (State.bump s a0).pair = s.pair ∧ (State.bump s a0).obs = s.obs ∧
    (State.bump s a0).fw = s.fw ∧ (State.bump s a0).journal = s.journal ∧ (State.bump s a0).integ = s.integ ∧ (State.bump s a0).board = s.board := by
  unfold State.bump; simp

@[simp] theorem State.setReg_frame (s : State) (a0 : Nat) (a1 : Nat) (a2 : Nat) :
    (State.setReg s a0 a1 a2).now = s.now ∧ (State.setReg s a0 a1 a2).resetAt = s.resetAt ∧ (State.setReg s a0 a1 a2).pending = s.pending ∧
    (State.setReg s a0 a1 a2).free = s.free ∧ (State.setReg s a0 a1 a2).trace = s.trace ∧ (State.setReg s a0 a1 a2).dict = s.dict ∧
    (State.setReg s a0 a1 a2).dictOct = s.dictOct ∧ (State.setReg s a0 a1 a2).d2dA = s.d2dA ∧ (State.setReg s a0 a1 a2).d2dB = s.d2dB ∧
    (State.setReg s a0 a1 a2).regions = s.regions ∧ (State.setReg s a0 a1 a2).tide = s.tide ∧ (State.setReg s a0 a1 a2).hbm = s.hbm ∧
    (State.setReg s a0 a1 a2).pm = s.pm ∧ (State.setReg s a0 a1 a2).paths = s.paths ∧ (State.setReg s a0 a1 a2).queues = s.queues ∧
    (State.setReg s a0 a1 a2).progs = s.progs ∧ (State.setReg s a0 a1 a2).jobs = s.jobs ∧ (State.setReg s a0 a1 a2).nextId = s.nextId ∧
    (State.setReg s a0 a1 a2).nextBell = s.nextBell ∧ (State.setReg s a0 a1 a2).kv = s.kv ∧ (State.setReg s a0 a1 a2).serving = s.serving ∧
    (State.setReg s a0 a1 a2).video = s.video ∧ (State.setReg s a0 a1 a2).ctxs = s.ctxs ∧ (State.setReg s a0 a1 a2).config = s.config ∧
    (State.setReg s a0 a1 a2).dma = s.dma ∧ (State.setReg s a0 a1 a2).dmaTurn = s.dmaTurn ∧ (State.setReg s a0 a1 a2).sched = s.sched ∧
    (State.setReg s a0 a1 a2).trust = s.trust ∧ (State.setReg s a0 a1 a2).net = s.net ∧ (State.setReg s a0 a1 a2).mbx = s.mbx ∧
    (State.setReg s a0 a1 a2).power = s.power ∧ (State.setReg s a0 a1 a2).limits = s.limits ∧ (State.setReg s a0 a1 a2).fab = s.fab ∧
    (State.setReg s a0 a1 a2).pair = s.pair ∧ (State.setReg s a0 a1 a2).obs = s.obs ∧ (State.setReg s a0 a1 a2).fw = s.fw ∧
    (State.setReg s a0 a1 a2).journal = s.journal ∧ (State.setReg s a0 a1 a2).integ = s.integ ∧ (State.setReg s a0 a1 a2).board = s.board := by
  unfold State.setReg; simp

@[simp] theorem State.raise_frame (s : State) (a0 : Status) (a1 : List Byte) :
    (State.raise s a0 a1).now = s.now ∧ (State.raise s a0 a1).resetAt = s.resetAt ∧ (State.raise s a0 a1).pending = s.pending ∧
    (State.raise s a0 a1).free = s.free ∧ (State.raise s a0 a1).trace = s.trace ∧ (State.raise s a0 a1).dict = s.dict ∧
    (State.raise s a0 a1).dictOct = s.dictOct ∧ (State.raise s a0 a1).regs = s.regs ∧ (State.raise s a0 a1).d2dA = s.d2dA ∧
    (State.raise s a0 a1).d2dB = s.d2dB ∧ (State.raise s a0 a1).regions = s.regions ∧ (State.raise s a0 a1).tide = s.tide ∧
    (State.raise s a0 a1).hbm = s.hbm ∧ (State.raise s a0 a1).pm = s.pm ∧ (State.raise s a0 a1).paths = s.paths ∧
    (State.raise s a0 a1).queues = s.queues ∧ (State.raise s a0 a1).progs = s.progs ∧ (State.raise s a0 a1).jobs = s.jobs ∧
    (State.raise s a0 a1).nextId = s.nextId ∧ (State.raise s a0 a1).nextBell = s.nextBell ∧ (State.raise s a0 a1).kv = s.kv ∧
    (State.raise s a0 a1).serving = s.serving ∧ (State.raise s a0 a1).video = s.video ∧ (State.raise s a0 a1).ctxs = s.ctxs ∧
    (State.raise s a0 a1).config = s.config ∧ (State.raise s a0 a1).dma = s.dma ∧ (State.raise s a0 a1).dmaTurn = s.dmaTurn ∧
    (State.raise s a0 a1).sched = s.sched ∧ (State.raise s a0 a1).trust = s.trust ∧ (State.raise s a0 a1).mbx = s.mbx ∧
    (State.raise s a0 a1).power = s.power ∧ (State.raise s a0 a1).limits = s.limits ∧ (State.raise s a0 a1).fab = s.fab ∧
    (State.raise s a0 a1).pair = s.pair ∧ (State.raise s a0 a1).obs = s.obs ∧ (State.raise s a0 a1).fw = s.fw ∧
    (State.raise s a0 a1).journal = s.journal ∧ (State.raise s a0 a1).integ = s.integ ∧ (State.raise s a0 a1).board = s.board := by
  unfold State.raise; simp

@[simp] theorem State.journalPut_frame (s : State) (a0 : Nat) (a1 : Nat) (a2 : List Byte) :
    (State.journalPut s a0 a1 a2).now = s.now ∧ (State.journalPut s a0 a1 a2).resetAt = s.resetAt ∧
    (State.journalPut s a0 a1 a2).pending = s.pending ∧ (State.journalPut s a0 a1 a2).free = s.free ∧ (State.journalPut s a0 a1 a2).trace = s.trace ∧
    (State.journalPut s a0 a1 a2).dict = s.dict ∧ (State.journalPut s a0 a1 a2).dictOct = s.dictOct ∧ (State.journalPut s a0 a1 a2).regs = s.regs ∧
    (State.journalPut s a0 a1 a2).d2dA = s.d2dA ∧ (State.journalPut s a0 a1 a2).d2dB = s.d2dB ∧ (State.journalPut s a0 a1 a2).regions = s.regions ∧
    (State.journalPut s a0 a1 a2).tide = s.tide ∧ (State.journalPut s a0 a1 a2).hbm = s.hbm ∧ (State.journalPut s a0 a1 a2).pm = s.pm ∧
    (State.journalPut s a0 a1 a2).paths = s.paths ∧ (State.journalPut s a0 a1 a2).queues = s.queues ∧ (State.journalPut s a0 a1 a2).progs = s.progs ∧
    (State.journalPut s a0 a1 a2).jobs = s.jobs ∧ (State.journalPut s a0 a1 a2).nextId = s.nextId ∧
    (State.journalPut s a0 a1 a2).nextBell = s.nextBell ∧ (State.journalPut s a0 a1 a2).kv = s.kv ∧
    (State.journalPut s a0 a1 a2).serving = s.serving ∧ (State.journalPut s a0 a1 a2).video = s.video ∧ (State.journalPut s a0 a1 a2).ctxs = s.ctxs ∧
    (State.journalPut s a0 a1 a2).config = s.config ∧ (State.journalPut s a0 a1 a2).dma = s.dma ∧ (State.journalPut s a0 a1 a2).dmaTurn = s.dmaTurn ∧
    (State.journalPut s a0 a1 a2).sched = s.sched ∧ (State.journalPut s a0 a1 a2).trust = s.trust ∧ (State.journalPut s a0 a1 a2).net = s.net ∧
    (State.journalPut s a0 a1 a2).mbx = s.mbx ∧ (State.journalPut s a0 a1 a2).power = s.power ∧ (State.journalPut s a0 a1 a2).limits = s.limits ∧
    (State.journalPut s a0 a1 a2).fab = s.fab ∧ (State.journalPut s a0 a1 a2).pair = s.pair ∧ (State.journalPut s a0 a1 a2).obs = s.obs ∧
    (State.journalPut s a0 a1 a2).fw = s.fw ∧ (State.journalPut s a0 a1 a2).integ = s.integ ∧ (State.journalPut s a0 a1 a2).board = s.board := by
  unfold State.journalPut; dsimp only; split <;> simp

@[simp] theorem State.keepCounter_frame (s : State) (a0 : Nat) (a1 : Nat) :
    (State.keepCounter s a0 a1).now = s.now ∧ (State.keepCounter s a0 a1).resetAt = s.resetAt ∧ (State.keepCounter s a0 a1).pending = s.pending ∧
    (State.keepCounter s a0 a1).free = s.free ∧ (State.keepCounter s a0 a1).trace = s.trace ∧ (State.keepCounter s a0 a1).dictOct = s.dictOct ∧
    (State.keepCounter s a0 a1).regs = s.regs ∧ (State.keepCounter s a0 a1).d2dA = s.d2dA ∧ (State.keepCounter s a0 a1).d2dB = s.d2dB ∧
    (State.keepCounter s a0 a1).regions = s.regions ∧ (State.keepCounter s a0 a1).tide = s.tide ∧ (State.keepCounter s a0 a1).hbm = s.hbm ∧
    (State.keepCounter s a0 a1).pm = s.pm ∧ (State.keepCounter s a0 a1).paths = s.paths ∧ (State.keepCounter s a0 a1).queues = s.queues ∧
    (State.keepCounter s a0 a1).progs = s.progs ∧ (State.keepCounter s a0 a1).jobs = s.jobs ∧ (State.keepCounter s a0 a1).nextId = s.nextId ∧
    (State.keepCounter s a0 a1).nextBell = s.nextBell ∧ (State.keepCounter s a0 a1).kv = s.kv ∧ (State.keepCounter s a0 a1).serving = s.serving ∧
    (State.keepCounter s a0 a1).video = s.video ∧ (State.keepCounter s a0 a1).ctxs = s.ctxs ∧ (State.keepCounter s a0 a1).config = s.config ∧
    (State.keepCounter s a0 a1).dma = s.dma ∧ (State.keepCounter s a0 a1).dmaTurn = s.dmaTurn ∧ (State.keepCounter s a0 a1).sched = s.sched ∧
    (State.keepCounter s a0 a1).trust = s.trust ∧ (State.keepCounter s a0 a1).net = s.net ∧ (State.keepCounter s a0 a1).mbx = s.mbx ∧
    (State.keepCounter s a0 a1).power = s.power ∧ (State.keepCounter s a0 a1).limits = s.limits ∧ (State.keepCounter s a0 a1).fab = s.fab ∧
    (State.keepCounter s a0 a1).pair = s.pair ∧ (State.keepCounter s a0 a1).obs = s.obs ∧ (State.keepCounter s a0 a1).fw = s.fw ∧
    (State.keepCounter s a0 a1).integ = s.integ ∧ (State.keepCounter s a0 a1).board = s.board := by
  unfold State.keepCounter; simp

@[simp] theorem State.setPort_frame (s : State) (a0 : Nat) (a1 : PortState) :
    (State.setPort s a0 a1).now = s.now ∧ (State.setPort s a0 a1).resetAt = s.resetAt ∧ (State.setPort s a0 a1).pending = s.pending ∧
    (State.setPort s a0 a1).free = s.free ∧ (State.setPort s a0 a1).trace = s.trace ∧ (State.setPort s a0 a1).dict = s.dict ∧
    (State.setPort s a0 a1).dictOct = s.dictOct ∧ (State.setPort s a0 a1).regs = s.regs ∧ (State.setPort s a0 a1).d2dA = s.d2dA ∧
    (State.setPort s a0 a1).d2dB = s.d2dB ∧ (State.setPort s a0 a1).regions = s.regions ∧ (State.setPort s a0 a1).tide = s.tide ∧
    (State.setPort s a0 a1).hbm = s.hbm ∧ (State.setPort s a0 a1).pm = s.pm ∧ (State.setPort s a0 a1).paths = s.paths ∧
    (State.setPort s a0 a1).queues = s.queues ∧ (State.setPort s a0 a1).progs = s.progs ∧ (State.setPort s a0 a1).jobs = s.jobs ∧
    (State.setPort s a0 a1).nextId = s.nextId ∧ (State.setPort s a0 a1).nextBell = s.nextBell ∧ (State.setPort s a0 a1).kv = s.kv ∧
    (State.setPort s a0 a1).serving = s.serving ∧ (State.setPort s a0 a1).video = s.video ∧ (State.setPort s a0 a1).ctxs = s.ctxs ∧
    (State.setPort s a0 a1).config = s.config ∧ (State.setPort s a0 a1).dma = s.dma ∧ (State.setPort s a0 a1).dmaTurn = s.dmaTurn ∧
    (State.setPort s a0 a1).sched = s.sched ∧ (State.setPort s a0 a1).trust = s.trust ∧ (State.setPort s a0 a1).net = s.net ∧
    (State.setPort s a0 a1).mbx = s.mbx ∧ (State.setPort s a0 a1).power = s.power ∧ (State.setPort s a0 a1).limits = s.limits ∧
    (State.setPort s a0 a1).pair = s.pair ∧ (State.setPort s a0 a1).obs = s.obs ∧ (State.setPort s a0 a1).fw = s.fw ∧
    (State.setPort s a0 a1).journal = s.journal ∧ (State.setPort s a0 a1).integ = s.integ ∧ (State.setPort s a0 a1).board = s.board := by
  unfold State.setPort; simp

@[simp] theorem State.emitFlit_frame (s : State) (a0 : Nat) (a1 : Nat) (a2 : Nat) (a3 : Nat) (a4 : List Byte) :
    (State.emitFlit s a0 a1 a2 a3 a4).now = s.now ∧ (State.emitFlit s a0 a1 a2 a3 a4).resetAt = s.resetAt ∧
    (State.emitFlit s a0 a1 a2 a3 a4).pending = s.pending ∧ (State.emitFlit s a0 a1 a2 a3 a4).free = s.free ∧
    (State.emitFlit s a0 a1 a2 a3 a4).dict = s.dict ∧ (State.emitFlit s a0 a1 a2 a3 a4).dictOct = s.dictOct ∧
    (State.emitFlit s a0 a1 a2 a3 a4).regs = s.regs ∧ (State.emitFlit s a0 a1 a2 a3 a4).d2dA = s.d2dA ∧
    (State.emitFlit s a0 a1 a2 a3 a4).d2dB = s.d2dB ∧ (State.emitFlit s a0 a1 a2 a3 a4).regions = s.regions ∧
    (State.emitFlit s a0 a1 a2 a3 a4).tide = s.tide ∧ (State.emitFlit s a0 a1 a2 a3 a4).hbm = s.hbm ∧ (State.emitFlit s a0 a1 a2 a3 a4).pm = s.pm ∧
    (State.emitFlit s a0 a1 a2 a3 a4).paths = s.paths ∧ (State.emitFlit s a0 a1 a2 a3 a4).queues = s.queues ∧
    (State.emitFlit s a0 a1 a2 a3 a4).progs = s.progs ∧ (State.emitFlit s a0 a1 a2 a3 a4).jobs = s.jobs ∧
    (State.emitFlit s a0 a1 a2 a3 a4).nextId = s.nextId ∧ (State.emitFlit s a0 a1 a2 a3 a4).nextBell = s.nextBell ∧
    (State.emitFlit s a0 a1 a2 a3 a4).kv = s.kv ∧ (State.emitFlit s a0 a1 a2 a3 a4).serving = s.serving ∧
    (State.emitFlit s a0 a1 a2 a3 a4).video = s.video ∧ (State.emitFlit s a0 a1 a2 a3 a4).ctxs = s.ctxs ∧
    (State.emitFlit s a0 a1 a2 a3 a4).config = s.config ∧ (State.emitFlit s a0 a1 a2 a3 a4).dma = s.dma ∧
    (State.emitFlit s a0 a1 a2 a3 a4).dmaTurn = s.dmaTurn ∧ (State.emitFlit s a0 a1 a2 a3 a4).sched = s.sched ∧
    (State.emitFlit s a0 a1 a2 a3 a4).trust = s.trust ∧ (State.emitFlit s a0 a1 a2 a3 a4).net = s.net ∧
    (State.emitFlit s a0 a1 a2 a3 a4).mbx = s.mbx ∧ (State.emitFlit s a0 a1 a2 a3 a4).power = s.power ∧
    (State.emitFlit s a0 a1 a2 a3 a4).limits = s.limits ∧ (State.emitFlit s a0 a1 a2 a3 a4).pair = s.pair ∧
    (State.emitFlit s a0 a1 a2 a3 a4).obs = s.obs ∧ (State.emitFlit s a0 a1 a2 a3 a4).fw = s.fw ∧
    (State.emitFlit s a0 a1 a2 a3 a4).journal = s.journal ∧ (State.emitFlit s a0 a1 a2 a3 a4).integ = s.integ ∧
    (State.emitFlit s a0 a1 a2 a3 a4).board = s.board := by
  unfold State.emitFlit; simp

@[simp] theorem State.sendFlit_frame (s : State) (a0 : Nat) (a1 : Nat) (a2 : List Byte) :
    (State.sendFlit s a0 a1 a2).now = s.now ∧ (State.sendFlit s a0 a1 a2).resetAt = s.resetAt ∧ (State.sendFlit s a0 a1 a2).pending = s.pending ∧
    (State.sendFlit s a0 a1 a2).free = s.free ∧ (State.sendFlit s a0 a1 a2).dict = s.dict ∧ (State.sendFlit s a0 a1 a2).dictOct = s.dictOct ∧
    (State.sendFlit s a0 a1 a2).regs = s.regs ∧ (State.sendFlit s a0 a1 a2).d2dA = s.d2dA ∧ (State.sendFlit s a0 a1 a2).d2dB = s.d2dB ∧
    (State.sendFlit s a0 a1 a2).regions = s.regions ∧ (State.sendFlit s a0 a1 a2).tide = s.tide ∧ (State.sendFlit s a0 a1 a2).hbm = s.hbm ∧
    (State.sendFlit s a0 a1 a2).pm = s.pm ∧ (State.sendFlit s a0 a1 a2).paths = s.paths ∧ (State.sendFlit s a0 a1 a2).queues = s.queues ∧
    (State.sendFlit s a0 a1 a2).progs = s.progs ∧ (State.sendFlit s a0 a1 a2).jobs = s.jobs ∧ (State.sendFlit s a0 a1 a2).nextId = s.nextId ∧
    (State.sendFlit s a0 a1 a2).nextBell = s.nextBell ∧ (State.sendFlit s a0 a1 a2).kv = s.kv ∧ (State.sendFlit s a0 a1 a2).serving = s.serving ∧
    (State.sendFlit s a0 a1 a2).video = s.video ∧ (State.sendFlit s a0 a1 a2).ctxs = s.ctxs ∧ (State.sendFlit s a0 a1 a2).config = s.config ∧
    (State.sendFlit s a0 a1 a2).dma = s.dma ∧ (State.sendFlit s a0 a1 a2).dmaTurn = s.dmaTurn ∧ (State.sendFlit s a0 a1 a2).sched = s.sched ∧
    (State.sendFlit s a0 a1 a2).trust = s.trust ∧ (State.sendFlit s a0 a1 a2).net = s.net ∧ (State.sendFlit s a0 a1 a2).mbx = s.mbx ∧
    (State.sendFlit s a0 a1 a2).power = s.power ∧ (State.sendFlit s a0 a1 a2).limits = s.limits ∧ (State.sendFlit s a0 a1 a2).pair = s.pair ∧
    (State.sendFlit s a0 a1 a2).obs = s.obs ∧ (State.sendFlit s a0 a1 a2).fw = s.fw ∧ (State.sendFlit s a0 a1 a2).journal = s.journal ∧
    (State.sendFlit s a0 a1 a2).integ = s.integ ∧ (State.sendFlit s a0 a1 a2).board = s.board := by
  unfold State.sendFlit; split <;> and_intros <;> rfl

@[simp] theorem State.sendStop_frame (s : State) (a0 : Nat) :
    (State.sendStop s a0).now = s.now ∧ (State.sendStop s a0).resetAt = s.resetAt ∧ (State.sendStop s a0).pending = s.pending ∧
    (State.sendStop s a0).free = s.free ∧ (State.sendStop s a0).dict = s.dict ∧ (State.sendStop s a0).dictOct = s.dictOct ∧
    (State.sendStop s a0).regs = s.regs ∧ (State.sendStop s a0).d2dA = s.d2dA ∧ (State.sendStop s a0).d2dB = s.d2dB ∧
    (State.sendStop s a0).regions = s.regions ∧ (State.sendStop s a0).tide = s.tide ∧ (State.sendStop s a0).hbm = s.hbm ∧
    (State.sendStop s a0).pm = s.pm ∧ (State.sendStop s a0).paths = s.paths ∧ (State.sendStop s a0).queues = s.queues ∧
    (State.sendStop s a0).progs = s.progs ∧ (State.sendStop s a0).jobs = s.jobs ∧ (State.sendStop s a0).nextId = s.nextId ∧
    (State.sendStop s a0).nextBell = s.nextBell ∧ (State.sendStop s a0).kv = s.kv ∧ (State.sendStop s a0).serving = s.serving ∧
    (State.sendStop s a0).video = s.video ∧ (State.sendStop s a0).ctxs = s.ctxs ∧ (State.sendStop s a0).config = s.config ∧
    (State.sendStop s a0).dma = s.dma ∧ (State.sendStop s a0).dmaTurn = s.dmaTurn ∧ (State.sendStop s a0).sched = s.sched ∧
    (State.sendStop s a0).trust = s.trust ∧ (State.sendStop s a0).net = s.net ∧ (State.sendStop s a0).mbx = s.mbx ∧
    (State.sendStop s a0).power = s.power ∧ (State.sendStop s a0).limits = s.limits ∧ (State.sendStop s a0).pair = s.pair ∧
    (State.sendStop s a0).obs = s.obs ∧ (State.sendStop s a0).fw = s.fw ∧ (State.sendStop s a0).journal = s.journal ∧
    (State.sendStop s a0).integ = s.integ ∧ (State.sendStop s a0).board = s.board := by
  unfold State.sendStop; simp

@[simp] theorem State.foldl_sendStop_frame (s : State) (a0 : List Nat) :
    (a0.foldl State.sendStop s).now = s.now ∧ (a0.foldl State.sendStop s).resetAt = s.resetAt ∧ (a0.foldl State.sendStop s).pending = s.pending ∧
    (a0.foldl State.sendStop s).free = s.free ∧ (a0.foldl State.sendStop s).dict = s.dict ∧ (a0.foldl State.sendStop s).dictOct = s.dictOct ∧
    (a0.foldl State.sendStop s).regs = s.regs ∧ (a0.foldl State.sendStop s).d2dA = s.d2dA ∧ (a0.foldl State.sendStop s).d2dB = s.d2dB ∧
    (a0.foldl State.sendStop s).regions = s.regions ∧ (a0.foldl State.sendStop s).tide = s.tide ∧ (a0.foldl State.sendStop s).hbm = s.hbm ∧
    (a0.foldl State.sendStop s).pm = s.pm ∧ (a0.foldl State.sendStop s).paths = s.paths ∧ (a0.foldl State.sendStop s).queues = s.queues ∧
    (a0.foldl State.sendStop s).progs = s.progs ∧ (a0.foldl State.sendStop s).jobs = s.jobs ∧ (a0.foldl State.sendStop s).nextId = s.nextId ∧
    (a0.foldl State.sendStop s).nextBell = s.nextBell ∧ (a0.foldl State.sendStop s).kv = s.kv ∧ (a0.foldl State.sendStop s).serving = s.serving ∧
    (a0.foldl State.sendStop s).video = s.video ∧ (a0.foldl State.sendStop s).ctxs = s.ctxs ∧ (a0.foldl State.sendStop s).config = s.config ∧
    (a0.foldl State.sendStop s).dma = s.dma ∧ (a0.foldl State.sendStop s).dmaTurn = s.dmaTurn ∧ (a0.foldl State.sendStop s).sched = s.sched ∧
    (a0.foldl State.sendStop s).trust = s.trust ∧ (a0.foldl State.sendStop s).net = s.net ∧ (a0.foldl State.sendStop s).mbx = s.mbx ∧
    (a0.foldl State.sendStop s).power = s.power ∧ (a0.foldl State.sendStop s).limits = s.limits ∧ (a0.foldl State.sendStop s).pair = s.pair ∧
    (a0.foldl State.sendStop s).obs = s.obs ∧ (a0.foldl State.sendStop s).fw = s.fw ∧ (a0.foldl State.sendStop s).journal = s.journal ∧
    (a0.foldl State.sendStop s).integ = s.integ ∧ (a0.foldl State.sendStop s).board = s.board := by
  induction a0 generalizing s with
  | nil => and_intros <;> rfl
  | cons p ps ih => rw [List.foldl_cons]; simp [ih]

@[simp] theorem State.slackHold_frame (s : State) (a0 : Nat) (a1 : Nat) (a2 : Nat) (a3 : Option (BitVec 32 × BitVec 64)) :
    (State.slackHold s a0 a1 a2 a3).now = s.now ∧ (State.slackHold s a0 a1 a2 a3).resetAt = s.resetAt ∧
    (State.slackHold s a0 a1 a2 a3).pending = s.pending ∧ (State.slackHold s a0 a1 a2 a3).dictOct = s.dictOct ∧
    (State.slackHold s a0 a1 a2 a3).regs = s.regs ∧ (State.slackHold s a0 a1 a2 a3).d2dA = s.d2dA ∧ (State.slackHold s a0 a1 a2 a3).d2dB = s.d2dB ∧
    (State.slackHold s a0 a1 a2 a3).regions = s.regions ∧ (State.slackHold s a0 a1 a2 a3).tide = s.tide ∧
    (State.slackHold s a0 a1 a2 a3).hbm = s.hbm ∧ (State.slackHold s a0 a1 a2 a3).pm = s.pm ∧ (State.slackHold s a0 a1 a2 a3).paths = s.paths ∧
    (State.slackHold s a0 a1 a2 a3).queues = s.queues ∧ (State.slackHold s a0 a1 a2 a3).progs = s.progs ∧
    (State.slackHold s a0 a1 a2 a3).jobs = s.jobs ∧ (State.slackHold s a0 a1 a2 a3).nextId = s.nextId ∧
    (State.slackHold s a0 a1 a2 a3).nextBell = s.nextBell ∧ (State.slackHold s a0 a1 a2 a3).kv = s.kv ∧
    (State.slackHold s a0 a1 a2 a3).serving = s.serving ∧ (State.slackHold s a0 a1 a2 a3).video = s.video ∧
    (State.slackHold s a0 a1 a2 a3).ctxs = s.ctxs ∧ (State.slackHold s a0 a1 a2 a3).config = s.config ∧ (State.slackHold s a0 a1 a2 a3).dma = s.dma ∧
    (State.slackHold s a0 a1 a2 a3).dmaTurn = s.dmaTurn ∧ (State.slackHold s a0 a1 a2 a3).sched = s.sched ∧
    (State.slackHold s a0 a1 a2 a3).trust = s.trust ∧ (State.slackHold s a0 a1 a2 a3).net = s.net ∧ (State.slackHold s a0 a1 a2 a3).mbx = s.mbx ∧
    (State.slackHold s a0 a1 a2 a3).power = s.power ∧ (State.slackHold s a0 a1 a2 a3).limits = s.limits ∧
    (State.slackHold s a0 a1 a2 a3).pair = s.pair ∧ (State.slackHold s a0 a1 a2 a3).fw = s.fw ∧ (State.slackHold s a0 a1 a2 a3).journal = s.journal ∧
    (State.slackHold s a0 a1 a2 a3).integ = s.integ ∧ (State.slackHold s a0 a1 a2 a3).board = s.board := by
  unfold State.slackHold; simp

@[simp] theorem State.slackStop_frame (s : State) (a0 : Nat) :
    (State.slackStop s a0).now = s.now ∧ (State.slackStop s a0).resetAt = s.resetAt ∧ (State.slackStop s a0).pending = s.pending ∧
    (State.slackStop s a0).dictOct = s.dictOct ∧ (State.slackStop s a0).regs = s.regs ∧ (State.slackStop s a0).d2dA = s.d2dA ∧
    (State.slackStop s a0).d2dB = s.d2dB ∧ (State.slackStop s a0).regions = s.regions ∧ (State.slackStop s a0).tide = s.tide ∧
    (State.slackStop s a0).hbm = s.hbm ∧ (State.slackStop s a0).pm = s.pm ∧ (State.slackStop s a0).paths = s.paths ∧
    (State.slackStop s a0).queues = s.queues ∧ (State.slackStop s a0).progs = s.progs ∧ (State.slackStop s a0).jobs = s.jobs ∧
    (State.slackStop s a0).nextId = s.nextId ∧ (State.slackStop s a0).nextBell = s.nextBell ∧ (State.slackStop s a0).kv = s.kv ∧
    (State.slackStop s a0).serving = s.serving ∧ (State.slackStop s a0).video = s.video ∧ (State.slackStop s a0).ctxs = s.ctxs ∧
    (State.slackStop s a0).config = s.config ∧ (State.slackStop s a0).dma = s.dma ∧ (State.slackStop s a0).dmaTurn = s.dmaTurn ∧
    (State.slackStop s a0).sched = s.sched ∧ (State.slackStop s a0).trust = s.trust ∧ (State.slackStop s a0).net = s.net ∧
    (State.slackStop s a0).mbx = s.mbx ∧ (State.slackStop s a0).power = s.power ∧ (State.slackStop s a0).limits = s.limits ∧
    (State.slackStop s a0).pair = s.pair ∧ (State.slackStop s a0).fw = s.fw ∧ (State.slackStop s a0).journal = s.journal ∧
    (State.slackStop s a0).integ = s.integ ∧ (State.slackStop s a0).board = s.board := by
  unfold State.slackStop; split <;> and_intros <;> simp

@[simp] theorem State.count_frame (s : State) (a0 : Nat) (a1 : Option Nat) (a2 : Option Nat) (a3 : Nat) :
    (State.count s a0 a1 a2 a3).now = s.now ∧ (State.count s a0 a1 a2 a3).resetAt = s.resetAt ∧ (State.count s a0 a1 a2 a3).pending = s.pending ∧
    (State.count s a0 a1 a2 a3).dictOct = s.dictOct ∧ (State.count s a0 a1 a2 a3).regs = s.regs ∧ (State.count s a0 a1 a2 a3).d2dA = s.d2dA ∧
    (State.count s a0 a1 a2 a3).d2dB = s.d2dB ∧ (State.count s a0 a1 a2 a3).regions = s.regions ∧ (State.count s a0 a1 a2 a3).tide = s.tide ∧
    (State.count s a0 a1 a2 a3).hbm = s.hbm ∧ (State.count s a0 a1 a2 a3).pm = s.pm ∧ (State.count s a0 a1 a2 a3).paths = s.paths ∧
    (State.count s a0 a1 a2 a3).queues = s.queues ∧ (State.count s a0 a1 a2 a3).progs = s.progs ∧ (State.count s a0 a1 a2 a3).jobs = s.jobs ∧
    (State.count s a0 a1 a2 a3).nextId = s.nextId ∧ (State.count s a0 a1 a2 a3).nextBell = s.nextBell ∧ (State.count s a0 a1 a2 a3).kv = s.kv ∧
    (State.count s a0 a1 a2 a3).serving = s.serving ∧ (State.count s a0 a1 a2 a3).video = s.video ∧ (State.count s a0 a1 a2 a3).ctxs = s.ctxs ∧
    (State.count s a0 a1 a2 a3).config = s.config ∧ (State.count s a0 a1 a2 a3).dma = s.dma ∧ (State.count s a0 a1 a2 a3).dmaTurn = s.dmaTurn ∧
    (State.count s a0 a1 a2 a3).sched = s.sched ∧ (State.count s a0 a1 a2 a3).trust = s.trust ∧ (State.count s a0 a1 a2 a3).net = s.net ∧
    (State.count s a0 a1 a2 a3).mbx = s.mbx ∧ (State.count s a0 a1 a2 a3).power = s.power ∧ (State.count s a0 a1 a2 a3).limits = s.limits ∧
    (State.count s a0 a1 a2 a3).pair = s.pair ∧ (State.count s a0 a1 a2 a3).fw = s.fw ∧ (State.count s a0 a1 a2 a3).journal = s.journal ∧
    (State.count s a0 a1 a2 a3).integ = s.integ ∧ (State.count s a0 a1 a2 a3).board = s.board := by
  unfold State.count; dsimp only; split <;> simp

@[simp] theorem State.strand_frame (s : State) (a0 : Nat) (a1 : Nat) (a2 : Option Nat) (a3 : Nat) :
    (State.strand s a0 a1 a2 a3).now = s.now ∧ (State.strand s a0 a1 a2 a3).resetAt = s.resetAt ∧ (State.strand s a0 a1 a2 a3).pending = s.pending ∧
    (State.strand s a0 a1 a2 a3).dictOct = s.dictOct ∧ (State.strand s a0 a1 a2 a3).regs = s.regs ∧ (State.strand s a0 a1 a2 a3).d2dA = s.d2dA ∧
    (State.strand s a0 a1 a2 a3).d2dB = s.d2dB ∧ (State.strand s a0 a1 a2 a3).regions = s.regions ∧ (State.strand s a0 a1 a2 a3).tide = s.tide ∧
    (State.strand s a0 a1 a2 a3).hbm = s.hbm ∧ (State.strand s a0 a1 a2 a3).pm = s.pm ∧ (State.strand s a0 a1 a2 a3).paths = s.paths ∧
    (State.strand s a0 a1 a2 a3).queues = s.queues ∧ (State.strand s a0 a1 a2 a3).progs = s.progs ∧ (State.strand s a0 a1 a2 a3).jobs = s.jobs ∧
    (State.strand s a0 a1 a2 a3).nextId = s.nextId ∧ (State.strand s a0 a1 a2 a3).nextBell = s.nextBell ∧ (State.strand s a0 a1 a2 a3).kv = s.kv ∧
    (State.strand s a0 a1 a2 a3).serving = s.serving ∧ (State.strand s a0 a1 a2 a3).video = s.video ∧ (State.strand s a0 a1 a2 a3).ctxs = s.ctxs ∧
    (State.strand s a0 a1 a2 a3).config = s.config ∧ (State.strand s a0 a1 a2 a3).dma = s.dma ∧ (State.strand s a0 a1 a2 a3).dmaTurn = s.dmaTurn ∧
    (State.strand s a0 a1 a2 a3).sched = s.sched ∧ (State.strand s a0 a1 a2 a3).trust = s.trust ∧ (State.strand s a0 a1 a2 a3).net = s.net ∧
    (State.strand s a0 a1 a2 a3).mbx = s.mbx ∧ (State.strand s a0 a1 a2 a3).power = s.power ∧ (State.strand s a0 a1 a2 a3).limits = s.limits ∧
    (State.strand s a0 a1 a2 a3).pair = s.pair ∧ (State.strand s a0 a1 a2 a3).fw = s.fw ∧ (State.strand s a0 a1 a2 a3).journal = s.journal ∧
    (State.strand s a0 a1 a2 a3).integ = s.integ ∧ (State.strand s a0 a1 a2 a3).board = s.board := by
  unfold State.strand; dsimp only; split <;> (try split) <;> simp

@[simp] theorem State.observe_frame (s : State) :
    (State.observe s).now = s.now ∧ (State.observe s).resetAt = s.resetAt ∧ (State.observe s).pending = s.pending ∧
    (State.observe s).dictOct = s.dictOct ∧ (State.observe s).regs = s.regs ∧ (State.observe s).d2dA = s.d2dA ∧ (State.observe s).d2dB = s.d2dB ∧
    (State.observe s).regions = s.regions ∧ (State.observe s).tide = s.tide ∧ (State.observe s).hbm = s.hbm ∧ (State.observe s).pm = s.pm ∧
    (State.observe s).paths = s.paths ∧ (State.observe s).queues = s.queues ∧ (State.observe s).progs = s.progs ∧ (State.observe s).jobs = s.jobs ∧
    (State.observe s).nextId = s.nextId ∧ (State.observe s).nextBell = s.nextBell ∧ (State.observe s).kv = s.kv ∧
    (State.observe s).serving = s.serving ∧ (State.observe s).video = s.video ∧ (State.observe s).ctxs = s.ctxs ∧
    (State.observe s).config = s.config ∧ (State.observe s).dma = s.dma ∧ (State.observe s).dmaTurn = s.dmaTurn ∧ (State.observe s).sched = s.sched ∧
    (State.observe s).trust = s.trust ∧ (State.observe s).net = s.net ∧ (State.observe s).mbx = s.mbx ∧ (State.observe s).power = s.power ∧
    (State.observe s).limits = s.limits ∧ (State.observe s).pair = s.pair ∧ (State.observe s).fw = s.fw ∧ (State.observe s).journal = s.journal ∧
    (State.observe s).integ = s.integ ∧ (State.observe s).board = s.board := by
  unfold State.observe; dsimp only; split <;> (try split) <;> simp

@[simp] theorem State.pathDone_frame (s : State) (a0 : Nat) (a1 : Nat) (a2 : Status) (a3 : Option (BitVec 64)) :
    (State.pathDone s a0 a1 a2 a3).now = s.now ∧ (State.pathDone s a0 a1 a2 a3).resetAt = s.resetAt ∧
    (State.pathDone s a0 a1 a2 a3).pending = s.pending ∧ (State.pathDone s a0 a1 a2 a3).free = s.free ∧
    (State.pathDone s a0 a1 a2 a3).trace = s.trace ∧ (State.pathDone s a0 a1 a2 a3).dict = s.dict ∧
    (State.pathDone s a0 a1 a2 a3).dictOct = s.dictOct ∧ (State.pathDone s a0 a1 a2 a3).regs = s.regs ∧ (State.pathDone s a0 a1 a2 a3).d2dA = s.d2dA ∧
    (State.pathDone s a0 a1 a2 a3).d2dB = s.d2dB ∧ (State.pathDone s a0 a1 a2 a3).regions = s.regions ∧ (State.pathDone s a0 a1 a2 a3).tide = s.tide ∧
    (State.pathDone s a0 a1 a2 a3).hbm = s.hbm ∧ (State.pathDone s a0 a1 a2 a3).pm = s.pm ∧ (State.pathDone s a0 a1 a2 a3).queues = s.queues ∧
    (State.pathDone s a0 a1 a2 a3).progs = s.progs ∧ (State.pathDone s a0 a1 a2 a3).jobs = s.jobs ∧ (State.pathDone s a0 a1 a2 a3).nextId = s.nextId ∧
    (State.pathDone s a0 a1 a2 a3).nextBell = s.nextBell ∧ (State.pathDone s a0 a1 a2 a3).kv = s.kv ∧
    (State.pathDone s a0 a1 a2 a3).serving = s.serving ∧ (State.pathDone s a0 a1 a2 a3).video = s.video ∧
    (State.pathDone s a0 a1 a2 a3).ctxs = s.ctxs ∧ (State.pathDone s a0 a1 a2 a3).config = s.config ∧ (State.pathDone s a0 a1 a2 a3).dma = s.dma ∧
    (State.pathDone s a0 a1 a2 a3).dmaTurn = s.dmaTurn ∧ (State.pathDone s a0 a1 a2 a3).sched = s.sched ∧
    (State.pathDone s a0 a1 a2 a3).trust = s.trust ∧ (State.pathDone s a0 a1 a2 a3).net = s.net ∧ (State.pathDone s a0 a1 a2 a3).mbx = s.mbx ∧
    (State.pathDone s a0 a1 a2 a3).power = s.power ∧ (State.pathDone s a0 a1 a2 a3).limits = s.limits ∧ (State.pathDone s a0 a1 a2 a3).fab = s.fab ∧
    (State.pathDone s a0 a1 a2 a3).pair = s.pair ∧ (State.pathDone s a0 a1 a2 a3).obs = s.obs ∧ (State.pathDone s a0 a1 a2 a3).fw = s.fw ∧
    (State.pathDone s a0 a1 a2 a3).journal = s.journal ∧ (State.pathDone s a0 a1 a2 a3).integ = s.integ ∧
    (State.pathDone s a0 a1 a2 a3).board = s.board := by
  unfold State.pathDone; simp

@[simp] theorem State.setQueue_frame (s : State) (a0 : Nat) (a1 : Nat) (a2 : QueueState) :
    (State.setQueue s a0 a1 a2).now = s.now ∧ (State.setQueue s a0 a1 a2).resetAt = s.resetAt ∧ (State.setQueue s a0 a1 a2).pending = s.pending ∧
    (State.setQueue s a0 a1 a2).free = s.free ∧ (State.setQueue s a0 a1 a2).trace = s.trace ∧ (State.setQueue s a0 a1 a2).dict = s.dict ∧
    (State.setQueue s a0 a1 a2).dictOct = s.dictOct ∧ (State.setQueue s a0 a1 a2).regs = s.regs ∧ (State.setQueue s a0 a1 a2).d2dA = s.d2dA ∧
    (State.setQueue s a0 a1 a2).d2dB = s.d2dB ∧ (State.setQueue s a0 a1 a2).regions = s.regions ∧ (State.setQueue s a0 a1 a2).tide = s.tide ∧
    (State.setQueue s a0 a1 a2).hbm = s.hbm ∧ (State.setQueue s a0 a1 a2).pm = s.pm ∧ (State.setQueue s a0 a1 a2).paths = s.paths ∧
    (State.setQueue s a0 a1 a2).progs = s.progs ∧ (State.setQueue s a0 a1 a2).jobs = s.jobs ∧ (State.setQueue s a0 a1 a2).nextId = s.nextId ∧
    (State.setQueue s a0 a1 a2).nextBell = s.nextBell ∧ (State.setQueue s a0 a1 a2).kv = s.kv ∧ (State.setQueue s a0 a1 a2).serving = s.serving ∧
    (State.setQueue s a0 a1 a2).video = s.video ∧ (State.setQueue s a0 a1 a2).ctxs = s.ctxs ∧ (State.setQueue s a0 a1 a2).config = s.config ∧
    (State.setQueue s a0 a1 a2).dma = s.dma ∧ (State.setQueue s a0 a1 a2).dmaTurn = s.dmaTurn ∧ (State.setQueue s a0 a1 a2).sched = s.sched ∧
    (State.setQueue s a0 a1 a2).trust = s.trust ∧ (State.setQueue s a0 a1 a2).net = s.net ∧ (State.setQueue s a0 a1 a2).mbx = s.mbx ∧
    (State.setQueue s a0 a1 a2).power = s.power ∧ (State.setQueue s a0 a1 a2).limits = s.limits ∧ (State.setQueue s a0 a1 a2).fab = s.fab ∧
    (State.setQueue s a0 a1 a2).pair = s.pair ∧ (State.setQueue s a0 a1 a2).obs = s.obs ∧ (State.setQueue s a0 a1 a2).fw = s.fw ∧
    (State.setQueue s a0 a1 a2).journal = s.journal ∧ (State.setQueue s a0 a1 a2).integ = s.integ ∧ (State.setQueue s a0 a1 a2).board = s.board := by
  unfold State.setQueue; simp

@[simp] theorem State.startEntry_frame (s : State) (a0 : Nat) (a1 : Nat) (a2 : Nat) (a3 : EntryPhase) :
    (State.startEntry s a0 a1 a2 a3).now = s.now ∧ (State.startEntry s a0 a1 a2 a3).resetAt = s.resetAt ∧
    (State.startEntry s a0 a1 a2 a3).pending = s.pending ∧ (State.startEntry s a0 a1 a2 a3).free = s.free ∧
    (State.startEntry s a0 a1 a2 a3).trace = s.trace ∧ (State.startEntry s a0 a1 a2 a3).dict = s.dict ∧
    (State.startEntry s a0 a1 a2 a3).dictOct = s.dictOct ∧ (State.startEntry s a0 a1 a2 a3).regs = s.regs ∧
    (State.startEntry s a0 a1 a2 a3).d2dA = s.d2dA ∧ (State.startEntry s a0 a1 a2 a3).d2dB = s.d2dB ∧
    (State.startEntry s a0 a1 a2 a3).regions = s.regions ∧ (State.startEntry s a0 a1 a2 a3).tide = s.tide ∧
    (State.startEntry s a0 a1 a2 a3).hbm = s.hbm ∧ (State.startEntry s a0 a1 a2 a3).pm = s.pm ∧ (State.startEntry s a0 a1 a2 a3).paths = s.paths ∧
    (State.startEntry s a0 a1 a2 a3).progs = s.progs ∧ (State.startEntry s a0 a1 a2 a3).jobs = s.jobs ∧
    (State.startEntry s a0 a1 a2 a3).nextId = s.nextId ∧ (State.startEntry s a0 a1 a2 a3).nextBell = s.nextBell ∧
    (State.startEntry s a0 a1 a2 a3).kv = s.kv ∧ (State.startEntry s a0 a1 a2 a3).serving = s.serving ∧
    (State.startEntry s a0 a1 a2 a3).video = s.video ∧ (State.startEntry s a0 a1 a2 a3).ctxs = s.ctxs ∧
    (State.startEntry s a0 a1 a2 a3).config = s.config ∧ (State.startEntry s a0 a1 a2 a3).dma = s.dma ∧
    (State.startEntry s a0 a1 a2 a3).dmaTurn = s.dmaTurn ∧ (State.startEntry s a0 a1 a2 a3).sched = s.sched ∧
    (State.startEntry s a0 a1 a2 a3).trust = s.trust ∧ (State.startEntry s a0 a1 a2 a3).net = s.net ∧ (State.startEntry s a0 a1 a2 a3).mbx = s.mbx ∧
    (State.startEntry s a0 a1 a2 a3).power = s.power ∧ (State.startEntry s a0 a1 a2 a3).limits = s.limits ∧
    (State.startEntry s a0 a1 a2 a3).fab = s.fab ∧ (State.startEntry s a0 a1 a2 a3).pair = s.pair ∧ (State.startEntry s a0 a1 a2 a3).obs = s.obs ∧
    (State.startEntry s a0 a1 a2 a3).fw = s.fw ∧ (State.startEntry s a0 a1 a2 a3).journal = s.journal ∧
    (State.startEntry s a0 a1 a2 a3).integ = s.integ ∧ (State.startEntry s a0 a1 a2 a3).board = s.board := by
  unfold State.startEntry; simp

@[simp] theorem State.completeEntry_frame (s : State) (a0 : Nat) (a1 : Nat) (a2 : Nat) (a3 : Status) (a4 : BitVec 32) (a5 : optParam (BitVec 8) 0) (a6 : optParam (BitVec 8) 0) (a7 : optParam Nat 0) (a8 : optParam (Option QEntry) none) :
    (State.completeEntry s a0 a1 a2 a3 a4 a5 a6 a7 a8).now = s.now ∧ (State.completeEntry s a0 a1 a2 a3 a4 a5 a6 a7 a8).resetAt = s.resetAt ∧
    (State.completeEntry s a0 a1 a2 a3 a4 a5 a6 a7 a8).pending = s.pending ∧ (State.completeEntry s a0 a1 a2 a3 a4 a5 a6 a7 a8).free = s.free ∧
    (State.completeEntry s a0 a1 a2 a3 a4 a5 a6 a7 a8).trace = s.trace ∧ (State.completeEntry s a0 a1 a2 a3 a4 a5 a6 a7 a8).dict = s.dict ∧
    (State.completeEntry s a0 a1 a2 a3 a4 a5 a6 a7 a8).dictOct = s.dictOct ∧ (State.completeEntry s a0 a1 a2 a3 a4 a5 a6 a7 a8).regs = s.regs ∧
    (State.completeEntry s a0 a1 a2 a3 a4 a5 a6 a7 a8).d2dA = s.d2dA ∧ (State.completeEntry s a0 a1 a2 a3 a4 a5 a6 a7 a8).d2dB = s.d2dB ∧
    (State.completeEntry s a0 a1 a2 a3 a4 a5 a6 a7 a8).regions = s.regions ∧ (State.completeEntry s a0 a1 a2 a3 a4 a5 a6 a7 a8).tide = s.tide ∧
    (State.completeEntry s a0 a1 a2 a3 a4 a5 a6 a7 a8).hbm = s.hbm ∧ (State.completeEntry s a0 a1 a2 a3 a4 a5 a6 a7 a8).pm = s.pm ∧
    (State.completeEntry s a0 a1 a2 a3 a4 a5 a6 a7 a8).paths = s.paths ∧ (State.completeEntry s a0 a1 a2 a3 a4 a5 a6 a7 a8).progs = s.progs ∧
    (State.completeEntry s a0 a1 a2 a3 a4 a5 a6 a7 a8).jobs = s.jobs ∧ (State.completeEntry s a0 a1 a2 a3 a4 a5 a6 a7 a8).nextId = s.nextId ∧
    (State.completeEntry s a0 a1 a2 a3 a4 a5 a6 a7 a8).nextBell = s.nextBell ∧ (State.completeEntry s a0 a1 a2 a3 a4 a5 a6 a7 a8).kv = s.kv ∧
    (State.completeEntry s a0 a1 a2 a3 a4 a5 a6 a7 a8).serving = s.serving ∧ (State.completeEntry s a0 a1 a2 a3 a4 a5 a6 a7 a8).video = s.video ∧
    (State.completeEntry s a0 a1 a2 a3 a4 a5 a6 a7 a8).ctxs = s.ctxs ∧ (State.completeEntry s a0 a1 a2 a3 a4 a5 a6 a7 a8).config = s.config ∧
    (State.completeEntry s a0 a1 a2 a3 a4 a5 a6 a7 a8).dma = s.dma ∧ (State.completeEntry s a0 a1 a2 a3 a4 a5 a6 a7 a8).dmaTurn = s.dmaTurn ∧
    (State.completeEntry s a0 a1 a2 a3 a4 a5 a6 a7 a8).sched = s.sched ∧ (State.completeEntry s a0 a1 a2 a3 a4 a5 a6 a7 a8).trust = s.trust ∧
    (State.completeEntry s a0 a1 a2 a3 a4 a5 a6 a7 a8).net = s.net ∧ (State.completeEntry s a0 a1 a2 a3 a4 a5 a6 a7 a8).mbx = s.mbx ∧
    (State.completeEntry s a0 a1 a2 a3 a4 a5 a6 a7 a8).power = s.power ∧ (State.completeEntry s a0 a1 a2 a3 a4 a5 a6 a7 a8).limits = s.limits ∧
    (State.completeEntry s a0 a1 a2 a3 a4 a5 a6 a7 a8).fab = s.fab ∧ (State.completeEntry s a0 a1 a2 a3 a4 a5 a6 a7 a8).pair = s.pair ∧
    (State.completeEntry s a0 a1 a2 a3 a4 a5 a6 a7 a8).obs = s.obs ∧ (State.completeEntry s a0 a1 a2 a3 a4 a5 a6 a7 a8).fw = s.fw ∧
    (State.completeEntry s a0 a1 a2 a3 a4 a5 a6 a7 a8).journal = s.journal ∧ (State.completeEntry s a0 a1 a2 a3 a4 a5 a6 a7 a8).integ = s.integ ∧
    (State.completeEntry s a0 a1 a2 a3 a4 a5 a6 a7 a8).board = s.board := by
  unfold State.completeEntry; dsimp only; split <;> simp

@[simp] theorem State.runEntry_frame (s : State) (a0 : Nat) (a1 : Nat) (a2 : QEntry) (a3 : Status) (a4 : BitVec 32) :
    (State.runEntry s a0 a1 a2 a3 a4).now = s.now ∧ (State.runEntry s a0 a1 a2 a3 a4).resetAt = s.resetAt ∧
    (State.runEntry s a0 a1 a2 a3 a4).pending = s.pending ∧ (State.runEntry s a0 a1 a2 a3 a4).free = s.free ∧
    (State.runEntry s a0 a1 a2 a3 a4).trace = s.trace ∧ (State.runEntry s a0 a1 a2 a3 a4).dict = s.dict ∧
    (State.runEntry s a0 a1 a2 a3 a4).dictOct = s.dictOct ∧ (State.runEntry s a0 a1 a2 a3 a4).regs = s.regs ∧
    (State.runEntry s a0 a1 a2 a3 a4).d2dA = s.d2dA ∧ (State.runEntry s a0 a1 a2 a3 a4).d2dB = s.d2dB ∧
    (State.runEntry s a0 a1 a2 a3 a4).regions = s.regions ∧ (State.runEntry s a0 a1 a2 a3 a4).tide = s.tide ∧
    (State.runEntry s a0 a1 a2 a3 a4).hbm = s.hbm ∧ (State.runEntry s a0 a1 a2 a3 a4).pm = s.pm ∧ (State.runEntry s a0 a1 a2 a3 a4).paths = s.paths ∧
    (State.runEntry s a0 a1 a2 a3 a4).progs = s.progs ∧ (State.runEntry s a0 a1 a2 a3 a4).jobs = s.jobs ∧
    (State.runEntry s a0 a1 a2 a3 a4).nextId = s.nextId ∧ (State.runEntry s a0 a1 a2 a3 a4).nextBell = s.nextBell ∧
    (State.runEntry s a0 a1 a2 a3 a4).kv = s.kv ∧ (State.runEntry s a0 a1 a2 a3 a4).serving = s.serving ∧
    (State.runEntry s a0 a1 a2 a3 a4).video = s.video ∧ (State.runEntry s a0 a1 a2 a3 a4).ctxs = s.ctxs ∧
    (State.runEntry s a0 a1 a2 a3 a4).config = s.config ∧ (State.runEntry s a0 a1 a2 a3 a4).dma = s.dma ∧
    (State.runEntry s a0 a1 a2 a3 a4).dmaTurn = s.dmaTurn ∧ (State.runEntry s a0 a1 a2 a3 a4).sched = s.sched ∧
    (State.runEntry s a0 a1 a2 a3 a4).trust = s.trust ∧ (State.runEntry s a0 a1 a2 a3 a4).net = s.net ∧
    (State.runEntry s a0 a1 a2 a3 a4).mbx = s.mbx ∧ (State.runEntry s a0 a1 a2 a3 a4).power = s.power ∧
    (State.runEntry s a0 a1 a2 a3 a4).limits = s.limits ∧ (State.runEntry s a0 a1 a2 a3 a4).fab = s.fab ∧
    (State.runEntry s a0 a1 a2 a3 a4).pair = s.pair ∧ (State.runEntry s a0 a1 a2 a3 a4).obs = s.obs ∧ (State.runEntry s a0 a1 a2 a3 a4).fw = s.fw ∧
    (State.runEntry s a0 a1 a2 a3 a4).journal = s.journal ∧ (State.runEntry s a0 a1 a2 a3 a4).integ = s.integ ∧
    (State.runEntry s a0 a1 a2 a3 a4).board = s.board := by
  unfold State.runEntry; simp

@[simp] theorem State.setCtx_frame (s : State) (a0 : Nat) (a1 : Context) :
    (State.setCtx s a0 a1).now = s.now ∧ (State.setCtx s a0 a1).resetAt = s.resetAt ∧ (State.setCtx s a0 a1).pending = s.pending ∧
    (State.setCtx s a0 a1).free = s.free ∧ (State.setCtx s a0 a1).trace = s.trace ∧ (State.setCtx s a0 a1).dict = s.dict ∧
    (State.setCtx s a0 a1).dictOct = s.dictOct ∧ (State.setCtx s a0 a1).regs = s.regs ∧ (State.setCtx s a0 a1).d2dA = s.d2dA ∧
    (State.setCtx s a0 a1).d2dB = s.d2dB ∧ (State.setCtx s a0 a1).regions = s.regions ∧ (State.setCtx s a0 a1).tide = s.tide ∧
    (State.setCtx s a0 a1).hbm = s.hbm ∧ (State.setCtx s a0 a1).pm = s.pm ∧ (State.setCtx s a0 a1).paths = s.paths ∧
    (State.setCtx s a0 a1).queues = s.queues ∧ (State.setCtx s a0 a1).progs = s.progs ∧ (State.setCtx s a0 a1).jobs = s.jobs ∧
    (State.setCtx s a0 a1).nextId = s.nextId ∧ (State.setCtx s a0 a1).nextBell = s.nextBell ∧ (State.setCtx s a0 a1).kv = s.kv ∧
    (State.setCtx s a0 a1).serving = s.serving ∧ (State.setCtx s a0 a1).video = s.video ∧ (State.setCtx s a0 a1).config = s.config ∧
    (State.setCtx s a0 a1).dma = s.dma ∧ (State.setCtx s a0 a1).dmaTurn = s.dmaTurn ∧ (State.setCtx s a0 a1).sched = s.sched ∧
    (State.setCtx s a0 a1).trust = s.trust ∧ (State.setCtx s a0 a1).net = s.net ∧ (State.setCtx s a0 a1).mbx = s.mbx ∧
    (State.setCtx s a0 a1).power = s.power ∧ (State.setCtx s a0 a1).limits = s.limits ∧ (State.setCtx s a0 a1).fab = s.fab ∧
    (State.setCtx s a0 a1).pair = s.pair ∧ (State.setCtx s a0 a1).obs = s.obs ∧ (State.setCtx s a0 a1).fw = s.fw ∧
    (State.setCtx s a0 a1).journal = s.journal ∧ (State.setCtx s a0 a1).integ = s.integ ∧ (State.setCtx s a0 a1).board = s.board := by
  unfold State.setCtx; simp

@[simp] theorem State.setBoard_frame (s : State) (a0 : Board) :
    (State.setBoard s a0).now = s.now ∧ (State.setBoard s a0).resetAt = s.resetAt ∧ (State.setBoard s a0).pending = s.pending ∧
    (State.setBoard s a0).free = s.free ∧ (State.setBoard s a0).trace = s.trace ∧ (State.setBoard s a0).dict = s.dict ∧
    (State.setBoard s a0).dictOct = s.dictOct ∧ (State.setBoard s a0).regs = s.regs ∧ (State.setBoard s a0).d2dA = s.d2dA ∧
    (State.setBoard s a0).d2dB = s.d2dB ∧ (State.setBoard s a0).regions = s.regions ∧ (State.setBoard s a0).tide = s.tide ∧
    (State.setBoard s a0).hbm = s.hbm ∧ (State.setBoard s a0).pm = s.pm ∧ (State.setBoard s a0).paths = s.paths ∧
    (State.setBoard s a0).queues = s.queues ∧ (State.setBoard s a0).progs = s.progs ∧ (State.setBoard s a0).jobs = s.jobs ∧
    (State.setBoard s a0).nextId = s.nextId ∧ (State.setBoard s a0).nextBell = s.nextBell ∧ (State.setBoard s a0).kv = s.kv ∧
    (State.setBoard s a0).serving = s.serving ∧ (State.setBoard s a0).video = s.video ∧ (State.setBoard s a0).ctxs = s.ctxs ∧
    (State.setBoard s a0).config = s.config ∧ (State.setBoard s a0).dma = s.dma ∧ (State.setBoard s a0).dmaTurn = s.dmaTurn ∧
    (State.setBoard s a0).sched = s.sched ∧ (State.setBoard s a0).trust = s.trust ∧ (State.setBoard s a0).net = s.net ∧
    (State.setBoard s a0).mbx = s.mbx ∧ (State.setBoard s a0).power = s.power ∧ (State.setBoard s a0).limits = s.limits ∧
    (State.setBoard s a0).fab = s.fab ∧ (State.setBoard s a0).pair = s.pair ∧ (State.setBoard s a0).obs = s.obs ∧ (State.setBoard s a0).fw = s.fw ∧
    (State.setBoard s a0).journal = s.journal ∧ (State.setBoard s a0).integ = s.integ := by
  unfold State.setBoard; simp

@[simp] theorem State.setRing_frame (s : State) (a0 : Nat) (a1 : DmaRing) :
    (State.setRing s a0 a1).now = s.now ∧ (State.setRing s a0 a1).resetAt = s.resetAt ∧ (State.setRing s a0 a1).pending = s.pending ∧
    (State.setRing s a0 a1).free = s.free ∧ (State.setRing s a0 a1).trace = s.trace ∧ (State.setRing s a0 a1).dict = s.dict ∧
    (State.setRing s a0 a1).dictOct = s.dictOct ∧ (State.setRing s a0 a1).regs = s.regs ∧ (State.setRing s a0 a1).d2dA = s.d2dA ∧
    (State.setRing s a0 a1).d2dB = s.d2dB ∧ (State.setRing s a0 a1).regions = s.regions ∧ (State.setRing s a0 a1).tide = s.tide ∧
    (State.setRing s a0 a1).hbm = s.hbm ∧ (State.setRing s a0 a1).pm = s.pm ∧ (State.setRing s a0 a1).paths = s.paths ∧
    (State.setRing s a0 a1).queues = s.queues ∧ (State.setRing s a0 a1).progs = s.progs ∧ (State.setRing s a0 a1).jobs = s.jobs ∧
    (State.setRing s a0 a1).nextId = s.nextId ∧ (State.setRing s a0 a1).nextBell = s.nextBell ∧ (State.setRing s a0 a1).kv = s.kv ∧
    (State.setRing s a0 a1).serving = s.serving ∧ (State.setRing s a0 a1).video = s.video ∧ (State.setRing s a0 a1).ctxs = s.ctxs ∧
    (State.setRing s a0 a1).config = s.config ∧ (State.setRing s a0 a1).dmaTurn = s.dmaTurn ∧ (State.setRing s a0 a1).sched = s.sched ∧
    (State.setRing s a0 a1).trust = s.trust ∧ (State.setRing s a0 a1).net = s.net ∧ (State.setRing s a0 a1).mbx = s.mbx ∧
    (State.setRing s a0 a1).power = s.power ∧ (State.setRing s a0 a1).limits = s.limits ∧ (State.setRing s a0 a1).fab = s.fab ∧
    (State.setRing s a0 a1).pair = s.pair ∧ (State.setRing s a0 a1).obs = s.obs ∧ (State.setRing s a0 a1).fw = s.fw ∧
    (State.setRing s a0 a1).journal = s.journal ∧ (State.setRing s a0 a1).integ = s.integ ∧ (State.setRing s a0 a1).board = s.board := by
  unfold State.setRing; simp

@[simp] theorem State.setSnap_frame (s : State) (a0 : Nat) (a1 : SnapBank) :
    (State.setSnap s a0 a1).now = s.now ∧ (State.setSnap s a0 a1).resetAt = s.resetAt ∧ (State.setSnap s a0 a1).pending = s.pending ∧
    (State.setSnap s a0 a1).free = s.free ∧ (State.setSnap s a0 a1).trace = s.trace ∧ (State.setSnap s a0 a1).dict = s.dict ∧
    (State.setSnap s a0 a1).dictOct = s.dictOct ∧ (State.setSnap s a0 a1).regs = s.regs ∧ (State.setSnap s a0 a1).d2dA = s.d2dA ∧
    (State.setSnap s a0 a1).d2dB = s.d2dB ∧ (State.setSnap s a0 a1).regions = s.regions ∧ (State.setSnap s a0 a1).tide = s.tide ∧
    (State.setSnap s a0 a1).hbm = s.hbm ∧ (State.setSnap s a0 a1).pm = s.pm ∧ (State.setSnap s a0 a1).paths = s.paths ∧
    (State.setSnap s a0 a1).queues = s.queues ∧ (State.setSnap s a0 a1).progs = s.progs ∧ (State.setSnap s a0 a1).jobs = s.jobs ∧
    (State.setSnap s a0 a1).nextId = s.nextId ∧ (State.setSnap s a0 a1).nextBell = s.nextBell ∧ (State.setSnap s a0 a1).kv = s.kv ∧
    (State.setSnap s a0 a1).serving = s.serving ∧ (State.setSnap s a0 a1).video = s.video ∧ (State.setSnap s a0 a1).ctxs = s.ctxs ∧
    (State.setSnap s a0 a1).config = s.config ∧ (State.setSnap s a0 a1).dma = s.dma ∧ (State.setSnap s a0 a1).dmaTurn = s.dmaTurn ∧
    (State.setSnap s a0 a1).sched = s.sched ∧ (State.setSnap s a0 a1).trust = s.trust ∧ (State.setSnap s a0 a1).net = s.net ∧
    (State.setSnap s a0 a1).mbx = s.mbx ∧ (State.setSnap s a0 a1).power = s.power ∧ (State.setSnap s a0 a1).limits = s.limits ∧
    (State.setSnap s a0 a1).fab = s.fab ∧ (State.setSnap s a0 a1).pair = s.pair ∧ (State.setSnap s a0 a1).fw = s.fw ∧
    (State.setSnap s a0 a1).journal = s.journal ∧ (State.setSnap s a0 a1).integ = s.integ ∧ (State.setSnap s a0 a1).board = s.board := by
  unfold State.setSnap; simp

@[simp] theorem State.setSlack_frame (s : State) (a0 : Slack) :
    (State.setSlack s a0).now = s.now ∧ (State.setSlack s a0).resetAt = s.resetAt ∧ (State.setSlack s a0).pending = s.pending ∧
    (State.setSlack s a0).free = s.free ∧ (State.setSlack s a0).trace = s.trace ∧ (State.setSlack s a0).dict = s.dict ∧
    (State.setSlack s a0).dictOct = s.dictOct ∧ (State.setSlack s a0).regs = s.regs ∧ (State.setSlack s a0).d2dA = s.d2dA ∧
    (State.setSlack s a0).d2dB = s.d2dB ∧ (State.setSlack s a0).regions = s.regions ∧ (State.setSlack s a0).tide = s.tide ∧
    (State.setSlack s a0).hbm = s.hbm ∧ (State.setSlack s a0).pm = s.pm ∧ (State.setSlack s a0).paths = s.paths ∧
    (State.setSlack s a0).queues = s.queues ∧ (State.setSlack s a0).progs = s.progs ∧ (State.setSlack s a0).jobs = s.jobs ∧
    (State.setSlack s a0).nextId = s.nextId ∧ (State.setSlack s a0).nextBell = s.nextBell ∧ (State.setSlack s a0).kv = s.kv ∧
    (State.setSlack s a0).serving = s.serving ∧ (State.setSlack s a0).video = s.video ∧ (State.setSlack s a0).ctxs = s.ctxs ∧
    (State.setSlack s a0).config = s.config ∧ (State.setSlack s a0).dma = s.dma ∧ (State.setSlack s a0).dmaTurn = s.dmaTurn ∧
    (State.setSlack s a0).sched = s.sched ∧ (State.setSlack s a0).trust = s.trust ∧ (State.setSlack s a0).net = s.net ∧
    (State.setSlack s a0).mbx = s.mbx ∧ (State.setSlack s a0).power = s.power ∧ (State.setSlack s a0).limits = s.limits ∧
    (State.setSlack s a0).fab = s.fab ∧ (State.setSlack s a0).pair = s.pair ∧ (State.setSlack s a0).fw = s.fw ∧
    (State.setSlack s a0).journal = s.journal ∧ (State.setSlack s a0).integ = s.integ ∧ (State.setSlack s a0).board = s.board := by
  unfold State.setSlack; simp

@[simp] theorem State.setChannel_frame (s : State) (a0 : Nat) (a1 : MbxChannel) :
    (State.setChannel s a0 a1).now = s.now ∧ (State.setChannel s a0 a1).resetAt = s.resetAt ∧ (State.setChannel s a0 a1).pending = s.pending ∧
    (State.setChannel s a0 a1).free = s.free ∧ (State.setChannel s a0 a1).trace = s.trace ∧ (State.setChannel s a0 a1).dict = s.dict ∧
    (State.setChannel s a0 a1).dictOct = s.dictOct ∧ (State.setChannel s a0 a1).regs = s.regs ∧ (State.setChannel s a0 a1).d2dA = s.d2dA ∧
    (State.setChannel s a0 a1).d2dB = s.d2dB ∧ (State.setChannel s a0 a1).regions = s.regions ∧ (State.setChannel s a0 a1).tide = s.tide ∧
    (State.setChannel s a0 a1).hbm = s.hbm ∧ (State.setChannel s a0 a1).pm = s.pm ∧ (State.setChannel s a0 a1).paths = s.paths ∧
    (State.setChannel s a0 a1).queues = s.queues ∧ (State.setChannel s a0 a1).progs = s.progs ∧ (State.setChannel s a0 a1).jobs = s.jobs ∧
    (State.setChannel s a0 a1).nextId = s.nextId ∧ (State.setChannel s a0 a1).nextBell = s.nextBell ∧ (State.setChannel s a0 a1).kv = s.kv ∧
    (State.setChannel s a0 a1).serving = s.serving ∧ (State.setChannel s a0 a1).video = s.video ∧ (State.setChannel s a0 a1).ctxs = s.ctxs ∧
    (State.setChannel s a0 a1).config = s.config ∧ (State.setChannel s a0 a1).dma = s.dma ∧ (State.setChannel s a0 a1).dmaTurn = s.dmaTurn ∧
    (State.setChannel s a0 a1).sched = s.sched ∧ (State.setChannel s a0 a1).trust = s.trust ∧ (State.setChannel s a0 a1).net = s.net ∧
    (State.setChannel s a0 a1).power = s.power ∧ (State.setChannel s a0 a1).limits = s.limits ∧ (State.setChannel s a0 a1).fab = s.fab ∧
    (State.setChannel s a0 a1).pair = s.pair ∧ (State.setChannel s a0 a1).obs = s.obs ∧ (State.setChannel s a0 a1).fw = s.fw ∧
    (State.setChannel s a0 a1).journal = s.journal ∧ (State.setChannel s a0 a1).integ = s.integ ∧ (State.setChannel s a0 a1).board = s.board := by
  unfold State.setChannel; simp

@[simp] theorem State.modRegion_frame (s : State) (a0 : Nat) (a1 : RegionState → RegionState) :
    (State.modRegion s a0 a1).now = s.now ∧ (State.modRegion s a0 a1).resetAt = s.resetAt ∧ (State.modRegion s a0 a1).pending = s.pending ∧
    (State.modRegion s a0 a1).free = s.free ∧ (State.modRegion s a0 a1).trace = s.trace ∧ (State.modRegion s a0 a1).dict = s.dict ∧
    (State.modRegion s a0 a1).dictOct = s.dictOct ∧ (State.modRegion s a0 a1).regs = s.regs ∧ (State.modRegion s a0 a1).d2dA = s.d2dA ∧
    (State.modRegion s a0 a1).d2dB = s.d2dB ∧ (State.modRegion s a0 a1).tide = s.tide ∧ (State.modRegion s a0 a1).hbm = s.hbm ∧
    (State.modRegion s a0 a1).pm = s.pm ∧ (State.modRegion s a0 a1).paths = s.paths ∧ (State.modRegion s a0 a1).queues = s.queues ∧
    (State.modRegion s a0 a1).progs = s.progs ∧ (State.modRegion s a0 a1).jobs = s.jobs ∧ (State.modRegion s a0 a1).nextId = s.nextId ∧
    (State.modRegion s a0 a1).nextBell = s.nextBell ∧ (State.modRegion s a0 a1).kv = s.kv ∧ (State.modRegion s a0 a1).serving = s.serving ∧
    (State.modRegion s a0 a1).video = s.video ∧ (State.modRegion s a0 a1).ctxs = s.ctxs ∧ (State.modRegion s a0 a1).config = s.config ∧
    (State.modRegion s a0 a1).dma = s.dma ∧ (State.modRegion s a0 a1).dmaTurn = s.dmaTurn ∧ (State.modRegion s a0 a1).sched = s.sched ∧
    (State.modRegion s a0 a1).trust = s.trust ∧ (State.modRegion s a0 a1).net = s.net ∧ (State.modRegion s a0 a1).mbx = s.mbx ∧
    (State.modRegion s a0 a1).power = s.power ∧ (State.modRegion s a0 a1).limits = s.limits ∧ (State.modRegion s a0 a1).fab = s.fab ∧
    (State.modRegion s a0 a1).pair = s.pair ∧ (State.modRegion s a0 a1).obs = s.obs ∧ (State.modRegion s a0 a1).fw = s.fw ∧
    (State.modRegion s a0 a1).journal = s.journal ∧ (State.modRegion s a0 a1).integ = s.integ ∧ (State.modRegion s a0 a1).board = s.board := by
  unfold State.modRegion; simp

@[simp] theorem State.setRequest_frame (s : State) (a0 : Nat) (a1 : Request) :
    (State.setRequest s a0 a1).now = s.now ∧ (State.setRequest s a0 a1).resetAt = s.resetAt ∧ (State.setRequest s a0 a1).pending = s.pending ∧
    (State.setRequest s a0 a1).free = s.free ∧ (State.setRequest s a0 a1).trace = s.trace ∧ (State.setRequest s a0 a1).dict = s.dict ∧
    (State.setRequest s a0 a1).dictOct = s.dictOct ∧ (State.setRequest s a0 a1).regs = s.regs ∧ (State.setRequest s a0 a1).d2dA = s.d2dA ∧
    (State.setRequest s a0 a1).d2dB = s.d2dB ∧ (State.setRequest s a0 a1).regions = s.regions ∧ (State.setRequest s a0 a1).tide = s.tide ∧
    (State.setRequest s a0 a1).hbm = s.hbm ∧ (State.setRequest s a0 a1).pm = s.pm ∧ (State.setRequest s a0 a1).paths = s.paths ∧
    (State.setRequest s a0 a1).queues = s.queues ∧ (State.setRequest s a0 a1).progs = s.progs ∧ (State.setRequest s a0 a1).jobs = s.jobs ∧
    (State.setRequest s a0 a1).nextId = s.nextId ∧ (State.setRequest s a0 a1).nextBell = s.nextBell ∧ (State.setRequest s a0 a1).kv = s.kv ∧
    (State.setRequest s a0 a1).video = s.video ∧ (State.setRequest s a0 a1).ctxs = s.ctxs ∧ (State.setRequest s a0 a1).config = s.config ∧
    (State.setRequest s a0 a1).dma = s.dma ∧ (State.setRequest s a0 a1).dmaTurn = s.dmaTurn ∧ (State.setRequest s a0 a1).sched = s.sched ∧
    (State.setRequest s a0 a1).trust = s.trust ∧ (State.setRequest s a0 a1).net = s.net ∧ (State.setRequest s a0 a1).mbx = s.mbx ∧
    (State.setRequest s a0 a1).power = s.power ∧ (State.setRequest s a0 a1).limits = s.limits ∧ (State.setRequest s a0 a1).fab = s.fab ∧
    (State.setRequest s a0 a1).pair = s.pair ∧ (State.setRequest s a0 a1).obs = s.obs ∧ (State.setRequest s a0 a1).fw = s.fw ∧
    (State.setRequest s a0 a1).journal = s.journal ∧ (State.setRequest s a0 a1).integ = s.integ ∧ (State.setRequest s a0 a1).board = s.board := by
  unfold State.setRequest; simp

@[simp] theorem State.setStream_frame (s : State) (a0 : Nat) (a1 : Nat) (a2 : Stream) :
    (State.setStream s a0 a1 a2).now = s.now ∧ (State.setStream s a0 a1 a2).resetAt = s.resetAt ∧ (State.setStream s a0 a1 a2).pending = s.pending ∧
    (State.setStream s a0 a1 a2).free = s.free ∧ (State.setStream s a0 a1 a2).trace = s.trace ∧ (State.setStream s a0 a1 a2).dict = s.dict ∧
    (State.setStream s a0 a1 a2).dictOct = s.dictOct ∧ (State.setStream s a0 a1 a2).regs = s.regs ∧ (State.setStream s a0 a1 a2).d2dA = s.d2dA ∧
    (State.setStream s a0 a1 a2).d2dB = s.d2dB ∧ (State.setStream s a0 a1 a2).regions = s.regions ∧ (State.setStream s a0 a1 a2).tide = s.tide ∧
    (State.setStream s a0 a1 a2).hbm = s.hbm ∧ (State.setStream s a0 a1 a2).pm = s.pm ∧ (State.setStream s a0 a1 a2).paths = s.paths ∧
    (State.setStream s a0 a1 a2).queues = s.queues ∧ (State.setStream s a0 a1 a2).progs = s.progs ∧ (State.setStream s a0 a1 a2).jobs = s.jobs ∧
    (State.setStream s a0 a1 a2).nextId = s.nextId ∧ (State.setStream s a0 a1 a2).nextBell = s.nextBell ∧ (State.setStream s a0 a1 a2).kv = s.kv ∧
    (State.setStream s a0 a1 a2).video = s.video ∧ (State.setStream s a0 a1 a2).ctxs = s.ctxs ∧ (State.setStream s a0 a1 a2).config = s.config ∧
    (State.setStream s a0 a1 a2).dma = s.dma ∧ (State.setStream s a0 a1 a2).dmaTurn = s.dmaTurn ∧ (State.setStream s a0 a1 a2).sched = s.sched ∧
    (State.setStream s a0 a1 a2).trust = s.trust ∧ (State.setStream s a0 a1 a2).net = s.net ∧ (State.setStream s a0 a1 a2).mbx = s.mbx ∧
    (State.setStream s a0 a1 a2).power = s.power ∧ (State.setStream s a0 a1 a2).limits = s.limits ∧ (State.setStream s a0 a1 a2).fab = s.fab ∧
    (State.setStream s a0 a1 a2).pair = s.pair ∧ (State.setStream s a0 a1 a2).obs = s.obs ∧ (State.setStream s a0 a1 a2).fw = s.fw ∧
    (State.setStream s a0 a1 a2).journal = s.journal ∧ (State.setStream s a0 a1 a2).integ = s.integ ∧ (State.setStream s a0 a1 a2).board = s.board := by
  unfold State.setStream; simp

@[simp] theorem State.setDec_frame (s : State) (a0 : Nat) (a1 : Nat) (a2 : DecSession) :
    (State.setDec s a0 a1 a2).now = s.now ∧ (State.setDec s a0 a1 a2).resetAt = s.resetAt ∧ (State.setDec s a0 a1 a2).pending = s.pending ∧
    (State.setDec s a0 a1 a2).free = s.free ∧ (State.setDec s a0 a1 a2).trace = s.trace ∧ (State.setDec s a0 a1 a2).dict = s.dict ∧
    (State.setDec s a0 a1 a2).dictOct = s.dictOct ∧ (State.setDec s a0 a1 a2).regs = s.regs ∧ (State.setDec s a0 a1 a2).d2dA = s.d2dA ∧
    (State.setDec s a0 a1 a2).d2dB = s.d2dB ∧ (State.setDec s a0 a1 a2).regions = s.regions ∧ (State.setDec s a0 a1 a2).tide = s.tide ∧
    (State.setDec s a0 a1 a2).hbm = s.hbm ∧ (State.setDec s a0 a1 a2).pm = s.pm ∧ (State.setDec s a0 a1 a2).paths = s.paths ∧
    (State.setDec s a0 a1 a2).queues = s.queues ∧ (State.setDec s a0 a1 a2).progs = s.progs ∧ (State.setDec s a0 a1 a2).jobs = s.jobs ∧
    (State.setDec s a0 a1 a2).nextId = s.nextId ∧ (State.setDec s a0 a1 a2).nextBell = s.nextBell ∧ (State.setDec s a0 a1 a2).kv = s.kv ∧
    (State.setDec s a0 a1 a2).serving = s.serving ∧ (State.setDec s a0 a1 a2).ctxs = s.ctxs ∧ (State.setDec s a0 a1 a2).config = s.config ∧
    (State.setDec s a0 a1 a2).dma = s.dma ∧ (State.setDec s a0 a1 a2).dmaTurn = s.dmaTurn ∧ (State.setDec s a0 a1 a2).sched = s.sched ∧
    (State.setDec s a0 a1 a2).trust = s.trust ∧ (State.setDec s a0 a1 a2).net = s.net ∧ (State.setDec s a0 a1 a2).mbx = s.mbx ∧
    (State.setDec s a0 a1 a2).power = s.power ∧ (State.setDec s a0 a1 a2).limits = s.limits ∧ (State.setDec s a0 a1 a2).fab = s.fab ∧
    (State.setDec s a0 a1 a2).pair = s.pair ∧ (State.setDec s a0 a1 a2).obs = s.obs ∧ (State.setDec s a0 a1 a2).fw = s.fw ∧
    (State.setDec s a0 a1 a2).journal = s.journal ∧ (State.setDec s a0 a1 a2).integ = s.integ ∧ (State.setDec s a0 a1 a2).board = s.board := by
  unfold State.setDec; simp

@[simp] theorem State.setEnc_frame (s : State) (a0 : Nat) (a1 : Nat) (a2 : EncSession) :
    (State.setEnc s a0 a1 a2).now = s.now ∧ (State.setEnc s a0 a1 a2).resetAt = s.resetAt ∧ (State.setEnc s a0 a1 a2).pending = s.pending ∧
    (State.setEnc s a0 a1 a2).free = s.free ∧ (State.setEnc s a0 a1 a2).trace = s.trace ∧ (State.setEnc s a0 a1 a2).dict = s.dict ∧
    (State.setEnc s a0 a1 a2).dictOct = s.dictOct ∧ (State.setEnc s a0 a1 a2).regs = s.regs ∧ (State.setEnc s a0 a1 a2).d2dA = s.d2dA ∧
    (State.setEnc s a0 a1 a2).d2dB = s.d2dB ∧ (State.setEnc s a0 a1 a2).regions = s.regions ∧ (State.setEnc s a0 a1 a2).tide = s.tide ∧
    (State.setEnc s a0 a1 a2).hbm = s.hbm ∧ (State.setEnc s a0 a1 a2).pm = s.pm ∧ (State.setEnc s a0 a1 a2).paths = s.paths ∧
    (State.setEnc s a0 a1 a2).queues = s.queues ∧ (State.setEnc s a0 a1 a2).progs = s.progs ∧ (State.setEnc s a0 a1 a2).jobs = s.jobs ∧
    (State.setEnc s a0 a1 a2).nextId = s.nextId ∧ (State.setEnc s a0 a1 a2).nextBell = s.nextBell ∧ (State.setEnc s a0 a1 a2).kv = s.kv ∧
    (State.setEnc s a0 a1 a2).serving = s.serving ∧ (State.setEnc s a0 a1 a2).ctxs = s.ctxs ∧ (State.setEnc s a0 a1 a2).config = s.config ∧
    (State.setEnc s a0 a1 a2).dma = s.dma ∧ (State.setEnc s a0 a1 a2).dmaTurn = s.dmaTurn ∧ (State.setEnc s a0 a1 a2).sched = s.sched ∧
    (State.setEnc s a0 a1 a2).trust = s.trust ∧ (State.setEnc s a0 a1 a2).net = s.net ∧ (State.setEnc s a0 a1 a2).mbx = s.mbx ∧
    (State.setEnc s a0 a1 a2).power = s.power ∧ (State.setEnc s a0 a1 a2).limits = s.limits ∧ (State.setEnc s a0 a1 a2).fab = s.fab ∧
    (State.setEnc s a0 a1 a2).pair = s.pair ∧ (State.setEnc s a0 a1 a2).obs = s.obs ∧ (State.setEnc s a0 a1 a2).fw = s.fw ∧
    (State.setEnc s a0 a1 a2).journal = s.journal ∧ (State.setEnc s a0 a1 a2).integ = s.integ ∧ (State.setEnc s a0 a1 a2).board = s.board := by
  unfold State.setEnc; simp

@[simp] theorem State.setSession_frame (s : State) (a0 : Nat) (a1 : QopSession) :
    (State.setSession s a0 a1).now = s.now ∧ (State.setSession s a0 a1).resetAt = s.resetAt ∧ (State.setSession s a0 a1).pending = s.pending ∧
    (State.setSession s a0 a1).free = s.free ∧ (State.setSession s a0 a1).trace = s.trace ∧ (State.setSession s a0 a1).dict = s.dict ∧
    (State.setSession s a0 a1).dictOct = s.dictOct ∧ (State.setSession s a0 a1).regs = s.regs ∧ (State.setSession s a0 a1).d2dA = s.d2dA ∧
    (State.setSession s a0 a1).d2dB = s.d2dB ∧ (State.setSession s a0 a1).regions = s.regions ∧ (State.setSession s a0 a1).tide = s.tide ∧
    (State.setSession s a0 a1).hbm = s.hbm ∧ (State.setSession s a0 a1).pm = s.pm ∧ (State.setSession s a0 a1).paths = s.paths ∧
    (State.setSession s a0 a1).queues = s.queues ∧ (State.setSession s a0 a1).progs = s.progs ∧ (State.setSession s a0 a1).jobs = s.jobs ∧
    (State.setSession s a0 a1).nextId = s.nextId ∧ (State.setSession s a0 a1).nextBell = s.nextBell ∧ (State.setSession s a0 a1).kv = s.kv ∧
    (State.setSession s a0 a1).serving = s.serving ∧ (State.setSession s a0 a1).video = s.video ∧ (State.setSession s a0 a1).ctxs = s.ctxs ∧
    (State.setSession s a0 a1).config = s.config ∧ (State.setSession s a0 a1).dma = s.dma ∧ (State.setSession s a0 a1).dmaTurn = s.dmaTurn ∧
    (State.setSession s a0 a1).sched = s.sched ∧ (State.setSession s a0 a1).trust = s.trust ∧ (State.setSession s a0 a1).mbx = s.mbx ∧
    (State.setSession s a0 a1).power = s.power ∧ (State.setSession s a0 a1).limits = s.limits ∧ (State.setSession s a0 a1).fab = s.fab ∧
    (State.setSession s a0 a1).pair = s.pair ∧ (State.setSession s a0 a1).obs = s.obs ∧ (State.setSession s a0 a1).fw = s.fw ∧
    (State.setSession s a0 a1).journal = s.journal ∧ (State.setSession s a0 a1).integ = s.integ ∧ (State.setSession s a0 a1).board = s.board := by
  unfold State.setSession; simp

@[simp] theorem State.setNode_frame (s : State) (a0 : Nat) (a1 : PrefixNode) :
    (State.setNode s a0 a1).now = s.now ∧ (State.setNode s a0 a1).resetAt = s.resetAt ∧ (State.setNode s a0 a1).pending = s.pending ∧
    (State.setNode s a0 a1).free = s.free ∧ (State.setNode s a0 a1).trace = s.trace ∧ (State.setNode s a0 a1).dict = s.dict ∧
    (State.setNode s a0 a1).dictOct = s.dictOct ∧ (State.setNode s a0 a1).regs = s.regs ∧ (State.setNode s a0 a1).d2dA = s.d2dA ∧
    (State.setNode s a0 a1).d2dB = s.d2dB ∧ (State.setNode s a0 a1).regions = s.regions ∧ (State.setNode s a0 a1).tide = s.tide ∧
    (State.setNode s a0 a1).hbm = s.hbm ∧ (State.setNode s a0 a1).pm = s.pm ∧ (State.setNode s a0 a1).paths = s.paths ∧
    (State.setNode s a0 a1).queues = s.queues ∧ (State.setNode s a0 a1).progs = s.progs ∧ (State.setNode s a0 a1).jobs = s.jobs ∧
    (State.setNode s a0 a1).nextId = s.nextId ∧ (State.setNode s a0 a1).nextBell = s.nextBell ∧ (State.setNode s a0 a1).kv = s.kv ∧
    (State.setNode s a0 a1).video = s.video ∧ (State.setNode s a0 a1).ctxs = s.ctxs ∧ (State.setNode s a0 a1).config = s.config ∧
    (State.setNode s a0 a1).dma = s.dma ∧ (State.setNode s a0 a1).dmaTurn = s.dmaTurn ∧ (State.setNode s a0 a1).sched = s.sched ∧
    (State.setNode s a0 a1).trust = s.trust ∧ (State.setNode s a0 a1).net = s.net ∧ (State.setNode s a0 a1).mbx = s.mbx ∧
    (State.setNode s a0 a1).power = s.power ∧ (State.setNode s a0 a1).limits = s.limits ∧ (State.setNode s a0 a1).fab = s.fab ∧
    (State.setNode s a0 a1).pair = s.pair ∧ (State.setNode s a0 a1).obs = s.obs ∧ (State.setNode s a0 a1).fw = s.fw ∧
    (State.setNode s a0 a1).journal = s.journal ∧ (State.setNode s a0 a1).integ = s.integ ∧ (State.setNode s a0 a1).board = s.board := by
  unfold State.setNode; simp

@[simp] theorem State.setTable_frame (s : State) (a0 : Nat) (a1 : KvTable) :
    (State.setTable s a0 a1).now = s.now ∧ (State.setTable s a0 a1).resetAt = s.resetAt ∧ (State.setTable s a0 a1).pending = s.pending ∧
    (State.setTable s a0 a1).free = s.free ∧ (State.setTable s a0 a1).trace = s.trace ∧ (State.setTable s a0 a1).dict = s.dict ∧
    (State.setTable s a0 a1).dictOct = s.dictOct ∧ (State.setTable s a0 a1).regs = s.regs ∧ (State.setTable s a0 a1).d2dA = s.d2dA ∧
    (State.setTable s a0 a1).d2dB = s.d2dB ∧ (State.setTable s a0 a1).regions = s.regions ∧ (State.setTable s a0 a1).tide = s.tide ∧
    (State.setTable s a0 a1).hbm = s.hbm ∧ (State.setTable s a0 a1).pm = s.pm ∧ (State.setTable s a0 a1).paths = s.paths ∧
    (State.setTable s a0 a1).queues = s.queues ∧ (State.setTable s a0 a1).progs = s.progs ∧ (State.setTable s a0 a1).jobs = s.jobs ∧
    (State.setTable s a0 a1).nextId = s.nextId ∧ (State.setTable s a0 a1).nextBell = s.nextBell ∧ (State.setTable s a0 a1).serving = s.serving ∧
    (State.setTable s a0 a1).video = s.video ∧ (State.setTable s a0 a1).ctxs = s.ctxs ∧ (State.setTable s a0 a1).config = s.config ∧
    (State.setTable s a0 a1).dma = s.dma ∧ (State.setTable s a0 a1).dmaTurn = s.dmaTurn ∧ (State.setTable s a0 a1).sched = s.sched ∧
    (State.setTable s a0 a1).trust = s.trust ∧ (State.setTable s a0 a1).net = s.net ∧ (State.setTable s a0 a1).mbx = s.mbx ∧
    (State.setTable s a0 a1).power = s.power ∧ (State.setTable s a0 a1).limits = s.limits ∧ (State.setTable s a0 a1).fab = s.fab ∧
    (State.setTable s a0 a1).pair = s.pair ∧ (State.setTable s a0 a1).obs = s.obs ∧ (State.setTable s a0 a1).fw = s.fw ∧
    (State.setTable s a0 a1).journal = s.journal ∧ (State.setTable s a0 a1).integ = s.integ ∧ (State.setTable s a0 a1).board = s.board := by
  unfold State.setTable; simp

@[simp] theorem State.enterRole_frame (s : State) (a0 : PairRole) :
    (State.enterRole s a0).now = s.now ∧ (State.enterRole s a0).resetAt = s.resetAt ∧ (State.enterRole s a0).pending = s.pending ∧
    (State.enterRole s a0).free = s.free ∧ (State.enterRole s a0).trace = s.trace ∧ (State.enterRole s a0).dict = s.dict ∧
    (State.enterRole s a0).dictOct = s.dictOct ∧ (State.enterRole s a0).regs = s.regs ∧ (State.enterRole s a0).d2dA = s.d2dA ∧
    (State.enterRole s a0).d2dB = s.d2dB ∧ (State.enterRole s a0).regions = s.regions ∧ (State.enterRole s a0).tide = s.tide ∧
    (State.enterRole s a0).hbm = s.hbm ∧ (State.enterRole s a0).pm = s.pm ∧ (State.enterRole s a0).paths = s.paths ∧
    (State.enterRole s a0).queues = s.queues ∧ (State.enterRole s a0).progs = s.progs ∧ (State.enterRole s a0).jobs = s.jobs ∧
    (State.enterRole s a0).nextId = s.nextId ∧ (State.enterRole s a0).nextBell = s.nextBell ∧ (State.enterRole s a0).kv = s.kv ∧
    (State.enterRole s a0).serving = s.serving ∧ (State.enterRole s a0).video = s.video ∧ (State.enterRole s a0).ctxs = s.ctxs ∧
    (State.enterRole s a0).config = s.config ∧ (State.enterRole s a0).dma = s.dma ∧ (State.enterRole s a0).dmaTurn = s.dmaTurn ∧
    (State.enterRole s a0).sched = s.sched ∧ (State.enterRole s a0).trust = s.trust ∧ (State.enterRole s a0).net = s.net ∧
    (State.enterRole s a0).mbx = s.mbx ∧ (State.enterRole s a0).power = s.power ∧ (State.enterRole s a0).limits = s.limits ∧
    (State.enterRole s a0).fab = s.fab ∧ (State.enterRole s a0).obs = s.obs ∧ (State.enterRole s a0).fw = s.fw ∧
    (State.enterRole s a0).journal = s.journal ∧ (State.enterRole s a0).integ = s.integ ∧ (State.enterRole s a0).board = s.board := by
  unfold State.enterRole; simp

@[simp] theorem State.wakeBy_frame (s : State) (a0 : Nat) (a1 : Nat) (a2 : Nat) (a3 : Nat) :
    (State.wakeBy s a0 a1 a2 a3).now = s.now ∧ (State.wakeBy s a0 a1 a2 a3).resetAt = s.resetAt ∧ (State.wakeBy s a0 a1 a2 a3).pending = s.pending ∧
    (State.wakeBy s a0 a1 a2 a3).free = s.free ∧ (State.wakeBy s a0 a1 a2 a3).trace = s.trace ∧ (State.wakeBy s a0 a1 a2 a3).dict = s.dict ∧
    (State.wakeBy s a0 a1 a2 a3).dictOct = s.dictOct ∧ (State.wakeBy s a0 a1 a2 a3).regs = s.regs ∧ (State.wakeBy s a0 a1 a2 a3).d2dA = s.d2dA ∧
    (State.wakeBy s a0 a1 a2 a3).d2dB = s.d2dB ∧ (State.wakeBy s a0 a1 a2 a3).regions = s.regions ∧ (State.wakeBy s a0 a1 a2 a3).tide = s.tide ∧
    (State.wakeBy s a0 a1 a2 a3).hbm = s.hbm ∧ (State.wakeBy s a0 a1 a2 a3).pm = s.pm ∧ (State.wakeBy s a0 a1 a2 a3).paths = s.paths ∧
    (State.wakeBy s a0 a1 a2 a3).queues = s.queues ∧ (State.wakeBy s a0 a1 a2 a3).progs = s.progs ∧ (State.wakeBy s a0 a1 a2 a3).jobs = s.jobs ∧
    (State.wakeBy s a0 a1 a2 a3).nextId = s.nextId ∧ (State.wakeBy s a0 a1 a2 a3).nextBell = s.nextBell ∧ (State.wakeBy s a0 a1 a2 a3).kv = s.kv ∧
    (State.wakeBy s a0 a1 a2 a3).serving = s.serving ∧ (State.wakeBy s a0 a1 a2 a3).video = s.video ∧ (State.wakeBy s a0 a1 a2 a3).ctxs = s.ctxs ∧
    (State.wakeBy s a0 a1 a2 a3).config = s.config ∧ (State.wakeBy s a0 a1 a2 a3).dma = s.dma ∧ (State.wakeBy s a0 a1 a2 a3).dmaTurn = s.dmaTurn ∧
    (State.wakeBy s a0 a1 a2 a3).sched = s.sched ∧ (State.wakeBy s a0 a1 a2 a3).trust = s.trust ∧ (State.wakeBy s a0 a1 a2 a3).net = s.net ∧
    (State.wakeBy s a0 a1 a2 a3).mbx = s.mbx ∧ (State.wakeBy s a0 a1 a2 a3).limits = s.limits ∧ (State.wakeBy s a0 a1 a2 a3).fab = s.fab ∧
    (State.wakeBy s a0 a1 a2 a3).pair = s.pair ∧ (State.wakeBy s a0 a1 a2 a3).obs = s.obs ∧ (State.wakeBy s a0 a1 a2 a3).fw = s.fw ∧
    (State.wakeBy s a0 a1 a2 a3).journal = s.journal ∧ (State.wakeBy s a0 a1 a2 a3).integ = s.integ ∧ (State.wakeBy s a0 a1 a2 a3).board = s.board := by
  unfold State.wakeBy; dsimp only; split <;> simp

@[simp] theorem State.health_frame (s : State) (a0 : Nat) (a1 : Status) (a2 : Nat) (a3 : Nat) (a4 : Option Nat) (a5 : Nat) (a6 : Nat) :
    (State.health s a0 a1 a2 a3 a4 a5 a6).now = s.now ∧ (State.health s a0 a1 a2 a3 a4 a5 a6).resetAt = s.resetAt ∧
    (State.health s a0 a1 a2 a3 a4 a5 a6).pending = s.pending ∧ (State.health s a0 a1 a2 a3 a4 a5 a6).free = s.free ∧
    (State.health s a0 a1 a2 a3 a4 a5 a6).trace = s.trace ∧ (State.health s a0 a1 a2 a3 a4 a5 a6).dict = s.dict ∧
    (State.health s a0 a1 a2 a3 a4 a5 a6).dictOct = s.dictOct ∧ (State.health s a0 a1 a2 a3 a4 a5 a6).regs = s.regs ∧
    (State.health s a0 a1 a2 a3 a4 a5 a6).d2dA = s.d2dA ∧ (State.health s a0 a1 a2 a3 a4 a5 a6).d2dB = s.d2dB ∧
    (State.health s a0 a1 a2 a3 a4 a5 a6).regions = s.regions ∧ (State.health s a0 a1 a2 a3 a4 a5 a6).tide = s.tide ∧
    (State.health s a0 a1 a2 a3 a4 a5 a6).hbm = s.hbm ∧ (State.health s a0 a1 a2 a3 a4 a5 a6).pm = s.pm ∧
    (State.health s a0 a1 a2 a3 a4 a5 a6).paths = s.paths ∧ (State.health s a0 a1 a2 a3 a4 a5 a6).queues = s.queues ∧
    (State.health s a0 a1 a2 a3 a4 a5 a6).progs = s.progs ∧ (State.health s a0 a1 a2 a3 a4 a5 a6).jobs = s.jobs ∧
    (State.health s a0 a1 a2 a3 a4 a5 a6).nextId = s.nextId ∧ (State.health s a0 a1 a2 a3 a4 a5 a6).nextBell = s.nextBell ∧
    (State.health s a0 a1 a2 a3 a4 a5 a6).kv = s.kv ∧ (State.health s a0 a1 a2 a3 a4 a5 a6).serving = s.serving ∧
    (State.health s a0 a1 a2 a3 a4 a5 a6).video = s.video ∧ (State.health s a0 a1 a2 a3 a4 a5 a6).ctxs = s.ctxs ∧
    (State.health s a0 a1 a2 a3 a4 a5 a6).config = s.config ∧ (State.health s a0 a1 a2 a3 a4 a5 a6).dma = s.dma ∧
    (State.health s a0 a1 a2 a3 a4 a5 a6).dmaTurn = s.dmaTurn ∧ (State.health s a0 a1 a2 a3 a4 a5 a6).sched = s.sched ∧
    (State.health s a0 a1 a2 a3 a4 a5 a6).trust = s.trust ∧ (State.health s a0 a1 a2 a3 a4 a5 a6).net = s.net ∧
    (State.health s a0 a1 a2 a3 a4 a5 a6).mbx = s.mbx ∧ (State.health s a0 a1 a2 a3 a4 a5 a6).power = s.power ∧
    (State.health s a0 a1 a2 a3 a4 a5 a6).limits = s.limits ∧ (State.health s a0 a1 a2 a3 a4 a5 a6).fab = s.fab ∧
    (State.health s a0 a1 a2 a3 a4 a5 a6).pair = s.pair ∧ (State.health s a0 a1 a2 a3 a4 a5 a6).obs = s.obs ∧
    (State.health s a0 a1 a2 a3 a4 a5 a6).fw = s.fw ∧ (State.health s a0 a1 a2 a3 a4 a5 a6).integ = s.integ ∧
    (State.health s a0 a1 a2 a3 a4 a5 a6).board = s.board := by
  unfold State.health; simp

@[simp] theorem State.noteStalls_frame (s : State) :
    (State.noteStalls s).now = s.now ∧ (State.noteStalls s).resetAt = s.resetAt ∧ (State.noteStalls s).pending = s.pending ∧
    (State.noteStalls s).free = s.free ∧ (State.noteStalls s).trace = s.trace ∧ (State.noteStalls s).dict = s.dict ∧
    (State.noteStalls s).dictOct = s.dictOct ∧ (State.noteStalls s).regs = s.regs ∧ (State.noteStalls s).d2dA = s.d2dA ∧
    (State.noteStalls s).d2dB = s.d2dB ∧ (State.noteStalls s).regions = s.regions ∧ (State.noteStalls s).tide = s.tide ∧
    (State.noteStalls s).hbm = s.hbm ∧ (State.noteStalls s).pm = s.pm ∧ (State.noteStalls s).paths = s.paths ∧
    (State.noteStalls s).queues = s.queues ∧ (State.noteStalls s).progs = s.progs ∧ (State.noteStalls s).jobs = s.jobs ∧
    (State.noteStalls s).nextId = s.nextId ∧ (State.noteStalls s).nextBell = s.nextBell ∧ (State.noteStalls s).kv = s.kv ∧
    (State.noteStalls s).serving = s.serving ∧ (State.noteStalls s).video = s.video ∧ (State.noteStalls s).ctxs = s.ctxs ∧
    (State.noteStalls s).config = s.config ∧ (State.noteStalls s).dma = s.dma ∧ (State.noteStalls s).dmaTurn = s.dmaTurn ∧
    (State.noteStalls s).sched = s.sched ∧ (State.noteStalls s).trust = s.trust ∧ (State.noteStalls s).net = s.net ∧
    (State.noteStalls s).mbx = s.mbx ∧ (State.noteStalls s).power = s.power ∧ (State.noteStalls s).limits = s.limits ∧
    (State.noteStalls s).fab = s.fab ∧ (State.noteStalls s).pair = s.pair ∧ (State.noteStalls s).obs = s.obs ∧ (State.noteStalls s).fw = s.fw ∧
    (State.noteStalls s).journal = s.journal ∧ (State.noteStalls s).board = s.board := by
  unfold State.noteStalls; simp

@[simp] theorem State.settleHealth_frame (s : State) :
    (State.settleHealth s).now = s.now ∧ (State.settleHealth s).resetAt = s.resetAt ∧ (State.settleHealth s).pending = s.pending ∧
    (State.settleHealth s).free = s.free ∧ (State.settleHealth s).trace = s.trace ∧ (State.settleHealth s).dict = s.dict ∧
    (State.settleHealth s).dictOct = s.dictOct ∧ (State.settleHealth s).regs = s.regs ∧ (State.settleHealth s).d2dA = s.d2dA ∧
    (State.settleHealth s).d2dB = s.d2dB ∧ (State.settleHealth s).regions = s.regions ∧ (State.settleHealth s).tide = s.tide ∧
    (State.settleHealth s).hbm = s.hbm ∧ (State.settleHealth s).pm = s.pm ∧ (State.settleHealth s).paths = s.paths ∧
    (State.settleHealth s).queues = s.queues ∧ (State.settleHealth s).progs = s.progs ∧ (State.settleHealth s).jobs = s.jobs ∧
    (State.settleHealth s).nextId = s.nextId ∧ (State.settleHealth s).nextBell = s.nextBell ∧ (State.settleHealth s).kv = s.kv ∧
    (State.settleHealth s).serving = s.serving ∧ (State.settleHealth s).video = s.video ∧ (State.settleHealth s).ctxs = s.ctxs ∧
    (State.settleHealth s).config = s.config ∧ (State.settleHealth s).dma = s.dma ∧ (State.settleHealth s).dmaTurn = s.dmaTurn ∧
    (State.settleHealth s).sched = s.sched ∧ (State.settleHealth s).trust = s.trust ∧ (State.settleHealth s).mbx = s.mbx ∧
    (State.settleHealth s).power = s.power ∧ (State.settleHealth s).limits = s.limits ∧ (State.settleHealth s).fab = s.fab ∧
    (State.settleHealth s).pair = s.pair ∧ (State.settleHealth s).obs = s.obs ∧ (State.settleHealth s).fw = s.fw ∧
    (State.settleHealth s).journal = s.journal ∧ (State.settleHealth s).board = s.board := by
  unfold State.settleHealth; dsimp only; split <;> simp

@[simp] theorem State.workStarts_frame (s : State) :
    (State.workStarts s).now = s.now ∧ (State.workStarts s).resetAt = s.resetAt ∧ (State.workStarts s).pending = s.pending ∧
    (State.workStarts s).free = s.free ∧ (State.workStarts s).trace = s.trace ∧ (State.workStarts s).dict = s.dict ∧
    (State.workStarts s).dictOct = s.dictOct ∧ (State.workStarts s).regs = s.regs ∧ (State.workStarts s).d2dA = s.d2dA ∧
    (State.workStarts s).d2dB = s.d2dB ∧ (State.workStarts s).regions = s.regions ∧ (State.workStarts s).tide = s.tide ∧
    (State.workStarts s).hbm = s.hbm ∧ (State.workStarts s).pm = s.pm ∧ (State.workStarts s).paths = s.paths ∧
    (State.workStarts s).queues = s.queues ∧ (State.workStarts s).progs = s.progs ∧ (State.workStarts s).jobs = s.jobs ∧
    (State.workStarts s).nextId = s.nextId ∧ (State.workStarts s).nextBell = s.nextBell ∧ (State.workStarts s).kv = s.kv ∧
    (State.workStarts s).serving = s.serving ∧ (State.workStarts s).video = s.video ∧ (State.workStarts s).ctxs = s.ctxs ∧
    (State.workStarts s).config = s.config ∧ (State.workStarts s).dma = s.dma ∧ (State.workStarts s).dmaTurn = s.dmaTurn ∧
    (State.workStarts s).sched = s.sched ∧ (State.workStarts s).trust = s.trust ∧ (State.workStarts s).net = s.net ∧
    (State.workStarts s).mbx = s.mbx ∧ (State.workStarts s).limits = s.limits ∧ (State.workStarts s).fab = s.fab ∧
    (State.workStarts s).pair = s.pair ∧ (State.workStarts s).obs = s.obs ∧ (State.workStarts s).fw = s.fw ∧
    (State.workStarts s).journal = s.journal ∧ (State.workStarts s).integ = s.integ ∧ (State.workStarts s).board = s.board := by
  unfold State.workStarts; dsimp only; split <;> simp

@[simp] theorem State.reply_frame (s : State) (a0 : Nat) (a1 : List Nat) :
    (State.reply s a0 a1).now = s.now ∧ (State.reply s a0 a1).resetAt = s.resetAt ∧ (State.reply s a0 a1).pending = s.pending ∧
    (State.reply s a0 a1).free = s.free ∧ (State.reply s a0 a1).dict = s.dict ∧ (State.reply s a0 a1).dictOct = s.dictOct ∧
    (State.reply s a0 a1).regs = s.regs ∧ (State.reply s a0 a1).d2dA = s.d2dA ∧ (State.reply s a0 a1).d2dB = s.d2dB ∧
    (State.reply s a0 a1).regions = s.regions ∧ (State.reply s a0 a1).tide = s.tide ∧ (State.reply s a0 a1).hbm = s.hbm ∧
    (State.reply s a0 a1).pm = s.pm ∧ (State.reply s a0 a1).paths = s.paths ∧ (State.reply s a0 a1).queues = s.queues ∧
    (State.reply s a0 a1).progs = s.progs ∧ (State.reply s a0 a1).jobs = s.jobs ∧ (State.reply s a0 a1).nextId = s.nextId ∧
    (State.reply s a0 a1).nextBell = s.nextBell ∧ (State.reply s a0 a1).kv = s.kv ∧ (State.reply s a0 a1).serving = s.serving ∧
    (State.reply s a0 a1).video = s.video ∧ (State.reply s a0 a1).ctxs = s.ctxs ∧ (State.reply s a0 a1).config = s.config ∧
    (State.reply s a0 a1).dma = s.dma ∧ (State.reply s a0 a1).dmaTurn = s.dmaTurn ∧ (State.reply s a0 a1).sched = s.sched ∧
    (State.reply s a0 a1).trust = s.trust ∧ (State.reply s a0 a1).net = s.net ∧ (State.reply s a0 a1).mbx = s.mbx ∧
    (State.reply s a0 a1).power = s.power ∧ (State.reply s a0 a1).limits = s.limits ∧ (State.reply s a0 a1).fab = s.fab ∧
    (State.reply s a0 a1).pair = s.pair ∧ (State.reply s a0 a1).obs = s.obs ∧ (State.reply s a0 a1).fw = s.fw ∧
    (State.reply s a0 a1).journal = s.journal ∧ (State.reply s a0 a1).integ = s.integ ∧ (State.reply s a0 a1).board = s.board := by
  unfold State.reply; simp

@[simp] theorem State.signed_frame (s : State) (a0 : Nat) (a1 : List Nat) :
    (State.signed s a0 a1).now = s.now ∧ (State.signed s a0 a1).resetAt = s.resetAt ∧ (State.signed s a0 a1).pending = s.pending ∧
    (State.signed s a0 a1).dict = s.dict ∧ (State.signed s a0 a1).dictOct = s.dictOct ∧ (State.signed s a0 a1).regs = s.regs ∧
    (State.signed s a0 a1).d2dA = s.d2dA ∧ (State.signed s a0 a1).d2dB = s.d2dB ∧ (State.signed s a0 a1).regions = s.regions ∧
    (State.signed s a0 a1).tide = s.tide ∧ (State.signed s a0 a1).hbm = s.hbm ∧ (State.signed s a0 a1).pm = s.pm ∧
    (State.signed s a0 a1).paths = s.paths ∧ (State.signed s a0 a1).queues = s.queues ∧ (State.signed s a0 a1).progs = s.progs ∧
    (State.signed s a0 a1).jobs = s.jobs ∧ (State.signed s a0 a1).nextId = s.nextId ∧ (State.signed s a0 a1).nextBell = s.nextBell ∧
    (State.signed s a0 a1).kv = s.kv ∧ (State.signed s a0 a1).serving = s.serving ∧ (State.signed s a0 a1).video = s.video ∧
    (State.signed s a0 a1).ctxs = s.ctxs ∧ (State.signed s a0 a1).config = s.config ∧ (State.signed s a0 a1).dma = s.dma ∧
    (State.signed s a0 a1).dmaTurn = s.dmaTurn ∧ (State.signed s a0 a1).sched = s.sched ∧ (State.signed s a0 a1).trust = s.trust ∧
    (State.signed s a0 a1).net = s.net ∧ (State.signed s a0 a1).mbx = s.mbx ∧ (State.signed s a0 a1).power = s.power ∧
    (State.signed s a0 a1).limits = s.limits ∧ (State.signed s a0 a1).fab = s.fab ∧ (State.signed s a0 a1).pair = s.pair ∧
    (State.signed s a0 a1).obs = s.obs ∧ (State.signed s a0 a1).fw = s.fw ∧ (State.signed s a0 a1).journal = s.journal ∧
    (State.signed s a0 a1).integ = s.integ ∧ (State.signed s a0 a1).board = s.board := by
  unfold State.signed; generalize s.pick 0 % 2 ^ 4096 = v; simp

@[simp] theorem State.rung_frame (s : State) (a0 : Nat) :
    (State.rung s a0).now = s.now ∧ (State.rung s a0).resetAt = s.resetAt ∧ (State.rung s a0).pending = s.pending ∧
    (State.rung s a0).dictOct = s.dictOct ∧ (State.rung s a0).regs = s.regs ∧ (State.rung s a0).d2dA = s.d2dA ∧ (State.rung s a0).d2dB = s.d2dB ∧
    (State.rung s a0).regions = s.regions ∧ (State.rung s a0).tide = s.tide ∧ (State.rung s a0).hbm = s.hbm ∧ (State.rung s a0).pm = s.pm ∧
    (State.rung s a0).paths = s.paths ∧ (State.rung s a0).queues = s.queues ∧ (State.rung s a0).progs = s.progs ∧ (State.rung s a0).jobs = s.jobs ∧
    (State.rung s a0).nextId = s.nextId ∧ (State.rung s a0).nextBell = s.nextBell ∧ (State.rung s a0).kv = s.kv ∧
    (State.rung s a0).serving = s.serving ∧ (State.rung s a0).video = s.video ∧ (State.rung s a0).ctxs = s.ctxs ∧
    (State.rung s a0).config = s.config ∧ (State.rung s a0).dma = s.dma ∧ (State.rung s a0).dmaTurn = s.dmaTurn ∧ (State.rung s a0).sched = s.sched ∧
    (State.rung s a0).trust = s.trust ∧ (State.rung s a0).net = s.net ∧ (State.rung s a0).mbx = s.mbx ∧ (State.rung s a0).power = s.power ∧
    (State.rung s a0).limits = s.limits ∧ (State.rung s a0).pair = s.pair ∧ (State.rung s a0).fw = s.fw ∧ (State.rung s a0).journal = s.journal ∧
    (State.rung s a0).integ = s.integ ∧ (State.rung s a0).board = s.board := by
  unfold State.rung; simp

@[simp] theorem State.castVote_frame (s : State) (a0 : Nat) (a1 : Nat) :
    (State.castVote s a0 a1).now = s.now ∧ (State.castVote s a0 a1).resetAt = s.resetAt ∧ (State.castVote s a0 a1).pending = s.pending ∧
    (State.castVote s a0 a1).free = s.free ∧ (State.castVote s a0 a1).trace = s.trace ∧ (State.castVote s a0 a1).dict = s.dict ∧
    (State.castVote s a0 a1).dictOct = s.dictOct ∧ (State.castVote s a0 a1).regs = s.regs ∧ (State.castVote s a0 a1).d2dA = s.d2dA ∧
    (State.castVote s a0 a1).d2dB = s.d2dB ∧ (State.castVote s a0 a1).regions = s.regions ∧ (State.castVote s a0 a1).tide = s.tide ∧
    (State.castVote s a0 a1).hbm = s.hbm ∧ (State.castVote s a0 a1).pm = s.pm ∧ (State.castVote s a0 a1).paths = s.paths ∧
    (State.castVote s a0 a1).queues = s.queues ∧ (State.castVote s a0 a1).progs = s.progs ∧ (State.castVote s a0 a1).jobs = s.jobs ∧
    (State.castVote s a0 a1).nextId = s.nextId ∧ (State.castVote s a0 a1).nextBell = s.nextBell ∧ (State.castVote s a0 a1).kv = s.kv ∧
    (State.castVote s a0 a1).serving = s.serving ∧ (State.castVote s a0 a1).video = s.video ∧ (State.castVote s a0 a1).ctxs = s.ctxs ∧
    (State.castVote s a0 a1).config = s.config ∧ (State.castVote s a0 a1).dma = s.dma ∧ (State.castVote s a0 a1).dmaTurn = s.dmaTurn ∧
    (State.castVote s a0 a1).sched = s.sched ∧ (State.castVote s a0 a1).trust = s.trust ∧ (State.castVote s a0 a1).net = s.net ∧
    (State.castVote s a0 a1).mbx = s.mbx ∧ (State.castVote s a0 a1).limits = s.limits ∧ (State.castVote s a0 a1).fab = s.fab ∧
    (State.castVote s a0 a1).pair = s.pair ∧ (State.castVote s a0 a1).obs = s.obs ∧ (State.castVote s a0 a1).fw = s.fw ∧
    (State.castVote s a0 a1).journal = s.journal ∧ (State.castVote s a0 a1).integ = s.integ ∧ (State.castVote s a0 a1).board = s.board := by
  unfold State.castVote; dsimp only; split <;> simp

end Sys2Proof.Machine
end

