-- ==== Sys2Proof/Laws/Gate.lean ====
section
/-! SUPPORT. What the passage of time changes, and what the gate of a host access answers on a running module. -/

namespace Sys2Proof.Machine

/-- The clock, the Tide unit and the power unit after `dt` ns. -/
@[simp] theorem State.elapse_now (s : State) (dt : Nat) : (s.elapse dt).now = s.now + dt := rfl

@[simp] theorem State.elapse_tide (s : State) (dt : Nat) :
    (s.elapse dt).tide = { s.tide with count := s.tideAfter dt, errFine := s.tide.errFine + dt * s.tide.growth } := rfl

@[simp] theorem State.elapse_power (s : State) (dt : Nat) : (s.elapse dt).power = { s.power with deeperSince := s.trackVotes.deeperSince } := rfl

@[simp] theorem State.elapse_slack (s : State) (dt : Nat) : (s.elapse dt).obs.slack = s.obs.slack := rfl

@[simp] theorem State.elapse_capture (s : State) (dt : Nat) : (s.elapse dt).obs.capture = s.obs.capture := rfl

@[simp] theorem State.elapse_asleep (s : State) (dt : Nat) : (s.elapse dt).asleep = s.asleep := rfl

@[simp] theorem State.elapse_slackRuns (s : State) (dt : Nat) : (s.elapse dt).slackRuns = s.slackRuns := rfl

@[simp] theorem State.elapse_clocked (s : State) (dt : Nat) : (s.elapse dt).clocked = s.clocked := rfl

@[simp] theorem State.elapse_serves (s : State) (dt fn : Nat) : (s.elapse dt).serves fn = s.serves fn := rfl

@[simp] theorem State.elapse_dictVal (s : State) (dt k : Nat) : (s.elapse dt).dictVal k = s.dictVal k := rfl

@[simp] theorem State.elapse_ctx (s : State) (dt c : Nat) : (s.elapse dt).ctx c = s.ctx c := rfl

@[simp] theorem State.elapse_resident (s : State) (dt c : Nat) : (s.elapse dt).resident c = s.resident c := rfl

@[simp] theorem State.elapse_queue (s : State) (dt fn q : Nat) : (s.elapse dt).queue fn q = s.queue fn q := rfl

@[simp] theorem State.elapse_ring (s : State) (dt k : Nat) : (s.elapse dt).ring k = s.ring k := rfl

@[simp] theorem State.elapse_port (s : State) (dt p : Nat) : (s.elapse dt).port p = s.port p := rfl

@[simp] theorem State.elapse_tideNat (s : State) (dt : Nat) : (s.elapse dt).tideNat = (s.tideAfter dt).toNat := rfl

/-- On a running module every access of a present function is served at once (R9, R469, R542). -/
theorem State.gate_of_serves (s : State) (a : HostAccess) (h : s.serves a.fn = true) : s.gate a = .allow := by
  simp only [State.serves, Bool.and_eq_true, Bool.not_eq_true'] at h
  obtain ⟨⟨⟨⟨⟨h1, h2⟩, h3⟩, h4⟩, h5⟩, h6⟩ := h
  simp [State.gate, h1, h2, h3, h4, h5, h6]

theorem State.hostAccess_of_serves (s : State) (a : HostAccess) (k : State → State) (h : s.serves a.fn = true) :
    s.hostAccess a k = .next (k s) := by
  simp only [State.hostAccess, State.gate_of_serves s a h]

theorem State.regWrite_of_serves (s : State) (fn off : Nat) (st : Bool) (cmd : Instr) (k : State → State) (h : s.serves fn = true) :
    s.regWrite fn off st cmd k = .next (k s) :=
  State.hostAccess_of_serves s _ k h

theorem State.regRead_of_serves (s : State) (fn off size : Nat) (cmd : Instr) (k : State → State) (h : s.serves fn = true) :
    s.regRead fn off size cmd k = .next (k s) :=
  State.hostAccess_of_serves s _ k h

/-- A doorbell outside Table 8-3 and Table 9-6's range of an unlocked function reaches its register. -/
theorem State.doorbell_of_serves (s : State) (fn off : Nat) (cmd : Instr) (k : State → State) (h : s.serves fn = true)
    (hu : (s.ctx fn).tdi ≠ .locked) : s.doorbell fn off cmd k = .next (k s) := by
  rw [State.doorbell, State.hostAccess_of_serves s _ _ h]
  simp [hu]

end Sys2Proof.Machine
end

