-- ==== Sys2Proof/Laws/Store.lean ====
section
/-! SUPPORT. The laws of a store and of a byte memory: what a read sees after a write, and that every operation keeps the canonical form. -/

namespace Sys2Proof.Machine

@[simp] theorem Store.look_nil {α : Type} (a : Nat) : Store.look ([] : Store α) a = none := rfl

theorem Store.look_put_same {α : Type} (m : Store α) (a : Nat) (v : α) : (m.put a v).look a = some v := by
  induction m with
  | nil => simp [Store.put, Store.look]
  | cons e rest ih =>
    obtain ⟨k, w⟩ := e
    simp only [Store.put]
    split
    · simp [Store.look]
    · split
      · simp [Store.look]
      · rename_i h1 h2
        simp only [Store.look]
        rw [if_neg (fun h => h2 h.symm)]
        exact ih

theorem Store.look_put_other {α : Type} (m : Store α) (a b : Nat) (v : α) (h : a ≠ b) : (m.put a v).look b = m.look b := by
  induction m with
  | nil => simp [Store.put, Store.look, h]
  | cons e rest ih =>
    obtain ⟨k, w⟩ := e
    simp only [Store.put]
    split
    · simp [Store.look, h]
    · split
      · rename_i h2
        subst h2
        simp [Store.look, h]
      · simp only [Store.look, ih]

theorem Store.look_del_same {α : Type} (m : Store α) (a : Nat) : (m.del a).look a = none := by
  induction m with
  | nil => rfl
  | cons e rest ih =>
    obtain ⟨k, w⟩ := e
    simp only [Store.del]
    split
    · exact ih
    · rename_i h
      simp [Store.look, h, ih]

theorem Store.look_del_other {α : Type} (m : Store α) (a b : Nat) (h : a ≠ b) : (m.del a).look b = m.look b := by
  induction m with
  | nil => rfl
  | cons e rest ih =>
    obtain ⟨k, w⟩ := e
    simp only [Store.del]
    split
    · rename_i h2
      subst h2
      simp [Store.look, h, ih]
    · simp [Store.look, ih]

/-- What a key reads as after its own value was set. -/
@[simp] theorem Store.valAt_setAt_same {α : Type} [DecidableEq α] (d : α) (m : Store α) (a : Nat) (v : α) :
    (m.setAt d a v).valAt d a = v := by
  unfold Store.setAt Store.valAt
  split
  · rename_i h
    rw [Store.look_del_same, h]; rfl
  · rw [Store.look_put_same]; rfl

/-- Setting one key leaves what every other key reads as. -/
theorem Store.valAt_setAt_other {α : Type} [DecidableEq α] (d : α) (m : Store α) (a b : Nat) (v : α) (h : a ≠ b) :
    (m.setAt d a v).valAt d b = m.valAt d b := by
  unfold Store.setAt Store.valAt
  split
  · rw [Store.look_del_other m a b h]
  · rw [Store.look_put_other m a b v h]

/-- A filter keeps the keys of a store rising. -/
theorem Store.sortedFrom_filter {α : Type} (p : Nat × α → Bool) (m : Store α) (lo : Nat) (h : Store.sortedFrom lo m = true) :
    Store.sortedFrom lo (m.filter p) = true := by
  have weaken : ∀ (l : Store α) (a b : Nat), b ≤ a → Store.sortedFrom a l = true → Store.sortedFrom b l = true := by
    intro l a b hab hl
    cases l with
    | nil => rfl
    | cons e rest =>
      simp only [Store.sortedFrom, Bool.and_eq_true, decide_eq_true_eq] at hl ⊢
      exact ⟨Nat.le_trans hab hl.1, hl.2⟩
  induction m generalizing lo with
  | nil => rfl
  | cons e rest ih =>
    simp only [Store.sortedFrom, Bool.and_eq_true, decide_eq_true_eq] at h
    rw [List.filter_cons]
    split
    · simp only [Store.sortedFrom, Bool.and_eq_true, decide_eq_true_eq]
      exact ⟨h.1, ih _ h.2⟩
    · exact weaken _ _ _ (Nat.le_succ_of_le h.1) (ih _ h.2)

theorem Store.del_eq_filter {α : Type} (m : Store α) (a : Nat) : m.del a = m.filter fun e => decide (e.1 ≠ a) := by
  induction m with
  | nil => rfl
  | cons e rest ih =>
    obtain ⟨k, w⟩ := e
    simp only [Store.del, List.filter_cons]
    split
    · rename_i h; simp [h, ih]
    · rename_i h; simp [h, ih]

theorem Store.sortedFrom_put {α : Type} (m : Store α) (lo a : Nat) (v : α) (ha : lo ≤ a) (h : Store.sortedFrom lo m = true) :
    Store.sortedFrom lo (m.put a v) = true := by
  induction m generalizing lo with
  | nil => simp [Store.put, Store.sortedFrom, ha]
  | cons e rest ih =>
    obtain ⟨k, w⟩ := e
    simp only [Store.sortedFrom, Bool.and_eq_true, decide_eq_true_eq] at h
    simp only [Store.put]
    split
    · rename_i hlt
      simp only [Store.sortedFrom, Bool.and_eq_true, decide_eq_true_eq]
      exact ⟨ha, hlt, h.2⟩
    · split
      · rename_i hne he
        subst he
        simp only [Store.sortedFrom, Bool.and_eq_true, decide_eq_true_eq]
        exact ⟨ha, h.2⟩
      · rename_i hge hne
        simp only [Store.sortedFrom, Bool.and_eq_true, decide_eq_true_eq]
        exact ⟨h.1, ih (k + 1) (by omega) h.2⟩

theorem Store.mem_put {α : Type} (m : Store α) (a : Nat) (v : α) (e : Nat × α) (h : e ∈ m.put a v) : e = (a, v) ∨ e ∈ m := by
  induction m with
  | nil => simpa [Store.put] using h
  | cons x rest ih =>
    obtain ⟨k, w⟩ := x
    simp only [Store.put] at h
    split at h
    · simpa only [List.mem_cons] using h
    · split at h
      · simp only [List.mem_cons] at h ⊢
        exact h.elim .inl fun h => .inr (.inr h)
      · simp only [List.mem_cons] at h ⊢
        rcases h with h | h
        · exact .inr (.inl h)
        · rcases ih h with h | h
          · exact .inl h
          · exact .inr (.inr h)

/-- A byte that was written reads as written. -/
@[simp] theorem Mem.read_write_same (m : Mem) (a : Nat) (b : Byte) : (m.write a b).read a = b :=
  Store.valAt_setAt_same 0 m a b

/-- A write leaves every other byte. -/
theorem Mem.read_write_other (m : Mem) (a c : Nat) (b : Byte) (h : a ≠ c) : (m.write a b).read c = m.read c :=
  Store.valAt_setAt_other 0 m a c b h

theorem Mem.wf_filter (p : Nat × Byte → Bool) (m : Mem) (h : m.wf = true) : Mem.wf (m.filter p) = true := by
  unfold Mem.wf Store.wf at *
  simp only [Bool.and_eq_true, List.all_eq_true] at *
  exact ⟨Store.sortedFrom_filter p m 0 h.1, fun e he => h.2 e ((List.mem_filter.mp he).1)⟩

/-- A write keeps the canonical form. -/
theorem Mem.wf_write (m : Mem) (a : Nat) (b : Byte) (h : m.wf = true) : (m.write a b).wf = true := by
  unfold Mem.write Store.setAt
  split
  · rw [Store.del_eq_filter]; exact Mem.wf_filter _ m h
  · rename_i hb
    unfold Mem.wf Store.wf at *
    simp only [Bool.and_eq_true, List.all_eq_true] at *
    refine ⟨Store.sortedFrom_put m 0 a b (Nat.zero_le a) h.1, fun e he => ?_⟩
    rcases Store.mem_put m a b e he with rfl | he
    · simpa using hb
    · exact h.2 e he

theorem Mem.wf_writeN (bs : List Byte) (m : Mem) (a : Nat) (h : m.wf = true) : (m.writeN a bs).wf = true := by
  induction bs generalizing m a with
  | nil => exact h
  | cons b bs ih => exact ih (m.write a b) (a + 1) (Mem.wf_write m a b h)

theorem Mem.wf_zeroRange (m : Mem) (lo hi : Nat) (h : m.wf = true) : (m.zeroRange lo hi).wf = true :=
  Mem.wf_filter _ m h

/-- A range that was zeroed reads as zero, and nothing else changes. -/
theorem Mem.read_zeroRange (m : Mem) (lo hi a : Nat) :
    (m.zeroRange lo hi).read a = if lo ≤ a ∧ a < hi then 0 else m.read a := by
  unfold Mem.read Mem.zeroRange Store.valAt
  induction m with
  | nil => simp [Store.look]
  | cons e rest ih =>
    obtain ⟨k, w⟩ := e
    rw [List.filter_cons]
    by_cases hk : k = a
    · subst hk
      by_cases hin : lo ≤ k ∧ k < hi
      · rw [if_neg (by simp; omega), ih, if_pos hin, if_pos hin]
      · rw [if_pos (by simp; omega), if_neg hin]; simp [Store.look]
    · split
      · simp only [Store.look, if_neg hk, ih]
      · simp only [Store.look, if_neg hk, ih]

/-- A run of bytes is stored where it was written, byte by byte, and nothing else changes. -/
theorem Mem.read_writeN (bs : List Byte) (m : Mem) (a c : Nat) :
    (m.writeN a bs).read c = if a ≤ c ∧ c < a + bs.length then (bs[c - a]?).getD 0 else m.read c := by
  induction bs generalizing m a with
  | nil => rw [if_neg (by simp), Mem.writeN]
  | cons b bs ih =>
    rw [Mem.writeN, ih]
    by_cases h1 : a + 1 ≤ c ∧ c < a + 1 + bs.length
    · rw [if_pos h1, if_pos (by simp; omega)]
      have : c - a = (c - (a + 1)) + 1 := by omega
      rw [this, List.getElem?_cons_succ]
    · rw [if_neg h1]
      by_cases h2 : a = c
      · subst h2; simp
      · rw [Mem.read_write_other m a c b h2, if_neg (by simp; omega)]

end Sys2Proof.Machine
end

