-- ==== Sys2Proof/WellFormed.lean ====
section
/-! DEFINITION. Which commands are well formed: operands that the block can meet at its ports. The meanings are defined on every command; these checks only say which the world can send. -/

namespace Sys2Proof

/-- A register access: a 32-bit value fits its width, and a read brings none; offsets are multiples of the access size within the 64 MiB of W0 or the 1 MiB of W2 (Table 11-1); a configuration field is one of four. -/
def registerWriteOk (space : RegSpace) (off : BitVec 28) (value : BitVec 64) (wide : Bool) : Bool :=
  let n := if wide then 8 else 4
  (wide || decide (value.toNat < 2 ^ 32)) &&
    match space with
    | .w0 => off.toNat % n == 0 && decide (off.toNat + n ≤ 2 ^ 26)
    | .w2 => off.toNat % n == 0 && decide (off.toNat + n ≤ 2 ^ 20)
    | .readW0 => off.toNat % n == 0 && decide (off.toNat + n ≤ 2 ^ 26) && value == 0
    | .readW2 => off.toNat % n == 0 && decide (off.toNat + n ≤ 2 ^ 20) && value == 0
    | .config => decide (off.toNat < 4)

/-- A pair body: its fields fit the widths of Table 15-10, and the MAC is 16 bytes. -/
def pairBodyOk (b : PairBody) : Bool :=
  decide (b.role < 2 ^ 8) && decide (b.pairId < 2 ^ 16) && decide (b.place < 2 ^ 8) && decide (b.partner < 2 ^ 8) && decide (b.health < 2 ^ 16) &&
    decide (b.epoch < 2 ^ 64) && decide (b.tide < 2 ^ 64) && decide (b.seq < 2 ^ 32) && decide (b.leftUs < 2 ^ 32) &&
    decide (b.mirrorSeq < 2 ^ 32) && decide (b.config < 2 ^ 32) && b.mac.length == 16

/-- What a unit's checks find: blocks of Table 1-9, words of 20 bits, HBM units of the 192 GiB, and 1 to 3 attempts (Table 18-3). -/
def unitEventOk : UnitEvent → Bool
  | .hang .. => true
  | .arbiter _ => true
  | .correctedHbm u _ => decide (u < 3 * 2 ^ 30)
  | .correctedSram b w _ => Machine.isBlock b.toNat && decide (w < 2 ^ 20)
  | .retried _ b w n _ => decide (b.val < 28) && decide (w < 2 ^ 20) && decide (0 < n.val)
  | .lostHbm u => decide (u < 3 * 2 ^ 30)

/-- What a boot stage finds: a calibration record holds 48 voltages (R569), an EEPROM's addresses are 6 bytes (R719), a measurement digest 48 or 64. -/
def bootReportOk (r : BootReport) : Bool :=
  (match r.calibration with | some c => c.1.length == 48 | none => true) &&
    (match r.identity with | some x => x.macA.length == 6 && x.macB.length == 6 | none => true)

/-- A command is well formed. -/
def Instr.wf : Instr → Bool
  | .d2dFlitRetry .. => true
  | .d2dLinkFailed .. => true
  | .regionFault .. => true
  | .evcTideNowLoRead .. => true
  | .w4Read _ off len => decide (1 ≤ len.toNat) && decide (len.toNat ≤ 4096) && decide (off.toNat + len.toNat ≤ 2 ^ 36)
  | .w4Write _ off bytes => decide (1 ≤ bytes.length) && decide (bytes.length ≤ 4096) && decide (off.toNat + bytes.length ≤ 2 ^ 36)
  | .pgmW4DropsRead .. => true
  | .alloc .. => true
  | .release .. => true
  | .releaseWaitEnd .. => true
  | .share .. => true
  | .copy .. => true
  | .pin .. => true
  | .unpin .. => true
  | .query .. => true
  | .zero .. => true
  | .cowBreak _ _ bytes => !bytes.isEmpty
  | .cowCopyDone .. => true
  | .sqTail .. => true
  | .cqHead .. => true
  | .queueEnable .. => true
  | .queueDisable .. => true
  | .ringEntryFetch .. => true
  | .nop .. => true
  | .load .. => true
  | .run .. => true
  | .unload .. => true
  | .pageEntry .. => true
  | .signal .. => true
  | .wait .. => true
  | .completionRecordWrite .. => true
  | .matmul .. => true
  | .conv2d .. => true
  | .conv2dGrouped .. => true
  | .maxpool2d .. => true
  | .avgpool2d .. => true
  | .attention .. => true
  | .layernorm .. => true
  | .rmsnorm .. => true
  | .softmax .. => true
  | .groupnorm .. => true
  | .rope .. => true
  | .embedGather .. => true
  | .topk .. => true
  | .sample .. => true
  | .argmax .. => true
  | .resize .. => true
  | .colorConvert .. => true
  | .convert .. => true
  | .transpose .. => true
  | .reduce .. => true
  | .concat .. => true
  | .map .. => true
  | .kvtRead .. => true
  | .kvCreate .. => true
  | .kvExtend .. => true
  | .kvWrite _ _ rows => !rows.isEmpty
  | .kvAdvance .. => true
  | .kvFork _ kind _ => decide (kind < 2)
  | .kvTruncate .. => true
  | .kvReplace _ _ spans _ => spans.all fun x => decide (x.1 < 8)
  | .kvDestroy .. => true
  | .specOpen .. => true
  | .commit .. => true
  | .rollback .. => true
  | .editPendingExecute .. => true
  | .modelBind .. => true
  | .modelUnbind .. => true
  | .modelUnbindDone .. => true
  | .customerSet .. => true
  | .submit .. => true
  | .cancel .. => true
  | .adapterLoad .. => true
  | .adapterRetire .. => true
  | .adapterForceDone .. => true
  | .adapterGenFree .. => true
  | .streamOpen .. => true
  | .streamClose .. => true
  | .streamCloseDone .. => true
  | .reqRead .. => true
  | .servingRegionsTake .. => true
  | .samplerRow => true
  | .streamRecordWrite .. => true
  | .streamHead .. => true
  | .requestFree .. => true
  | .vdecOpen .. => true
  | .vdecFeed .. => true
  | .vdecFeedDone .. => true
  | .vdecClose .. => true
  | .vdecCloseDone .. => true
  | .vencOpen .. => true
  | .vencFrame .. => true
  | .vencClose .. => true
  | .vencCloseDone .. => true
  | .vencRate .. => true
  | .eventHead .. => true
  | .outHead .. => true
  | .outReturn .. => true
  | .decodeOutput .. => true
  | .eventRecordWrite .. => true
  | .flr .. => true
  | .vfEnableClear => true
  | .endpointReset => true
  | .dmaTail .. => true
  | .dmaRingEnable .. => true
  | .dmaRingDisable .. => true
  | .dmaDescriptorStart .. => true
  | .dmaDescriptorDone .. => true
  | .ctxCreate => true
  | .ctxDestroy => true
  | .ctxSet => true
  | .secSchedWrite .. => true
  | .teardown .. => true
  | .lateCompletion .. => true
  | .tlpReceive .. => true
  | .keyProg .. => true
  | .kSetGo .. => true
  | .ideIntegrityFailure .. => true
  | .tdispGetVersion .. => true
  | .tdispGetCapabilities .. => true
  | .lockInterfaceRequest .. => true
  | .getDeviceInterfaceReport .. => true
  | .getDeviceInterfaceState .. => true
  | .startInterfaceRequest .. => true
  | .stopInterfaceRequest .. => true
  | .tdispUnsupported .. => true
  | .tdiConfigChange .. => true
  | .spdmNegotiateAlgorithms .. => true
  | .spdmGetCertificate .. => true
  | .spdmChallenge .. => true
  | .spdmGetMeasurements .. => true
  | .spdmKeyExchange .. => true
  | .spdmSessionEnd .. => true
  | .openReq f => f.payload.length ≤ 1472
  | .openAuth f => f.payload.length ≤ 1472
  | .qopClose f => f.payload.length ≤ 1472
  | .qopRead f => f.payload.length ≤ 1472
  | .qopWrite f => f.payload.length ≤ 1472
  | .qopEvent => true
  | .arpRequest .. => true
  | .icmpEcho .. => true
  | .gclConfigChange => true
  | .rwPDurable => true
  | .restoreDefaults => true
  | .mbxGo .. => true
  | .mbxInRelease .. => true
  | .mbxDomainRead .. => true
  | .echo .. => true
  | .dictRead .. => true
  | .dictWrite .. => true
  | .keySet .. => true
  | .keyClear .. => true
  | .passwordSet .. => true
  | .netReset .. => true
  | .peerMail => true
  | .pwrVoteWrite .. => true
  | .capWrite .. => true
  | .marginRaise .. => true
  | .timeReq .. => true
  | .nak .. => true
  | .linkTrained .. => true
  | .dmaData => true
  | .dmaResult => true
  | .mirror => true
  | .mirrorAck => true
  | .snapshot => true
  | .replay => true
  | .replayRunDone .. => true
  | .compareResult => true
  | .compareOutput => true
  | .placeAnnounce => true
  | .peerVote => true
  | .fabScrubDone => true
  | .fabCtxGone => true
  | .fabXferDoorbell .. => true
  | .fabXferStart .. => true
  | .testAck .. => true
  | .berTest .. => true
  | .relinquish => true
  | .placeAdopt .. => true
  | .evcSelWrite .. => true
  | .evcCntLoRead .. => true
  | .evcSnapGo .. => true
  | .slackTrigger .. => true
  | .stop .. => true
  | .slackResume .. => true
  | .slackScan .. => true
  | .updBegin => true
  | .updData => true
  | .updEnd => true
  | .updAbort => true
  | .updActivate => true
  | .updCancel => true
  | .journalRecordDurable => true
  | .journalCompact .. => true
  | .compactDone => true
  | .flashFault .. => true
  | .chipFault .. => true
  | .nocHopResend .. => true
  | .sweepStart => true
  | .blockHang _ e => unitEventOk e
  | .extractN .. => true
  | .eoff .. => true
  | .wakeN .. => true
  | .perstN .. => true
  | .perstNRelease .. => true
  | .slotIdChange .. => true
  | .feedRange .. => true
  | .pwrReset .. => true
  | .tsnLinkChange .. => true
  | .registerWrite _ space off value wide _ => registerWriteOk space off value wide
  | .regionDrained .. => true
  | .regionSelftestDone .. => true
  | .rateWindowEnd _ tbs => tbs.all fun t => decide (t.worked ≤ 1048576)
  | .gptpSyncReceive .. => true
  | .tidePpsEdge .. => true
  | .tideRefValid .. => true
  | .tideRefInvalid .. => true
  | .sourceInvalid .. => true
  | .sourceSelect .. => true
  | .tideAcquire .. => true
  | .tideLock .. => true
  | .tideUnlock .. => true
  | .holdoverExpire .. => true
  | .fabricTimeReqSend .. => true
  | .peerDelay .. => true
  | .fillFrameDone .. => true
  | .copyFrameDone .. => true
  | .waitTest .. => true
  | .waitTimeout .. => true
  | .jobPlace .. => true
  | .operatorComplete .. => true
  | .jobComplete .. => true
  | .servingRegionsReturn .. => true
  | .decodeStepIssue .. => true
  | .prefillRowIssue .. => true
  | .specStepIssue .. => true
  | .servingStepComplete .. => true
  | .servingStepFault .. => true
  | .requestDeadlineMissed .. => true
  | .noMemoryTimeout .. => true
  | .decodePictureStart _ _ units => units.all fun u => decide (1 ≤ u.bytes)
  | .decodePictureDone .. => true
  | .pictureTimeout .. => true
  | .encodePictureStart .. => true
  | .sliceWrite .. => true
  | .encodePictureDone .. => true
  | .dmaTimeout .. => true
  | .contextStart .. => true
  | .sliceEnd .. => true
  | .contextSwitchRegionsFree .. => true
  | .contextClearDone .. => true
  | .sliceOverrun .. => true
  | .teardownWaitEnd .. => true
  | .teardownScrubStart .. => true
  | .teardownScrubDone .. => true
  | .openTimeout .. => true
  | .slotLockExpire .. => true
  | .sessionIdleTimeout .. => true
  | .gclActivate .. => true
  | .runToIdle .. => true
  | .stateDrop .. => true
  | .powerEntryDone .. => true
  | .wakeEvent .. => true
  | .wakeTimerFire .. => true
  | .powerExitDone .. => true
  | .brownOut .. => true
  | .powerWindowEnd _ w => w.rails.length == 12
  | .sensorRead _ sensors => sensors.length == 11 && sensors.zipIdx.all fun x => x.1.length == (if x.2 < 6 then 8 else 2)
  | .thermalTripClear .. => true
  | .thermalLoopTick .. => true
  | .energyIntervalEnd .. => true
  | .timeResp .. => true
  | .msg _ _ flit => flit.length == 256
  | .linkFail .. => true
  | .reassemblyTimeout .. => true
  | .mirrorLost .. => true
  | .peerVoteSend .. => true
  | .peerVoteLapse .. => true
  | .testReq _ _ lanes _ => decide (lanes.toNat < 16)
  | .berSchedule .. => true
  | .berTestEnd _ _ errors => errors.length == 4
  | .heartbeatSend .. => true
  | .heartbeat _ _ body => pairBodyOk body
  | .pathLost .. => true
  | .renewSend .. => true
  | .renew _ _ body => pairBodyOk body
  | .renewAck _ _ body => pairBodyOk body
  | .leaseEnd .. => true
  | .pairRelease _ _ body => pairBodyOk body
  | .claimTimer .. => true
  | .initClaimTimer .. => true
  | .claimResend .. => true
  | .claim _ _ body => pairBodyOk body
  | .grant _ _ body => pairBodyOk body
  | .deny _ _ body => pairBodyOk body
  | .placeAdoptTimeout .. => true
  | .evcSnapDone .. => true
  | .slackTideAt .. => true
  | .stopRepeat .. => true
  | .slackCaptureDone _ held => held.all fun h => Machine.isBlock h.block.toNat && (match h.body with
      | .blockState st _ _ => decide (st < 6)
      | .channel a b kind hop _ l => Machine.isBlock a.toNat && Machine.isBlock b.toNat && decide (kind < 5) && decide (hop < 256) && decide (1 ≤ l.length) && decide (l.length ≤ 256)
      | .scan _ => false)
  | .scanDone _ scan => scan.all fun h => Machine.isBlock h.block.toNat && (match h.body with | .scan _ => true | _ => false)
  | .wfgBuild _ _ sinces => sinces.all fun t => decide (t < 2 ^ 64)
  | .updDataDone .. => true
  | .bootAttemptTimeout .. => true
  | .selftestWindowOpen .. => true
  | .selftestWindowDone .. => true
  | .windowAbandon .. => true
  | .sweepDone .. => true
  | .standbyReplay .. => true
  | .watchdogMiss .. => true
  | .recoveryDone .. => true
  | .overVoltageDisconnect .. => true
  | .powerOn .. => true
  | .feedLoss .. => true
  | .feedReturn .. => true
  | .bankDepleted .. => true
  | .coolantSample .. => true
  | .bootStageDone _ report => bootReportOk report
  | .moduleReady .. => true

end Sys2Proof
end

