-- ==== Sys2Proof/Tests/Slice0.lean ====
section
/-! SUPPORT. The model's own tests: what well-formedness refuses, and for every statement a state and operands that meet its hypotheses together. -/

namespace Sys2Proof.Tests

set_option Elab.async false

open Sys2Proof Sys2Proof.Machine

/-- A ready module, not paired, every function enabled, its journal accepting records. -/
def ready : State :=
  { State.reset with
    board := { State.reset.board with stage := 7, ready := true }
    config := [(0, 1)], journal := { State.reset.journal with accepting := true }
    pair := { State.reset.pair with role := .alone, place := 4 } }

/-- An open session of the Operator's slot 2. -/
def session : QopSession :=
  { number := 3, opening := false, keySlot := 2, events := true, clientNonce := [], moduleNonce := [], ip := 0, udp := 0, key := [], role := 1
    lastSeq := none, eventSeq := 0, queue := [], lost := false, heard := 0, idleMs := 10000, rtag := 0, seen := [], closing := none }

/-- A command that the world cannot send is not well formed, one for each check. -/
theorem test_wf_refuses_empty_w4_read : (Instr.w4Read 0 0 0).wf = false := by decide

theorem test_wf_refuses_long_w4_read : (Instr.w4Read 0 0 4097).wf = false := by decide

theorem test_wf_refuses_w4_write_past_the_window : (Instr.w4Write 0 0xFFFFFFFFF [1, 2]).wf = false := by decide

theorem test_wf_accepts_w4_write_at_the_end : (Instr.w4Write 0 0xFFFFFFFFE [1, 2]).wf = true := by decide

theorem test_no_word_spells_a_command : decodeTableWord 32 0x12345678 = none := rfl

theorem test_wf_refuses_empty_stores : (Instr.cowBreak 0 0 []).wf = false ∧ (Instr.kvWrite 0 0 []).wf = false := by
  decide

theorem test_wf_refuses_bad_page_table_edits : (Instr.kvFork 0 2 0).wf = false ∧ (Instr.kvReplace 0 0 [(8, [])] false).wf = false := by decide

theorem test_wf_refuses_long_qop_payload :
    let f : QopFrame := { port := .a, ip := 0, udp := 0, rtag := none, payload := List.replicate 1473 0 }
    (Instr.openReq f).wf = false ∧ (Instr.openAuth f).wf = false ∧ (Instr.qopClose f).wf = false ∧ (Instr.qopRead f).wf = false ∧
      (Instr.qopWrite f).wf = false := by decide +kernel

theorem test_wf_refuses_misplaced_register_writes :
    (Instr.registerWrite 0 .w0 2 0 false false).wf = false ∧ (Instr.registerWrite 0 .w2 0x100000 0 false false).wf = false ∧
      (Instr.registerWrite 0 .w0 4 0 true false).wf = false ∧ (Instr.registerWrite 0 .config 4 0 false false).wf = false ∧
      (Instr.registerWrite 0 .w0 0 0x100000000 false false).wf = false := by decide

theorem test_wf_refuses_misshapen_measurements :
    (Instr.rateWindowEnd 0 [⟨0, 0, 1048577⟩]).wf = false ∧ (Instr.powerWindowEnd 0 ⟨[], 0, 0⟩).wf = false ∧
      (Instr.sensorRead 0 [[25]]).wf = false ∧ (Instr.berTestEnd 0 0 [1]).wf = false ∧ (Instr.testReq 0 0 16 0).wf = false ∧
      (Instr.decodePictureStart 0 0 [⟨0, 0, 0⟩]).wf = false := by decide

theorem test_wf_refuses_short_pair_mac :
    let b : PairBody := ⟨5, 1, 4, 5, 0, 1, 0, 1, 0, 0, 0, []⟩
    (Instr.heartbeat 0 .tsn b).wf = false ∧ (Instr.renew 0 .tsn b).wf = false ∧ (Instr.renewAck 0 .tsnA b).wf = false ∧
      (Instr.pairRelease 0 .tsn b).wf = false ∧ (Instr.claim 0 .tsn b).wf = false ∧ (Instr.grant 0 .tsnA b).wf = false ∧
      (Instr.deny 0 .tsnA b).wf = false := by decide

theorem test_wf_refuses_misshapen_reports :
    (Instr.slackCaptureDone 0 [⟨0xB00, none, .blockState 0 false 0⟩]).wf = false ∧ (Instr.slackCaptureDone 0 [⟨0, none, .scan []⟩]).wf = false ∧
      (Instr.scanDone 0 [⟨0, none, .blockState 0 false 0⟩]).wf = false ∧ (Instr.wfgBuild 0 true [2 ^ 64]).wf = false ∧ (Instr.msg 0 0 [0]).wf = false ∧
      (Instr.blockHang 0 (.lostHbm (3 * 2 ^ 30))).wf = false ∧ (Instr.blockHang 0 (.retried 0 28 0 1 false)).wf = false ∧
      (Instr.bootStageDone 0 ⟨true, true, some ([], 0), none, 120, [], 0, [], [], []⟩).wf = false := by decide

/-! ### StepRunsTheFrontCommand -/

theorem hyps_StepRunsTheFrontCommand : ({ State.reset with pending := [.samplerRow, .endpointReset] } : State).pending = [.samplerRow, .endpointReset] := rfl

/-! ### IdleStepPassesOneNanosecond -/

theorem hyps_IdleStepPassesOneNanosecond : State.reset.pending = [] := rfl

/-! ### TimeAdvancesTideAndHoldoverError -/

theorem hyps_TimeAdvancesTideAndHoldoverError :
    ({ State.reset.tide with mode := .holdover, refValid := true } : TideUnit).mode = .holdover ∧
    ({ State.reset.tide with mode := .holdover, refValid := true, enable := 15 } : TideUnit).refInUse = true ∧
    ({ State.reset.tide with mode := .holdover } : TideUnit).refInUse = false ∧ State.reset.tide.mode ≠ .holdover := by decide

/-! ### StepKeepsMemoryCanonical -/

theorem hyps_StepKeepsMemoryCanonical : ({ State.reset with hbm := [(5, 1), (7, 2)] } : State).canonical = true ∧
    (step { State.reset with hbm := [(5, 1), (7, 2)] }) = .next (({ State.reset with hbm := [(5, 1), (7, 2)] } : State).elapse 1) := ⟨by decide, rfl⟩

/-! ### QueueIsWorkedOffInOrder -/

theorem hyps_QueueIsWorkedOffInOrder : exec .samplerRow State.reset = .next State.reset ∧
    step { State.reset with pending := [.samplerRow] } = .next State.reset ∧
    Sys2Proof.core.run 1 { State.reset with pending := [.samplerRow] } = .next State.reset := ⟨rfl, rfl, rfl⟩

/-! ### HostAccessGate -/

theorem hyps_HostAccessGate :
    let a : HostAccess := ⟨0, .w2, 0, 4, true, true, .samplerRow⟩
    let sleeping : State := { ready with power := { ready.power with mode := 2 } }
    let stopped : State := { ready with obs := { ready.obs with slack := { ready.obs.slack with mode := .captured } } }
    (({ State.reset with board := { State.reset.board with powered := false } } : State).fnPresent a.fn = false) ∧
    (({ ready with board := { ready.board with ready := false } } : State).fnPresent a.fn = true) ∧
    (stopped.fnPresent a.fn = true ∧ stopped.board.ready = true ∧ stopped.slackRuns = false ∧ a.ofHeldUnit = true) ∧
    (let s := ready.setCtx 0 { Context.reset with shut := true }
     s.fnPresent a.fn = true ∧ s.board.ready = true ∧ s.slackRuns = true ∧ (s.ctx a.fn).shut = true ∧ a.exemptInTeardown = false) ∧
    (sleeping.fnPresent a.fn = true ∧ sleeping.board.ready = true ∧ sleeping.slackRuns = true ∧ (sleeping.ctx a.fn).shut = false ∧
      sleeping.pair.role ≠ .leaving ∧ sleeping.asleep = true ∧ a.servedAsleep = false ∧ sleeping.power.wake = none) ∧
    ready.serves a.fn = true ∧ a.write = true ∧ ({ a with write := false } : HostAccess).write = false ∧ ({ a with write := false } : HostAccess).win ≠ .w4 ∧
    (ready.serves 3 = true ∧ (3 : BitVec 28).toNat % 4 ≠ 0 ∧ within (0x20001C : BitVec 28).toNat 0x200000 0x20 = true ∧ within (0x200100 : BitVec 28).toNat 0x200100 0x10 = true ∧
      (0x2201C0 : BitVec 28).toNat = 0x220000 + 0x40 * 7 ∧ (ready.queue 3 7).enable = false ∧ (({ ready with queues := [(24, { QueueState.reset with enable := true })] } : State).queue 3 0).enable = true ∧
      rowOfRead 0 false (0x70013C : BitVec 28).toNat = none ∧ atCounter false (0x70013C : BitVec 28).toNat = false ∧ (0x70013C : BitVec 28).toNat = 0x700100 + 4 * 15 ∧
      rowOfRead 3 false (0x500000 : BitVec 28).toNat = none ∧ atCounter false (0x500000 : BitVec 28).toNat = false ∧ ready.fnPresent 0 = true) := by
  decide +kernel

/-! ### SharedReports -/

theorem hyps_SharedReports :
    (session.events = true ∧ session.opening = false ∧ session.queue.length < 256) ∧
    (let x := { session with queue := List.replicate 256 ⟨0, 0, []⟩ }; x.events = true ∧ x.opening = false ∧ x.queue.length = 256) ∧
    ({ session with events := false } : QopSession).events = false ∧ (ready.journal.accepting = true ∧ ready.journal.retired < 1024) ∧
    State.reset.journal.accepting = false := by decide +kernel

/-! ### TideReferenceInputs -/

theorem hyps_TideReferenceInputs :
    ((State.reset.tideAfter 500).toNat % 1000000000 ≤ 500) ∧ (999999500 ≤ (State.reset.tideAfter 999999500).toNat % 1000000000) ∧
    (500 < (State.reset.tideAfter 501).toNat % 1000000000 ∧ (State.reset.tideAfter 501).toNat % 1000000000 < 999999500) ∧
    (State.reset.now + 1048576 = State.reset.resetAt + 1 * 1048576) := by decide

/-! ### TideDiscipline -/

theorem hyps_TideDiscipline :
    let tu (f : TideUnit → TideUnit) : State := { ready with tide := f ready.tide }
    let fed (t : TideUnit) : TideUnit := { t with tsnA := { t.tsnA with valid := true, last := 0, interval := 1000000000 } }
    let dom : BitVec 7 := BitVec.ofNat 7 (ready.dictVal 0x140004)
    (dom.toNat = ready.dictVal 0x140004 ∧ (dom + 1).toNat ≠ ready.dictVal 0x140004) ∧
    (((tu fed).tide.inputOf (timeSource (.tsn .a))).valid = true ∧
      ((tu fed).tide.inputOf (timeSource (.tsn .a))).last + 3 * ((tu fed).tide.inputOf (timeSource (.tsn .a))).interval ≤ (tu fed).now + 3000000000) ∧
    ((tu fed).tide.select ≠ .none ∧ (tu fed).tide.select ≠ (tu fed).tide.source ∧ (tu fed).tide.mode = .free) ∧
    (let s := tu fun t => { t with mode := .acquiring, goodSince := some 0 }
     s.tide.mode = .acquiring ∧ s.tide.goodSince = some 0 ∧ 0 + 1000000000 ≤ s.now + 1000000000) ∧
    (let s := tu fun t => { fed t with mode := .locked, source := .tsnA, badIntervals := 3 }
     s.tide.mode = .locked ∧ (s.tide.inputOf s.tide.source).valid = true ∧ 3 ≤ s.tide.badIntervals) ∧
    (let s := tu fun t => { t with mode := .holdover }
     s.tide.mode = .holdover ∧ s.tide.limit * errUnit < s.tide.errFine + 10 ^ 18 * (if s.tide.refInUse then 10 else 90000)) ∧
    (let s := tu fun t => { t with mode := .locked }
     s.tide.mode = .locked ∧ (s.elapse 1).tide.select = .none) := by decide +kernel

/-! ### BoardPins -/

theorem hyps_BoardPins :
    let b (f : Board → Board) : State := { ready with board := f ready.board }
    let off : State := b fun x => { x with powered := false, feedMv := 54000, eoff := false }
    let asleep : State := { ready with power := { ready.power with mode := 2 } }
    (ready.board.powered = true ∧ ready.power.mode ≠ 4 ∧ ready.board.extractN = true ∧ ready.pair.role ≠ .leaving ∧ ready.journal.accepting = true) ∧
    (ready.board.wakeN = true ∧ ready.board.eoffN = true ∧ ready.asleep = false ∧ asleep.asleep = true ∧ asleep.power.wake = none ∧
      off.board.wakeN = true ∧ feedOk off.board.feedMv = true) ∧
    (ready.board.perstN = true ∧ ready.board.bootWaits = false ∧ (ready.setCtx 3 { Context.reset with mode := .active }).resident 3 = true) ∧
    (let s := b fun x => { x with perstN := false, perstAt := 0 }
     s.board.perstN = false ∧ s.board.perstAt + 1000000000 ≤ s.now + 1000000000 ∧ s.now + 5 < s.board.perstAt + 1000000000 ∧
       { s.board with bootWaits := true }.bootWaits = true) ∧
    (ready.serves 0 = true ∧ ready.serves 3 = true ∧ (1 : BitVec 32) ≠ 0x5A5AA5A5) ∧ ready.board.slotPins ≠ 9 := by decide +kernel

/-! ### BoardFeed -/

theorem hyps_BoardFeed :
    let b (f : Board → Board) : State := { ready with board := f ready.board }
    let off (eoffN : Bool) : State := b fun x => { x with powered := false, feedMv := 0, eoffN := eoffN, eoff := false }
    (ready.board.powered = true ∧ ready.board.lost = false ∧ ready.board.feedReported = false ∧ feedOk 47000 = true) ∧
    ((b fun x => { x with lost := true }).board.lost = true ∧ feedOk (off true).board.feedMv = false ∧ (off true).board.eoffN = true ∧
      (off false).board.eoffN = false ∧ (off true).board.powered = false) ∧
    (ready.board.coolantSince = none ∧ coolantOut 90 0 = true ∧ coolantOut 30 40 = false ∧
      (b fun x => { x with coolantSince := some 0 }).board.coolantSince = some 0 ∧ ready.board.coolantReported = false) := by decide +kernel

/-! ### BootStages -/

theorem hyps_BootStages :
    let at_ (n : Nat) : State := { State.reset with board := { State.reset.board with stage := n } }
    let r : BootReport := ⟨true, true, none, none, 120, [], 0, [], [], []⟩
    (∀ n, n < 7 → (at_ n).booting = true) ∧ ready.booting = false ∧ (at_ 1).slotHeaderOk = true ∧ (at_ 2).slotPartsOk = true ∧ r.verified = true ∧
      (at_ 1).fw.pending ≠ some (at_ 1).fw.booting ∧ 120 ≤ r.bankTenths ∧ (at_ 5).integ.sweep = none := by
  decide +kernel

/-! ### ReadyAndBootAttempts -/

theorem hyps_ReadyAndBootAttempts :
    let s : State := { State.reset with board := { State.reset.board with stage := 7 } }
    let p : State := { s with fw := { s.fw with pending := some 0 } }
    let q : State := { s with fw := { s.fw with pending := some 0, attempts := 3 } }
    s.booting = true ∧ s.board.stage = 7 ∧ s.fw.pending ≠ some s.fw.booting ∧ p.fw.pending = some p.fw.booting ∧ p.booting = true ∧
      (p.board.powered = true ∧ p.board.ready = false ∧ p.board.bootWaits = false ∧ p.board.stuck = false ∧
        p.board.bootAt + 120000000000 ≤ p.now + 120000000000) ∧ p.fw.attempts < 3 ∧ 3 ≤ q.fw.attempts ∧ q.fw.pending = some 0 := by
  decide +kernel

/-! ### UpdateCommands -/

/-- `ready` with an update command of this opcode and length in progress and the path in this state. -/
def updating (op bytes : Nat) (m : UpdMode) : State :=
  { ready with
    paths := [(48, { CmdPath.reset with busy := true })]
    fw := { ready.fw with mode := m, command := some (BitVec.ofNat 128 (bytes * 2 ^ 32 + op)), received := 4096 } }

theorem hyps_UpdateCommands :
    ((updating 1 4095 .idle).updCommand 1 = some 0xFFF00000001 ∧ updBytes 0xFFF00000001 ≠ 4096) ∧
    ((updating 2 0 .receiving).updCommand 2 = some 2 ∧ (updating 2 0 .receiving).dataRefusal 0 0 = some stLengthBounds) ∧
    ((updating 3 0 .idle).updCommand 3 = some 3 ∧ (updating 3 0 .idle).fw.mode ≠ .receiving) ∧
    (updating 4 0 .verified).updCommand 4 = some 4 ∧ (updating 5 0 .verified).updCommand 5 = some 5 ∧
    (updating 6 0 .pending).updCommand 6 = some 6 ∧ ready.updCommand 1 = none := by decide +kernel

/-- A DATA within bounds: 64 bytes of a mapped page of PF0's context, an image of 8,192 bytes being received. -/
theorem hyps_UpdateCommands_data :
    let s0 := updating 2 64 .receiving
    let h : List Byte := List.replicate 16 0 ++ [0, 0x20, 0, 0]
    let s : State := { s0 with pm := { s0.pm with maps := [(0, ⟨0, 0⟩)], frames := [(0, ⟨0, .ctx 0 1, 1, 0, false, false, .held⟩)] }
                               fw := { s0.fw with slotB := ⟨false, h, []⟩ } }
    s.updCommand 2 = some 0x4000000002 ∧ s.inRecovery = false ∧ s.dataRefusal (updCva 0x4000000002) (updBytes 0x4000000002) = none ∧
      s.fw.received < hdrImageBytes (s.fw.slot s.fw.writes).header := by decide +kernel

/-! ### JournalAndFlash -/

theorem hyps_JournalAndFlash :
    let r : JournalRec := ⟨1, 1, 0, 0, 0, true, []⟩
    let j : State := { ready with journal := { ready.journal with queued := [r] } }
    let c : State := { ready with journal := { ready.journal with compacting := some 3 } }
    let d : State := { ready with fw := { ready.fw with taking := some [1] } }
    (j.board.powered = true ∧ j.journal.queued = r :: []) ∧
    (ready.woOpen = true ∧ ready.mgmtUp = true ∧ ready.journal.accepting = true ∧ ready.journal.retired < 1024 ∧ ready.journal.compacting = none) ∧
    (c.journal.compacting = some 3 ∧ c.journal.queued = []) ∧
    (d.fw.taking = some [1] ∧ d.journal.queued = [] ∧ d.pair.role ≠ .leaving ∧ d.board.lost = false) ∧ ready.fw.taking = none ∧
    (0x18000000 ≤ (0x18000000 : BitVec 30).toNat ∧ (0x18000000 : BitVec 30).toNat < 0x30000000) ∧
    (0x30000000 ≤ (0x30000000 : BitVec 30).toNat ∧ (0x30000000 : BitVec 30).toNat < 0x38000000) ∧ 0x38000000 ≤ (0x38000000 : BitVec 30).toNat := by
  decide +kernel

/-! ### ContextCommands -/

/-- `ready` with a context command in progress. -/
def commanding (v : BitVec 64) : State :=
  { ready with paths := [(32, { CmdPath.reset with busy := true })], sched := { ready.sched with command := some v } }

/-- A context that is ACTIVE with generation 1. -/
def active : Context := { Context.reset with mode := .active, gen := 1, quota := 64, weight := 1 }

theorem hyps_ContextCommands :
    let v (op : Nat) : BitVec 64 := BitVec.ofNat 64 (64 * 2 ^ 32 + 2 ^ 20 + 3 * 2 ^ 16 + op)
    ((commanding (v 1)).secCommand 1 = some (v 1) ∧ (commanding (v 1)).createRefusal (v 1) = none) ∧
    (commanding (v 1 - 2 ^ 20)).createRefusal (v 1 - 2 ^ 20) = some stBadSecCommand ∧
    (let s := (commanding (v 2)).setCtx 3 active; s.secCommand 2 = some (v 2) ∧ s.resident (secFunc (v 2)) = true) ∧
    (commanding (v 2)).resident (secFunc (v 2)) = false ∧
    (let s := (commanding (v 3)).setCtx 3 active; s.secCommand 3 = some (v 3) ∧ s.setRefusal (v 3) = none) ∧
    (commanding (v 3)).setRefusal (v 3) = some stCtxState ∧ ready.secCommand 1 = none ∧ ready.serves 0 = true ∧
    ((0x01000000 : BitVec 32) + 99).toNat % 2 ^ 17 < 100 := by decide +kernel

/-! ### TeardownOfAContext -/

theorem hyps_TeardownOfAContext :
    let s := ready.setCtx 3 active
    let due := ready.setCtx 3 { active with tear := .due false }
    let wait := ready.setCtx 3 { active with tear := .waiting, mode := .teardown, shut := true }
    let queued : State := { ready.setCtx 3 { active with tear := .queued, mode := .scrub } with pm := { ready.pm with fills := [⟨0, .scrub 3⟩] } }
    let scrubbing := ready.setCtx 3 { active with tear := .scrubbing, mode := .scrub }
    let gone := ready.setCtx 3 { Context.reset with ide := ⟨[], none, false, true⟩ }
    (s.fnPresent 3 = true ∧ s.fnPresent 0 = true ∧ s.asleep = false ∧ s.resident 3 = true ∧ s.board.powered = true ∧ s.power.mode ≠ 4) ∧
    State.reset.fnPresent 3 = false ∧
    (due.board.ready = true ∧ due.slackRuns = true ∧ (due.ctx 3).tear = .due false ∧ due.asleep = false) ∧
    (wait.clocked = true ∧ (wait.ctx 3).tear = .waiting ∧ wait.tearQuiet 3 = true) ∧
    (queued.clocked = true ∧ (queued.ctx 3).tear = .queued ∧ queued.pm.fills = ⟨0, .scrub 3⟩ :: [] ∧ queued.integ.recovering = none ∧
      queued.integ.persistent = none) ∧
    (scrubbing.clocked = true ∧ (scrubbing.ctx 3).tear = .scrubbing ∧
      (scrubbing.ctx 3).tearAt + 200000 + (scrubbing.ctx 3).scrubBytes * 995 / 1000000 ≤ scrubbing.now + 200000) ∧
    ((gone.ctx 3).ide.retired = true ∧ gone.resident 3 = false) ∧ (ready.ctx 3).ide.retired = false ∧ (ready.ctx 3).mode = .free := by decide +kernel

/-! ### TimeSharing -/

/-- A run of context 3 that holds region 0. -/
def run3 : Job :=
  { ctx := 3, gen := 1, q := 0, entry := 0, prog := 3072, bindings := [], scratch := 0, priority := 0, deadline := 0, bell := 0, seq := 0
    placed := true, regions := [0], ops := [], numFlags := 0, fault := none, index := none, once := false, inputs := some [], started := 0, energy := 0, padT := [] }

theorem hyps_TimeSharing :
    let s : State := { ready.setCtx 3 active with jobs := [(0, { run3 with placed := false })] }
    let held : State := { s with sched := { s.sched with holds := some 5 } }
    let on : State := { s with sched := { s.sched with running := some 3 } }
    let two : State := { on.setCtx 4 active with jobs := [(0, run3), (1, { run3 with ctx := 4 })] }
    let sw : State := { s with jobs := [(0, run3)], sched := { s.sched with running := some 3, switching := some 0, switchMs := 1 } }
    let cl : State := { s with sched := { s.sched with clearing := some 0 } }
    (s.computeOpen = true ∧ s.sched.running = none ∧ s.sched.clearing = none ∧ s.allRegionsFree = true ∧
      (s.elapse 1).nextCandidate none = some 3 ∧ s.sched.holds = none) ∧ held.sched.holds = some 5 ∧
    (on.clocked = true ∧ on.sched.switching = none ∧ (on.elapse 1).candidate 3 = true ∧ on.sched.sliceStart + 1000 * on.sched.sliceLen ≤ on.now + 1 ∧
      (on.elapse 1).nextCandidate (some 3) = none) ∧ (two.elapse 1).nextCandidate (some 3) = some 4 ∧
    (sw.clocked = true ∧ sw.allRegionsFree = true ∧ sw.integ.windows = [] ∧ sw.jobs.look 0 = some run3 ∧
      0 + 1000000 * sw.sched.switchMs ≤ sw.now + 1000000) ∧
    (cl.board.powered = true ∧ cl.asleep = false ∧ cl.sched.clearing = some 0) ∧ cl.now + 11899 < 0 + 11900 := by decide +kernel

/-! ### TdispRequests -/

theorem hyps_TdispRequests :
    let s := ready.setCtx 3 { active with ide := ⟨[], none, true, false⟩ }
    let l := ready.setCtx 3 { active with mode := .locked, tdi := .locked }
    s.doeOpen = true ∧ s.fnPresent 3 = true ∧ s.lockable 3 = true ∧ ready.lockable 3 = false ∧
      (l.doeOpen = true ∧ (l.ctx 3).mode = .locked ∧ (l.ctx 3).tdi = .locked ∧ l.fnPresent 3 = true) ∧ (s.ctx 3).tdi ≠ .locked ∧
      s.resident 3 = true ∧ (s.ctx 3).mode ≠ .locked ∧ State.reset.doeOpen = false ∧ ({ ready with config := [] } : State).fnPresent 3 = false := by
  decide +kernel

/-! ### IdeAndSpdm -/

theorem hyps_IdeAndSpdm :
    let six : Store (BitVec 256) := [(0, 1), (1, 1), (2, 1), (4, 1), (5, 1), (6, 1)]
    let s := ready.setCtx 3 { active with ide := ⟨six, none, false, false⟩ }
    let sec := ready.setCtx 3 { active with ide := ⟨six, some 0, true, false⟩ }
    let loc := ready.setCtx 3 { active with ide := ⟨six, some 0, true, false⟩, mode := .locked, tdi := .run }
    let neg : State := { ready with trust := { ready.trust with negotiated := true } }
    let bad : State := { ready with trust := { ready.trust with fault := true } }
    (s.doeOpen = true ∧ s.ideShut 3 = false ∧ (s.ctx 3).ide.secure = false ∧ (s.ctx 3).ide.complete 0 = true) ∧
    ((sec.ctx 3).ide.secure = true ∧ (sec.ctx 3).ide.active = some 0 ∧ sec.fnPresent 3 = true ∧ (sec.ctx 3).mode ≠ .locked) ∧
    (ready.ctx 3).ide.complete 0 = false ∧ ((loc.ctx 3).mode = .locked ∧ loc.fnPresent 3 = true ∧ (loc.ctx 3).ide.active = some 0) ∧
    (ready.doeOpen = true ∧ ready.trust.fault = false ∧ ready.trust.negotiated = false) ∧ (bad.doeOpen = true ∧ bad.trust.fault = true) ∧
    (neg.doeOpen = true ∧ neg.trust.negotiated = true ∧ neg.trust.sessions.contains 1 = false ∧ neg.trust.sessions.length < 4) := by decide +kernel

/-! ### PageCommandsCompleteOnTheirPath -/

/-- `active` context 3 with one page command of its register path waiting: OPCODE, COUNT, CVA. -/
def paging (op count cva : Nat) : State :=
  { ready.setCtx 3 active with
    paths := [(3, { CmdPath.reset with busy := true })]
    pm := { ready.pm with queue := [⟨.regs 3, 1, BitVec.ofNat 256 (cva * 2 ^ 64 + count * 2 ^ 32 + op * 2 ^ 24)⟩] } }

/-- The same with frame 0 of context 3 mapped at CVA 0, counted `refs` times. -/
def pagingMapped (op count cva refs pins : Nat) : State :=
  let s := paging op count cva
  { s with pm := { s.pm with maps := [(mapKey 3 0, ⟨0, 0⟩)], frames := [(0, ⟨0, .ctx 3 1, refs, pins, false, false, .held⟩)] } }

/-- The command that `paging` holds. -/
def pageCmd (op count cva : Nat) : PmCmd := ⟨.regs 3, 1, BitVec.ofNat 256 (cva * 2 ^ 64 + count * 2 ^ 32 + op * 2 ^ 24)⟩

theorem hyps_PageCommandsCompleteOnTheirPath :
    (∀ op ∈ [1, 2, 3, 4, 5, 6, 8], (paging op 0 0).unitsRun = true ∧ (paging op 0 0).nextPageCmd (.regs 3) op = some (pageCmd op 0 0, []) ∧
      (paging op 0 0).judgePage (pageCmd op 0 0) = some stOk) ∧
    (∀ op ∈ [2, 4, 5, 6, 8], (paging op 1 0).judgePage (pageCmd op 1 0) = none ∧ (paging op 1 0).rangePages (pageCmd op 1 0) = false) ∧
    ((pagingMapped 1 1 0 1 0).judgePage (pageCmd 1 1 0) = none ∧ (pagingMapped 1 1 0 1 0).rangeMapped 3 0 1 = true) ∧
    ((paging 1 100 0).rangeMapped 3 0 100 = false ∧ (paging 1 100 0).quotaOk 3 100 0 = false ∧ (paging 1 100 0).judgePage (pageCmd 1 100 0) = none) ∧
    ((pagingMapped 7 1 0 2 3).nextPageCmd (.regs 3) 7 = some (pageCmd 7 1 0, []) ∧ (pagingMapped 7 1 0 2 3).judgePage (pageCmd 7 1 0) = none ∧
      (pagingMapped 7 1 0 2 3).pageAt 3 (recGran (pageCmd 7 1 0).record) 0 = some ⟨0, 0⟩ ∧
      (pagingMapped 7 1 0 2 3).frame 0 = some ⟨0, .ctx 3 1, 2, 3, false, false, .held⟩) ∧ ready.nextPageCmd (.regs 3) 1 = none := by decide +kernel

/-! ### PageCommandsMapAndRelease -/

theorem hyps_PageCommandsMapAndRelease :
    (let s := paging 1 2 0
     s.nextPageCmd (.regs 3) 1 = some (pageCmd 1 2 0, []) ∧ s.judgePage (pageCmd 1 2 0) = none ∧ s.rangeMapped 3 0 2 = false ∧ s.quotaOk 3 2 0 = true ∧
       s.unitsRun = true) ∧
    (let s := pagingMapped 2 1 0 1 0
     s.nextPageCmd (.regs 3) 2 = some (pageCmd 2 1 0, []) ∧ s.judgePage (pageCmd 2 1 0) = none ∧ s.rangePages (pageCmd 2 1 0) = true ∧
       s.somePage (pageCmd 2 1 0) (fun f => decide (0 < f.pins)) = false) ∧
    (pagingMapped 2 1 0 1 1).somePage (pageCmd 2 1 0) (fun f => decide (0 < f.pins)) = true ∧
    (let r : BitVec 256 := (pageCmd 3 1 0).record + (4096 : BitVec 256) <<< 128
     let s0 := pagingMapped 3 1 0 1 0
     let s : State := { s0 with pm := { s0.pm with queue := [⟨.regs 3, 1, r⟩] } }
     s.nextPageCmd (.regs 3) 3 = some (⟨.regs 3, 1, r⟩, []) ∧ s.judgePage ⟨.regs 3, 1, r⟩ = none ∧ recCount r = 1 ∧
       s.rangeMapped 3 (recCva2 r / granule) 1 = false) ∧
    (∀ op ∈ [4, 5, 8], (pagingMapped op 1 0 1 0).nextPageCmd (.regs 3) op = some (pageCmd op 1 0, []) ∧
      (pagingMapped op 1 0 1 0).judgePage (pageCmd op 1 0) = none ∧ (pagingMapped op 1 0 1 0).quotaOk 3 0 0 = true) ∧
    (pagingMapped 6 1 0 1 1).nextPageCmd (.regs 3) 6 = some (pageCmd 6 1 0, []) ∧
    (let s0 := pagingMapped 2 1 0 1 0
     let s : State := { s0 with pm := { s0.pm with queue := [], waits := [pageCmd 2 1 0] } }
     s.clocked = true ∧ s.pm.waits = pageCmd 2 1 0 :: [] ∧ s.judgePage (pageCmd 2 1 0) = none) := by decide +kernel

/-- The free pool of `paging` holds a frame for the ALLOC. -/
theorem hyps_PageCommandsMapAndRelease_alloc : ((paging 1 1 0).findBlock none 0).isSome = true := by
  have h : ((paging 1 1 0).blockCandidates none 0).find? ((paging 1 1 0).blockOk none 0) = some 0 := by decide +kernel
  show (if _ then some _ else List.find? _ _).isSome = true
  split
  · rfl
  · rw [h]; rfl

/-! ### W4Window -/

theorem hyps_W4Window :
    let s0 := pagingMapped 1 0 0 1 0
    let sh := pagingMapped 1 0 0 2 0
    let bad : State := { s0 with integ := { s0.integ with lost := [0] } }
    bad.serves 3 = true ∧ bad.cvaLost 3 (bad.w4Cva 3 0 + 63) = true ∧ bad.cvaLost 3 (bad.w4Cva 3 0 + 64) = false ∧
    s0.serves 3 = true ∧ s0.w4Cva 3 0 = 0 ∧ s0.translate 3 none 0 = some (0, 0) ∧ s0.refsOf 0 ≤ 1 ∧ sh.translate 3 none 0 = some (0, 0) ∧
      1 < sh.refsOf 0 ∧ sh.serves 3 = true := by decide +kernel

/-! ### CopyOnWriteAndFillEngine -/

theorem hyps_CopyOnWriteAndFillEngine :
    let base := pagingMapped 1 0 0 2 0
    let s : State := { base with jobs := [(0, run3)], pm := { base.pm with queue := [] } }
    let broke : State := { s with ctxs := [(3, { active with quota := 1 })] }
    let own : State := { s with pm := { s.pm with frames := [(0, ⟨0, .ctx 3 1, 1, 0, false, false, .held⟩)] } }
    let w : CowStall := ⟨0, 3, 0, none, 9, 0, 5, [7], true⟩
    let lift : State := { own with pm := { own.pm with stalls := [(4, w)] } }
    let fill : State := { s with pm := { s.pm with fills := [⟨0, .free⟩], copies := [⟨0, 1, 0, .cow 4⟩] } }
    (s.clocked = true ∧ s.jobs.look 0 = some run3 ∧ s.translate 3 (some 0) 5 = some (0, 5) ∧ s.mappingOf 3 (some 0) 5 = some (0, none) ∧ s.writableInPlace 3 (some 0) 5 = false ∧
      s.pm.stalls = [] ∧ s.frame 0 = some ⟨0, .ctx 3 1, 2, 0, false, false, .held⟩) ∧
    (match broke.cowFrame 3 (some 0) 5 with | .error st => st == stQuotaExceeded | .ok _ => false) = true ∧
    own.writableInPlace 3 (some 0) 5 = true ∧
    (lift.pm.stalls = [(4, w)] ∧ lift.jobs.look w.job = some run3 ∧ lift.mapAt 3 0 = some (0, ⟨0, 0⟩) ∧ lift.refsOf 0 = 1 ∧ lift.pm.ghosts = []) ∧
    (fill.clocked = true ∧ fill.frame 0 = some ⟨0, .ctx 3 1, 2, 0, false, false, .held⟩ ∧ fill.hbm.wf = true) := by decide +kernel

/-- A frame can be had for the copy. -/
theorem hyps_CopyOnWriteAndFillEngine_frame :
    let base := pagingMapped 1 0 0 2 0
    (base.findBlock none 0).isSome = true := by
  intro base
  have h : (base.blockCandidates none 0).find? (base.blockOk none 0) = some 1 := by decide +kernel
  show (if _ then some _ else List.find? _ _).isSome = true
  split
  · rfl
  · rw [h]; rfl

/-! ### QueueDoorbellsAndControl -/

/-- `active` context 3 whose queue 0 runs with one entry submitted, its rings in the mapped page at CVA 0. -/
def queuing (x : QueueState) : State :=
  let s := pagingMapped 1 0 0 1 0
  { s with queues := [(24, x)], pm := { s.pm with queue := [] } }

/-- A running queue with one entry to fetch. -/
def runQ : QueueState := { QueueState.reset with enable := true, running := true, tail := 1, bells := [(1, 0)] }

theorem hyps_QueueDoorbellsAndControl :
    let s := queuing runQ
    let off := queuing { runQ with enable := false, running := false }
    let un : State := { s with pm := { s.pm with maps := [] } }
    let h := queuing { runQ with held := [⟨0, none⟩] }
    (s.serves 3 = true ∧ (s.ctx 3).tdi ≠ .locked ∧ (s.queue 3 0).running = true ∧ (2 + 2 ^ (s.queue 3 0).sqOrder - (s.queue 3 0).tail) % 2 ^ (s.queue 3 0).sqOrder ≠ 0 ∧
      (s.queue 3 0).tail < 2 ^ (s.queue 3 0).sqOrder ∧ (s.queue 3 0).sqOrder ≤ 16) ∧ (off.queue 3 0).running = false ∧
    ((off.queue 3 0).enable = false ∧ (s.queue 3 0).enable = true) ∧
    (s.unitsRun = true ∧ 0 < (s.queue 3 0).unfetched ∧ (s.queue 3 0).full = false ∧
      s.readCvaN 3 none ((s.queue 3 0).sqBase.toNat / 4096 * 4096 + (s.queue 3 0).fetch * 64) 64 = some (List.replicate 64 0) ∧
      entryOk (BitVec.ofNat 512 (leNat (List.replicate 64 0))) = true) ∧
    un.readCvaN 3 none ((un.queue 3 0).sqBase.toNat / 4096 * 4096 + (un.queue 3 0).fetch * 64) 64 = none ∧
    (h.mayRun 3 = true ∧ (h.queue 3 0).held = ⟨0, none⟩ :: [] ∧ (h.queue 3 0).error = false ∧ h.cvaMapped 3 0 32 = true ∧
      (match h.writeCvaN 3 none 0 (leBytes 32 1) with | .ok t => t.hbm == [(0, 1)] | .error _ => false) = true) := by decide +kernel

/-! ### RingEntriesExecute -/

/-- `queuing` with one fetched entry of these 64 bytes. -/
def atTurn (raw : BitVec 512) (ph : EntryPhase) : State := queuing { runQ with fetch := 1, entries := [⟨7, 0, raw, ph, 0, 0, false, 0⟩] }

/-- A loaded program of context 3, handle 0, with no operator. -/
def prog0 : Program := { tensors := [], operators := [], attrs := [], exprs := [], scratch := 0, maxRegions := 1, version := 1, frames := [], users := 0, unloaded := false, gen := 1 }

theorem hyps_RingEntriesExecute :
    let e (raw : BitVec 512) (ph : EntryPhase) : QEntry := ⟨7, 0, raw, ph, 0, 0, false, 0⟩
    let loaded (raw : BitVec 512) : State := { atTurn raw .fetched with progs := [(3072, prog0)] }
    (∀ ty ∈ [0, 1, 2, 3, 5, 6], (atTurn (BitVec.ofNat 512 ty) .fetched).nextEntry 3 0 ty = some (e (BitVec.ofNat 512 ty) .fetched)) ∧
    (atTurn 0 .fetched).unitsRun = true ∧ (atTurn 0 .fetched).integ.persistent = none ∧ (atTurn 0 .fetched).mayRun 3 = true ∧
    ((loaded 2).progs.look 3072 = some prog0 ∧ (match ((loaded 2).startEntry 3 0 7 .running).runCheck 3 2 with | .ok bl => bl == [] | .error _ => false) = true) ∧
    (match ((atTurn 2 .fetched).startEntry 3 0 7 .running).runCheck 3 2 with | .ok _ => false | .error r => r.1 == stBadHandle) = true ∧
    (atTurn 3 .fetched).progs.look 3072 = none ∧
    (let raw : BitVec 512 := BitVec.ofNat 512 (4 + 2 ^ 24 * 2 ^ 256)
     (atTurn raw .fetched).nextEntry 3 0 4 = some (e raw .fetched) ∧ recOpcode (raw.extractLsb' 256 256) = 1) ∧
    ((atTurn 5 .fetched).cvaMapped 3 0 8 = true ∧ (match (atTurn 5 .fetched).writeCvaN 3 none 0 (leBytes 8 0) with | .ok t => t.hbm == [] | .error _ => false) = true) ∧
    (atTurn (BitVec.ofNat 512 (5 + 4096 * 2 ^ 448)) .fetched).cvaMapped 3 4096 8 = false ∧
    ((atTurn 6 .waiting).waitingEntry 3 0 = some (e 6 .waiting) ∧ (atTurn 6 .waiting).readCvaN 3 none 0 8 = some (List.replicate 8 0)) := by decide +kernel

/-- No entry waits after the SIGNAL of `hyps_RingEntriesExecute`. -/
theorem hyps_RingEntriesExecute_noWait :
    ∀ k, k < 8 → ((atTurn 5 .fetched).runEntry 3 0 ⟨7, 0, 5, .fetched, 0, 0, false, 0⟩ stOk 0).waitingEntry 3 k = none := by decide +kernel

/-! ### HostDmaRings -/

/-- `queuing` with host DMA ring `d` of context 3 in this state, its ring in the page at CVA 0. -/
def ringing (d : Nat) (x : DmaRing) : State := { queuing .reset with dma := [(hostRing 3 d, x)] }

/-- A running ring with one descriptor submitted. -/
def runRing : DmaRing := { DmaRing.reset with enable := true, running := true, tail := 1 }

theorem hyps_HostDmaRings :
    let s := ringing 0 runRing
    let off := ringing 0 { runRing with enable := false, running := false }
    let un : State := { s with pm := { s.pm with maps := [] } }
    let filled : State := { s with hbm := [(12, 8), (17, 1)] }
    let x : DmaXfer := ⟨0, BitVec.ofNat 256 (8 * 2 ^ 96), 1, [0], false⟩
    let bad : DmaXfer := { x with lost := true }
    let busyBad := ringing 1 { runRing with current := some bad }
    let busy := ringing 0 { runRing with current := some x }
    let busy1 := ringing 1 { runRing with current := some x }
    (s.serves 3 = true ∧ (s.ctx 3).tdi ≠ .locked ∧ (s.ring (hostRing 3 0)).running = true ∧ 1 % 4096 < 2 ^ (s.ring (hostRing 3 0)).order) ∧
    ((off.ring (hostRing 3 0)).running = false ∧ (off.ring (hostRing 3 0)).enable = false ∧ (s.ring (hostRing 3 0)).enable = true) ∧
    (filled.unitsRun = true ∧ filled.resident 3 = true ∧ (filled.ring (hostRing 3 0)).current = none ∧
      (filled.ring (hostRing 3 0)).head ≠ (filled.ring (hostRing 3 0)).tail ∧ (filled.ctx 3).ide.insecure = false ∧
      (match filled.readCvaN 3 none 0 32 with
       | some bs => desBytes (BitVec.ofNat 256 (leNat bs)) == 8 && filled.rangeBad 3 (desField (BitVec.ofNat 256 (leNat bs)) 128 64) 8 0 == none
       | none => false) = true) ∧
    un.readCvaN 3 none 0 32 = none ∧
    (busy.clocked = true ∧ (busy.ring (hostRing 3 0)).current = some x ∧ (busy1.ring (hostRing 3 1)).current = some x ∧
      busy.cvaMapped 3 0 8 = true ∧ desBytes x.desc ≤ (List.replicate 8 (0 : Byte)).length ∧
      (match busy.writeCvaN 3 none 0 (leBytes 8 1) with | .ok t => t.hbm == [(0, 1)] | .error _ => false) = true ∧
      x.issued[(List.replicate 4 (0 : Byte)).length / 4096]? = some 0 ∧ 0 + 10000000 ≤ busy.now + 10000000 ∧
      (List.replicate 4 (0 : Byte)).length < desBytes x.desc ∧ desUnits x.desc ≤ x.issued.length ∧ (busy.ctx 3).ide.insecure = false ∧
      (busyBad.ring (hostRing 3 1)).current = some bad ∧ (∀ j, j < 64 → busyBad.dmaActive j = false)) ∧
    (filled.agentIssues 8 = true ∧ (∀ j, j < 64 → j ≠ hostRing 3 0 → filled.dmaActive j = false) ∧
      (ringing 0 { runRing with current := some { x with issued := [] } }).dmaNext = some 12) ∧
    (let ins : State := { busy with ctxs := [(3, { active with ide := { Context.reset.ide with active := some 0, secure := false } })] }
     ins.resident 3 = true ∧ (ins.ctx 3).ide.insecure = true) ∧
    ({ busy with ctxs := [] } : State).resident 3 = false := by decide +kernel

/-! ### FabricPorts -/

/-- `ready` with port 1 in this state. -/
def porting (x : PortState) : State := { ready with fab := { ready.fab with ports := [(1, x)] } }

/-- A port that is up. -/
def up : PortState := { PortState.reset with mode := .up }

theorem hyps_FabricPorts :
    let serving : State := { porting up with tide := { ready.tide with source := .tsnA } }
    (ready.board.powered = true ∧ ready.power.mode < 3 ∧ (ready.port 1).mode = .down ∧ ready.pair.role ≠ .leaving ∧ ready.dictVal 0x660002 = 0) ∧
    ((porting up).board.powered = true ∧ ((porting up).port 1).mode = .up ∧ ((porting up).port 1).rxSeq = 0 ∧ ((porting up).port 1).nakSent = false ∧ ((porting up).port 1).unacked = [] ∧
      (porting up).asleep = false ∧ (porting up).fab.seen.contains ((msgOf []).src, (msgOf []).id) = false ∧ ((porting up).port 1).resend.2 < 8) ∧
    (let f := porting { up with resend := (3, 8) }; 8 ≤ (f.port 1).resend.2 ∧ (f.port 1).unacked = [] ∧ (f.port 1).waiting = [] ∧ f.dma = []) ∧
    (serving.tide.serves = true ∧ ready.tide.serves = false) ∧ ((porting up).timePorts = [1] ∧ (porting up).tide.lastReq = none ∧ (porting up).board.lost = false) ∧
    (let r : State := { porting up with tide := { ready.tide with lastReq := some 0 } }; r.tide.lastReq = some 0 ∧ r.now + 999999 < 0 + 1000000) := by
  decide +kernel

/-! ### FabricMessages -/

/-- `porting up` with this message waiting. -/
def receiving (m : FabMsg) : State := { (porting up).setCtx 3 active with fab := { (porting up).fab with inbox := [(1, m)] } }

/-- A message of this type to context 3 from place 9. -/
def message (type : Nat) (body : List Byte) : FabMsg := ⟨type, 3, true, 1, 9, 4, 1, 1, 0, body⟩

theorem hyps_FabricMessages :
    (∀ ty ∈ [0x0030, 0x0031, 0x0033, 0x0034, 0x0002, 0x0001],
      ((receiving (message ty [])).popMessage ty).map (·.2) = some (1, message ty [])) ∧
    (receiving (message 2 [])).pair.adopt = none ∧ ((receiving (message 2 [])).ring (fabRing 3 0)).current = none ∧
    (let d : BitVec 256 := BitVec.ofNat 256 (7 * 2 ^ 64 + 9 * 2 ^ 26)
     let s0 := receiving (message 2 [0, 0, 0, 7, 0, 0])
     let s : State := { s0 with dma := [(fabRing 3 0, { runRing with current := some ⟨0, d, 1, [], false⟩ })] }
     (s.ring (fabRing 3 0)).current = some ⟨0, d, 1, [], false⟩ ∧ desTag d = beNat ([0, 0, 0, 7] : List Byte) ∧ desField d 26 6 = 9) ∧
    (let s := receiving (message 1 (List.replicate 24 0))
     s.ctxLive 3 1 = true ∧ bitOf (s.reg 3 0x701040) 9 = false) ∧
    (let s0 := receiving (message 1 (List.replicate 24 0))
     let s : State := { s0 with regs := [(regKey 3 0x701040, 2 ^ 9)] }
     s.rxRefusal (message 1 (List.replicate 24 0)) 0 0 = none) ∧
    (porting up).fab.inbox = [] ∧ ready.mgmtUp = true ∧ ready.fab.voteSent.2 + 50000000 ≤ ready.now + 50000000 := by decide +kernel

/-! ### FabricTransfersAndTests -/

theorem hyps_FabricTransfersAndTests :
    let ring (x : DmaRing) : State := { queuing .reset with dma := [(fabRing 3 0, x)] }
    let d0 : BitVec 256 := BitVec.ofNat 256 (8 * 2 ^ 96 + 9 * 2 ^ 26)
    let s0 := ring runRing
    let s : State := { s0 with fab := { s0.fab with ports := [(1, up)], routes := [(9 * 16 + 1, 1)] }, hbm := [(3, 36), (12, 8)] }
    let b : BerTest := ⟨10000, 15, 0, false⟩
    let a := porting { up with asked := some b }
    let t := porting { up with mode := .testing, test := some b }
    (s.serves 3 = true ∧ (s.ctx 3).tdi ≠ .locked ∧ (s.ring (fabRing 3 0)).running = true ∧ s.unitsRun = true ∧ s.resident 3 = true ∧
      s.readCvaN 3 none 0 32 = some (leBytes 32 d0.toNat) ∧ desBytes d0 ≠ 0 ∧ s.rangeBad 3 (desField d0 192 64) (desBytes d0) 0 = none ∧
      (s.routeTo (desField d0 26 6)).isSome = true ∧
      (s.readCvaN 3 (some (s.pm.order + 1)) (desField d0 192 64) (desBytes d0)).isSome = true ∧ (s0.routeTo (desField d0 26 6)).isNone = true) ∧ (ready.ring (fabRing 3 0)).running = false ∧
    ((porting up).board.powered = true ∧ ((porting up).port 1).lastMsg + 10000000 ≤ (porting up).now + 10000000 ∧
      (porting up).pair.role = .alone) ∧ (a.port 1).asked = some b ∧ (ready.port 1).asked = none ∧
    (ready.woOpen = true ∧ ready.portsUp = [] ∧ State.reset.woOpen = false ∧ ready.mgmtUp = true) ∧
    (let l : State := { porting up with now := 10000000 }; l.woOpen = true ∧ l.portsUp = [1] ∧ (l.port 1).mode = .up ∧ (l.port 1).lastMsg + 10000000 ≤ l.now ∧
      (∀ e ∈ l.fab.ports, e.2.test = none ∧ e.2.asked = none)) ∧
    (let z := ready.setDict 0x540001 1; z.dictVal 0x540001 ≠ 0 ∧ z.fab.berAt + z.dictVal 0x540001 * 1000000000 ≤ z.now + 1000000000) ∧
    (ready.setDict 0x540001 0).dictVal 0x540001 = 0 ∧
    ((t.port 1).test = some b ∧ b.start + b.ms * 1000000 ≤ t.now + 10000000000 ∧ t.dma = [] ∧ (t.port 1).unacked = [] ∧ (t.port 1).waiting = [] ∧ t.fab.berQueue = []) := by
  decide +kernel

/-! ### PairHeartbeats -/

/-- A paired tray: place 4, partner 9, heartbeats on port 1 which is up, this role. -/
def paired (r : PairRole) : State :=
  let s := porting up
  { s with pair := { s.pair with role := r, place := 4, settings := [(0x500001, 1), (0x500005, 9), (0x500007, 1)], leaseEnd := 50000000, epoch := 2, seen := 2 } }

/-- A body of the partner of this role and epoch. -/
def body (role epoch : Nat) : PairBody := ⟨role, 0, 9, 4, 0, epoch, 0, 1, 0, 0, 0, []⟩

theorem hyps_PairHeartbeats :
    ((paired .standby).pairOpen = true ∧ (paired .standby).pair.heartbeatAt + 1000000 ≤ (paired .standby).now + 1000000) ∧ ready.pairOpen = false ∧
    ((paired .standby).hear false 0x10 (body 5 2)).2 = true ∧ ((paired .init).hear false 0x10 (body 5 2)).2 = true ∧
    ((paired .active).hear false 0x10 (body 5 3)).2 = true ∧ (paired .active).pair.epoch < (body 5 3).epoch ∧ roleOf (body 5 3).role = some .active ∧
    (paired .standby).pair.adopt = none ∧
    ((paired .standby).pair.tsnLost = false ∧ (paired .standby).pair.fabLost = false ∧ (paired .standby).pair.tsnHeard + 3000000 ≤ (paired .standby).now + 3000000) ∧
    (let s := paired .standby
     let l : State := { s with pair := { s.pair with tsnLost := true } }
     l.pairOpen = true ∧ l.pair.fabLost = false ∧ l.pair.tsnLost = true ∧ l.pair.silent = false) := by decide +kernel

/-- A body whose code has the wrong length on TSN. -/
theorem hyps_PairHeartbeats_mac :
    let s : State := { paired .standby with net := { ready.net with linkA := true } }
    s.pairOpen = true ∧ s.net.linkA = true ∧ s.pairMac 0x10 { body 5 2 with mac := List.replicate 17 0 } = false := by
  refine ⟨by decide +kernel, rfl, ?_⟩
  have h : ∀ l : List Byte, (List.replicate 17 (0 : Byte) == l.take 16) = false := by
    intro l
    refine beq_eq_false_iff_ne.mpr fun e => ?_
    have := congrArg List.length e
    simp at this
    omega
  exact h _

/-! ### PairLease -/

theorem hyps_PairLease :
    let wit (s : State) : State := { s with pair := { s.pair with settings := (0x510001, 1) :: s.pair.settings } }
    let act := paired .active
    (act.pairOpen = true ∧ act.slackRuns = true ∧ act.pair.renewAt + 10000000 ≤ act.now + 10000000 ∧ act.now + 10000000 < act.pair.leaseEnd ∧
      act.pairSetting 0x510001 ≠ 1 ∧ (wit act).pairSetting 0x510001 = 1 ∧ (wit act).pairOpen = true ∧ act.board.powered = true ∧
      act.pair.leaseEnd ≤ act.now + 50000000 ∧ act.woOpen = true ∧ act.pair.partnerRole ≠ some .syncing) ∧
    ((paired .standby).hear false 0x11 (body 5 2)).2 = true ∧ (paired .standby).pair.epoch ≤ (body 5 2).epoch ∧
    (paired .standby).pair.seen ≤ (body 5 2).epoch ∧
    (let r : State := { act with pair := { act.pair with renews := [(1, 3)] } }
     r.pairOpen = true ∧ (body 4 2).pairId = r.pairSetting 0x500002 ∧ r.pair.renews.find? (fun x => x.1 == (body 4 2).seq) = some (1, 3)) ∧
    ((paired .standby).woOpen = true ∧ State.reset.woOpen = false ∧ ready.pairOpen = false) ∧
    (((paired .standby).hear false 0x13 (body 5 2)).2 = true ∧ (paired .standby).pair.claim = none ∧ (body 5 2).epoch = (paired .standby).pair.epoch ∧
      (paired .standby).slackRuns = true ∧ (wit (paired .standby)).pairSetting 0x510001 = 1 ∧ (paired .standby).pairSetting 0x510001 ≠ 1 ∧
      ((wit (paired .standby)).hear false 0x13 (body 5 2)).2 = true) := by decide +kernel

/-! ### PairClaims -/

theorem hyps_PairClaims :
    let wit (s : State) : State := { s with pair := { s.pair with settings := (0x510001, 1) :: s.pair.settings } }
    let sb := paired .standby
    let ini : State := wit { paired .init with pair := { (paired .init).pair with startupOk := true } }
    let cl : State := { sb with pair := { sb.pair with claim := some (3, 0) } }
    (sb.pairOpen = true ∧ sb.slackRuns = true ∧ sb.pair.claim = none ∧ sb.pair.heard + 55000000 ≤ sb.now + 55000000 ∧ sb.pairSetting 0x510001 ≠ 1) ∧
    ((wit sb).pairOpen = true ∧ (wit sb).pairSetting 0x510001 = 1) ∧
    (ini.pairOpen = true ∧ ini.pair.startupOk = true ∧ ini.pair.adopt = none ∧ ini.pair.claim = none ∧ ini.pairSetting 0x510001 = 1 ∧
      ini.pair.since + 110000000 ≤ ini.now + 110000000) ∧ (cl.pairOpen = true ∧ cl.pair.claim = some (3, 0) ∧ 0 + 5000000 ≤ cl.now + 5000000) ∧
    ((paired .active).hear false 0x14 (body 4 3)).2 = true ∧ (sb.hear false 0x14 (body 4 3)).2 = true ∧
    (let sp : State := { ready with pair := { ready.pair with place := 0xFF } }; sp.woOpen = true ∧ sp.portsUp = []) ∧
    (ready.woOpen = true ∧ ready.pair.place ≠ 0xFF) ∧
    (let ad : State := { ready with pair := { ready.pair with adopt := some (3, 5) } }; ad.mgmtUp = true ∧ ad.pair.adopt = some (3, 5) ∧ 5 ≤ ad.now + 5) := by
  decide +kernel

/-- The witness's body is heard on a TSN port when its code and pair are right. -/
theorem heard_of_code (s : State) (path : PairPath) (kind : Nat) (b : PairBody) (ho : s.pairOpen = true) (hp : path ≠ .fabric)
    (hm : s.pairMac kind b = true) (hi : (b.pairId == s.pairSetting 0x500002) = true) : (s.hearWitness path kind b).2 = true := by
  simp [State.hearWitness, ho, hp, hm, hi]

/-- A standby that has claimed epoch 3. -/
def claiming : State := { paired .standby with pair := { (paired .standby).pair with claim := some (3, 0) } }

/-- The code of a body of the pair's key. -/
def codeOf (kind : Nat) (b : PairBody) : List Byte := (hmac512 (claiming.slotKey (claiming.pairSetting 0x500008)) (pairBytes b kind)).take 16

theorem hyps_PairClaims_witness :
    let b := body 0 3
    (claiming.hearWitness .tsnA 0x15 { b with mac := codeOf 0x15 b }).2 = true ∧ (claiming.hearWitness .tsnA 0x16 { b with mac := codeOf 0x16 b }).2 = true ∧
      claiming.pair.claim = some (3, 0) ∧ b.epoch = 3 ∧ claiming.slackRuns = true := by
  have o : claiming.pairOpen = true := by decide +kernel
  have i : ((body 0 3).pairId == claiming.pairSetting 0x500002) = true := by decide +kernel
  exact ⟨heard_of_code _ _ _ _ o (by decide) (by simp [State.pairMac, codeOf, pairBytes]) i,
    heard_of_code _ _ _ _ o (by decide) (by simp [State.pairMac, codeOf, pairBytes]) i, rfl, rfl, by decide +kernel⟩

/-! ### PairMirrorAndComparison -/

/-- A paired tray in this role with one message of this type waiting. -/
def told (r : PairRole) (type : Nat) (bytes : List Byte) : State :=
  { paired r with fab := { (paired r).fab with inbox := [(1, message type bytes)] } }

theorem hyps_PairMirrorAndComparison :
    (∀ ty ∈ [0x0010, 0x0011, 0x0012, 0x0020, 0x0021, 0x0022],
      ((told .standby ty [0, 0, 0, 1]).popMessage ty).isSome = true ∧ ((told .syncing ty [0, 0, 0, 1]).popMessage ty).isSome = true ∧
      ((told .active ty [0, 0, 0, 1, 0, 0, 0, 0, 0]).popMessage ty).isSome = true ∧ ((told .init ty []).popMessage ty).isSome = true) ∧
    ((told .standby 16 [0, 0, 0, 1]).pair.mirrorApplied < beNat ([0, 0, 0, 1] : List Byte) ∧
      beNat ([] : List Byte) ≤ (told .standby 16 []).pair.mirrorApplied ∧ (paired .standby).fab.inbox = []) ∧
    (let a : State := { paired .active with pair := { (paired .active).pair with mirrorSince := some 0 } }
     a.mgmtUp = true ∧ a.pair.mirrorLost = false ∧ a.pair.mirrorSince = some 0) ∧
    (let b : State := { paired .standby with pair := { (paired .standby).pair with partnerMirror := 5 } }
     b.mgmtUp = true ∧ b.pair.mirrorApplied < b.pair.partnerMirror) ∧
    ((told .syncing 18 [0, 0, 0, 1]).pair.staging = [] ∧ (paired .standby).pair.replays = []) ∧
    (let r : State := { paired .standby with pair := { (paired .standby).pair with replays := [⟨9, [], true⟩] } }
     r.computeOpen = true ∧ r.pair.replays = ⟨9, [], true⟩ :: []) ∧
    (let m := told .active 33 [0, 0, 0, 1, 0, 0, 0, 0, 0]
     (message 33 []).src = m.pairSetting 0x500005 ∧ (message 33 []).src ≠ (told .active 33 []).pairSetting 0x500007 ∧ m.dictVal 0x520002 ≠ 1) ∧
    (let c := (told .active 34 []).setDict 0x520002 1; c.dictVal 0x520002 = 1 ∧ c.pair.outputs.look 3 = none ∧ (c.popMessage 34).isSome = true) ∧
    ((paired .standby).computeOpen = true ∧ (paired .standby).integ.sweep = none ∧ (paired .standby).pair.role = .standby) := by decide +kernel

/-- A payload too short to be a replay is none; one from another place than the partner's is not counted. -/
theorem hyps_PairMirrorAndComparison_payload :
    (parseReplay []).isNone = true ∧ (message 33 []).src ≠ (ready.setDict 0x500005 3).pairSetting 0x500005 := by decide +kernel

/-- A program of two empty sections, its CHECK field being this number. -/
def emptyProgram (check : Nat) : List Byte :=
  leBytes 4 0x31434751 ++ [2, 1] ++ leBytes 2 64 ++ [2, 0, 16, 0] ++ leBytes 4 0 ++ leBytes 4 128 ++ leBytes 4 check ++ List.replicate 40 0 ++
    ([1, 0] ++ leBytes 2 256 ++ leBytes 4 128 ++ leBytes 8 0) ++ ([2, 0] ++ leBytes 2 64 ++ leBytes 4 128 ++ leBytes 8 0) ++ List.replicate 32 0

/-- A REPLAY payload that holds it. -/
def replayOf : List Byte := replayPayload 0 0 [] (emptyProgram (crc32c (emptyProgram 0))) [] [] 0

theorem hyps_PairMirrorAndComparison_replay :
    let r : State := { paired .standby with pair := { (paired .standby).pair with replays := [⟨9, replayOf, true⟩] } }
    r.computeOpen = true ∧ (match parseReplay replayOf with
      | some q => r.comparePasses (r.compareOutputs q q.outputs [1])
      | none => false) = true := by decide +kernel

/-! ### OperatorsTakeEffectWhenIssued -/

/-- A job whose one operator is issued, with the operator's code in its record, its program loaded. -/
def issuing (code : Nat) : State :=
  { queuing .reset with
    jobs := [(7, { run3 with ops := [.issued] })]
    progs := [(3072, { prog0 with operators := [BitVec.ofNat 512 (code * 2 ^ 48)] })] }

theorem hyps_OperatorsTakeEffectWhenIssued :
    (let s : State := { issuing 0x0051 with
        jobs := [(7, { run3 with ops := [.sampling] })], serving := { (issuing 0x0051).serving with rows := [.sample 7 0 0] } }
     s.clocked = true ∧ s.serving.rows = .sample 7 0 0 :: [] ∧ s.jobs.look 7 = some { run3 with ops := [.sampling] }) ∧
    (∀ code ∈ [0x0001, 0x0010, 0x0011, 0x0018, 0x0019, 0x0020, 0x0030, 0x0031, 0x0032, 0x0033, 0x0034, 0x0040, 0x0050, 0x0051, 0x0052, 0x0060,
      0x0061, 0x0070, 0x0071, 0x0072, 0x0073, 0x0080],
      let s := issuing code
      let r := BitVec.ofNat 512 (code * 2 ^ 48)
      s.jobs.look 7 = some { run3 with ops := [.issued] } ∧ s.progs.look 3072 = some { prog0 with operators := [r] } ∧ s.clocked = true ∧
        opCode r = code ∧ s.issues [0] = true) ∧ opCode (BitVec.ofNat 512 (2 ^ 48)) ≠ 0x0010 := by decide +kernel

/-! ### OperatorsStoreOnlyInTheirOutputs -/

theorem hyps_OperatorsStoreOnlyInTheirOutputs :
    let s := issuing 0x0071
    s.jobs.look 7 = some { run3 with ops := [.issued] } ∧ s.progs.look 3072 = some { prog0 with operators := [BitVec.ofNat 512 (0x0071 * 2 ^ 48)] } ∧
      s.translate 3 (some 0) 0 = some (0, 0) ∧ s.translate 3 (some 0) 4096 = none ∧ s.writableInPlace 3 (some 0) 0 = true ∧
      (s.opEnv run3 prog0 0 0).outs = [] ∧ (match exec (.transpose 7 0) s with | .next t => t.hbm == [] | _ => false) = true := by
  decide +kernel

/-! ### OperatorArithmetic -/

theorem hyps_OperatorArithmetic :
    (([5, -7] : List Int).map Int.natAbs).sum < 2 ^ 31 ∧ outExtent 5 1 1 1 3 2 = some 3 ∧ inside 4 5 = true ∧ maskedAt true 0 0 1 2 2 = true ∧
      (∃ y ∈ [Val.nan, Val.one], Val.isNan y = true) ∧ (∀ y ∈ [Val.inf true], y = .inf true) :=
  ⟨by decide, by decide, by decide, by decide, ⟨.nan, by simp, rfl⟩, by simp⟩

/-! ### KvEditsOnATable -/

/-- One page of 16 INT8 positions, one key-value head of 16 elements, in frame 0 of context 3. -/
def kvPage0 : KvPage := ⟨0, 0, 4, 0, false, 3, 1, 0, 1, 16, 16, 0x3F800000, 0x3F800000⟩

/-- A table of context 3 with one span of one layer, `fill` positions written and `len` advanced. -/
def kvTab (fill len : Nat) : KvTable := ⟨3, 1, 0, 1, 1, 16, 16, len, 0, 0, [⟨0, [⟨1, fill⟩]⟩], 0, none⟩

/-- A module whose table 9 is this one, with these walks. -/
def tabled (t : KvTable) (w : List (Nat × KvWalk)) : State :=
  let s := queuing .reset
  { s with kv := { s.kv with tables := [(9, t)], pages := [(1, kvPage0)], blocks := [(0, 1)], walks := w } }

theorem hyps_KvEditsOnATable :
    let s := tabled (kvTab 5 2) []
    let h := tabled (kvTab 5 2) [(0, ⟨9, 0, 2, 0, 0, 1, none, 1, []⟩)]
    (s.clocked = true ∧ (s.ctx 3).mode = .active ∧ kvGeomOk 1 1 16 16 = true ∧ (s.ctx 5).mode = .free) ∧
    (match s.kvOwner 9 with | .ok t => t == kvTab 5 2 | .error _ => false) = true ∧
    (kvSpanOk (kvTab 0 0) 0 4 = true ∧ kvSpanOk (kvTab 0 0) 7 4 = false ∧ spanTokens [] % kvTokens 0 = 0) ∧
    ((kvTab 5 2).locate 0 2 true = some (1, 2) ∧ s.kvPage 1 = some kvPage0 ∧ s.refsOf 0 ≤ 1 ∧ kvPageK 4 (kvTokens 0) 1 16 16 = some 0) ∧
    ((kvTab 5 2).filled = 5 ∧ s.kv.walks.vals = [] ∧ s.kvHeld 9 0 = false ∧ h.kvHeld 9 0 = true ∧ s.kvPendingOn 9 = false ∧
      ({ s with kv := { s.kv with pending := [⟨9, .destroy, 0⟩] } } : State).kvPendingOn 9 = true) := by
  decide +kernel

/-- A slot and an entry block for a new table are found: none is taken here. -/
theorem hyps_KvEditsOnATable_create :
    let s := queuing .reset
    (s.freeSlot s.kv.tables 65536 0).isSome = true ∧ (s.draw.takeBlock 1).isSome = true := by
  intro s
  have hk : s.kv = KvPool.reset := rfl
  have hl : ∀ a, Store.look ([] : Store KvTable) a = none := fun _ => rfl
  refine ⟨by simp [State.freeSlot, hk, KvPool.reset, hl], ?_⟩
  have hd : s.draw.kv.blocks = [] := rfl
  simp only [State.takeBlock, hd, List.find?]
  split <;> simp_all [State.blockFree, overlaps]

/-- The page of one layer is found for an empty table: the slot and the frame are free choices. -/
theorem hyps_KvEditsOnATable_extend :
    let t : KvTable := { kvTab 0 0 with spans := [] }
    let s : State := { queuing .reset with kv := { KvPool.reset with tables := [(9, t)], blocks := [(0, 1)] } }
    s.growBlock 9 t (t.entryCount + t.layers) = some (s, t) ∧
      (match s.kvNewPages t 0 4 false t.layers 0 [] with | .ok _ => true | .error _ => false) = true := by
  intro t s
  refine ⟨rfl, ?_⟩
  have hb : (s.findBlock none 0).isSome = true := by
    have h : (s.blockCandidates none 0).find? (s.blockOk none 0) = some 1 := by decide +kernel
    show (if _ then some _ else List.find? _ _).isSome = true
    split
    · rfl
    · rw [h]; rfl
  have hk : kvPageK 4 (kvTokens 0) 1 16 16 = some 0 := by decide +kernel
  have hq : s.quotaOk 3 1 0 = true := by decide +kernel
  obtain ⟨f, hf⟩ := Option.isSome_iff_exists.mp hb
  have hl : ∀ a, Store.look ([] : Store KvPage) a = none := fun _ => rfl
  have h0 : s.kv.pages = [] := rfl
  have hn : (match s.kvNewPage t 0 0 4 false with | .ok _ => true | .error _ => false) = true := by
    have hc : t.ctx = 3 := rfl
    simp only [State.kvNewPage, show t.hkv = 1 from rfl, show t.d = 16 from rfl, show t.dv = 16 from rfl, hc, hk, hq, h0, State.freeSlot, hl,
      State.takeFrame, hf]
    rfl
  show (match (match s.kvNewPage t 0 0 4 false with
    | .error e => .error e
    | .ok (s1, slot) => State.kvNewPages s1 t 0 4 false 0 (0 + 1) ([] ++ [⟨slot, 0⟩]) : Except Status (State × List KvEntry)) with
    | .ok _ => true | .error _ => false) = true
  revert hn
  cases s.kvNewPage t 0 0 4 false with
  | error e => exact fun h => h
  | ok r => exact fun _ => rfl

/-! ### KvSharingAndSpeculation -/

theorem hyps_KvSharingAndSpeculation :
    let rec0 (c bytes : Nat) : BitVec 128 := BitVec.ofNat 128 (bytes * 2 ^ 32 + 9 * 2 ^ 16 + c)
    let rd (bytes : Nat) : State := { tabled (kvTab 5 2) [] with kv := { (tabled (kvTab 5 2) []).kv with reads := [(3, (rec0 1 bytes, 1))] } }
    let s := tabled (kvTab 5 2) []
    let h := tabled (kvTab 5 2) [(0, ⟨9, 0, 2, 0, 0, 1, none, 1, []⟩)]
    let o := tabled { kvTab 5 2 with overlay := some ⟨2, 3, 1, []⟩ } []
    let p (w : List (Nat × KvWalk)) : State := { tabled (kvTab 5 2) w with kv := { (tabled (kvTab 5 2) w).kv with pending := [⟨9, .destroy, 0⟩] } }
    ((rd 200).kv.reads.look 3 = some (rec0 1 200, 1) ∧ (rd 200).ctxLive 3 1 = true ∧ (rec0 1 200).extractLsb' 8 8 = 0 ∧
      ((rec0 1 200).extractLsb' 64 64).toNat % 64 = 0 ∧ ((rec0 1 200).extractLsb' 16 16).toNat = 9 ∧ (rd 200).kvTable 9 = some (kvTab 5 2) ∧
      (rd 200).kvPendingOn 9 = false ∧ ((rd 200).kvReadBytes 9 (kvTab 5 2)).length = 136 ∧ ((rec0 1 200).extractLsb' 32 32).toNat = 200 ∧
      (rd 200).cvaMapped 3 0 136 = true ∧ ((rec0 1 100).extractLsb' 32 32).toNat = 100) ∧
    (match s.kvOwner 9 with | .ok t => t == kvTab 5 2 | .error _ => false) = true ∧
    (match o.kvOwner 9 with | .ok t => t.overlay.isSome | .error _ => false) = true ∧
    (s.kvPage 1 = some kvPage0 ∧ s.refsOf 0 < 65535 ∧ h.kvHeld 9 0 = true ∧ s.clocked = true) ∧
    (s.kvAnySpec (spanSlots (clipSpans (kvTab 5 2).spans 2)) = false ∧ s.kvRefFull (spanSlots (clipSpans (kvTab 5 2).spans 2)) = false ∧
      s.kvPendingOn 9 = false ∧ s.kv.blocks.look (kvTab 5 2).base = some 1 ∧ s.kvHeld 9 0 = false) ∧
    (let ov : KvTable := { kvTab 5 2 with overlay := some ⟨2, 3, 1, [⟨2, 1⟩, ⟨3, 0⟩]⟩ }
     let c : State := { tabled ov [] with kv := { (tabled ov []).kv with pages := [(1, kvPage0), (2, { kvPage0 with frame := 1, spec := true })] } }
     (match c.kvOwner 9 with | .ok t => t == ov | .error _ => false) = true ∧ 2 + 1 ≤ spanTokens ov.spans ∧
       c.commitMixes ov ⟨2, 3, 1, [⟨2, 1⟩, ⟨3, 0⟩]⟩ 1 4 = false ∧ ov.entryAt 0 2 true = some (⟨2, 1⟩, 2) ∧ ov.mainEntry 0 2 = some (⟨1, 5⟩, 2) ∧
       c.kvPage 2 = some { kvPage0 with frame := 1, spec := true } ∧ c.kvPage 1 = some kvPage0 ∧ c.refsOf kvPage0.frame ≤ 1) ∧
    ((p []).kv.pending = [⟨9, .destroy, 0⟩] ∧ (p []).kvHeld 9 0 = false ∧ (p [(0, ⟨9, 0, 2, 0, 0, 1, none, 1, []⟩)]).kvHeld 9 0 = true ∧
      (p []).kvTable 9 = some (kvTab 5 2)) ∧ ready.kv.reads.look 3 = none := by decide +kernel

/-- The new table and its entry block are found, whichever the free choices name. -/
theorem hyps_KvSharingAndSpeculation_fork :
    let s := tabled (kvTab 5 2) []
    let r := s.kvCreate 3 1 1 1 16 16
    r.2.1 = stOk ∧ 9 ≠ r.2.2 ∧
      ∃ u, r.1.kvTable r.2.2 = some u ∧ (clipSpans (kvTab 5 2).spans 2).length * u.layers = 1 ∧ (r.1.growBlock r.2.2 u 1).isSome = true := by
  intro s r
  have hm : (s.ctx 3).mode = .active := by decide +kernel
  obtain ⟨id, hid, hne⟩ : ∃ id, s.freeSlot s.kv.tables 65536 0 = some id ∧ 9 ≠ id := by
    have h9 : s.kv.tables.look 9 = some (kvTab 5 2) := rfl
    have h0 : s.kv.tables.freeFrom 65536 0 = some 0 := rfl
    unfold State.freeSlot
    simp only [h0]
    split
    · rename_i h
      exact ⟨_, rfl, fun e => by rw [← e, h9] at h; exact absurd h (by decide)⟩
    · exact ⟨0, rfl, by decide⟩
  obtain ⟨q, hb⟩ : ∃ q, s.draw.takeBlock 1 = some q := by
    have hk : s.draw.kv.blocks = [(0, 1)] := rfl
    have h1 : s.draw.blockFree 1 1 = true := rfl
    simp only [State.takeBlock, hk, List.map, List.find?, h1]
    split
    · exact ⟨_, rfl⟩
    · split <;> exact ⟨_, rfl⟩
  have hq : q.1.kv.blocks.look q.2 = some 1 := by
    simp only [State.takeBlock, Option.map_eq_some_iff] at hb
    obtain ⟨b, -, rfl⟩ := hb
    exact Store.look_put_same _ _ _
  have hc : r = (((q.1.setTable id ⟨3, (s.ctx 3).gen, 1, 1, 1, 16, 16, 0, 0, 0, [], q.2, none⟩).kvSay stOk).1, stOk, id) := by
    show s.kvCreate 3 1 1 1 16 16 = _
    unfold State.kvCreate
    simp only [hm, hid, hb]
    rfl
  rw [hc]
  refine ⟨rfl, hne, _, Store.look_put_same _ _ _, rfl, ?_⟩
  show (State.growBlock _ id _ 1).isSome = true
  unfold State.growBlock
  have : (Store.look (((q.1.setTable id ⟨3, (s.ctx 3).gen, 1, 1, 1, 16, 16, 0, 0, 0, [], q.2, none⟩).kvSay stOk).1.kv.blocks) q.2) = some 1 := hq
  simp only [this]
  rfl

/-- A page slot is always found while fewer than three are taken. -/
theorem page_slot_found (s : State) (a b : Nat × KvPage) (m : Store KvPage) (h : m = [a] ∨ m = [a, b]) : (s.freeSlot m 4194304 1).isSome = true := by
  unfold State.freeSlot
  simp only
  split
  · rfl
  · obtain ⟨x, p⟩ := a
    obtain ⟨y, q⟩ := b
    generalize hn : (4194304 : Nat) = n
    obtain ⟨n, rfl⟩ : ∃ k, n = k + 1 + 1 + 1 := ⟨4194301, by omega⟩
    obtain rfl | rfl := h <;> unfold Store.freeFrom <;> simp only [Store.look] <;> unfold Store.freeFrom <;> simp only [Store.look] <;>
      unfold Store.freeFrom <;> simp only [Store.look] <;> grind

/-- A frame of one granule is always found while at most one is held. -/
theorem frame_found (s : State) (g : Nat) (f : PageFrame) (hl : s.pm.localGib = 2) (hk : f.k = 0) (h : s.pm.frames = [] ∨ s.pm.frames = [(g, f)]) :
    (s.findBlock none 0).isSome = true := by
  unfold State.findBlock
  simp only
  split
  · rfl
  · rw [List.find?_isSome]
    by_cases hg : s.pm.frames = [(0, f)]
    · refine ⟨1, ?_, ?_⟩
      · unfold State.blockCandidates
        rw [hg]
        simp [hk, roundUp, ceilDiv]
      · unfold State.blockOk State.granFree
        rw [hl, hg]
        simp [hk, overlaps, zoneRange, gibGran]
    · refine ⟨0, ?_, ?_⟩
      · unfold State.blockCandidates
        rw [hl]
        simp [zoneRange, roundUp, ceilDiv]
      · unfold State.blockOk State.granFree
        rw [hl]
        obtain h | h := h <;> rw [h] at hg ⊢ <;> simp_all [overlaps, zoneRange, gibGran]

/-- A page of the overlay is allocated for a table of context 3 while at most one frame is held. -/
theorem overlay_page_found (s : State) (a b : Nat × KvPage) (hl : s.pm.localGib = 2) (hq : 2 ≤ (s.ctx 3).quota.toNat)
    (hf : s.pm.frames = [] ∨ ∃ g f, s.pm.frames = [(g, f)] ∧ f.k = 0) (hp : s.kv.pages = [a] ∨ s.kv.pages = [a, b]) :
    ∃ slot h x p, x.k = 0 ∧ p.fmt = 4 ∧ s.kvNewPage (kvTab 5 2) 0 0 4 true = .ok ({ s with
      free := s.free + 1, pm := { s.pm with frames := s.pm.frames.put h x }, kv := { s.kv with pages := s.kv.pages.put slot p } }, slot) := by
  have hk : kvPageK 4 (kvTokens 0) 1 16 16 = some 0 := by decide +kernel
  have hn : s.quotaOk 3 1 0 = true := by
    unfold State.quotaOk State.framesUsed
    obtain h | ⟨g, f, h, hk⟩ := hf <;> rw [h] <;> simp
    · omega
    · rw [hk]
      split <;> omega
  have hlen : s.kv.pages.length ≤ 2 := by obtain h | h := hp <;> simp [h]
  obtain ⟨slot, hs⟩ := Option.isSome_iff_exists.mp (page_slot_found s a b _ hp)
  have hfr : (s.findBlock none 0).isSome = true := by
    obtain h | ⟨g, f, h, hk⟩ := hf
    · exact frame_found s 0 ⟨0, .ctx 3 1, 1, 0, false, false, .held⟩ hl rfl (.inl h)
    · exact frame_found s g f hl hk (.inr h)
  obtain ⟨h, hh⟩ := Option.isSome_iff_exists.mp hfr
  refine ⟨slot, h, ⟨0, .ctx 3 (s.ctx 3).gen, 1, 0, true, false, .held⟩,
    ⟨h, 0, 4, 0, true, 3, 1, 0, 1, 16, 16, oneF32, oneF32⟩, rfl, rfl, ?_⟩
  unfold State.kvNewPage
  simp only [kvTab, hk, if_neg (show ¬ 4194304 ≤ s.kv.pages.length by omega), hn, hs, State.takeFrame, hh]
  rfl

/-- An entry block and the pages of two positions are found for an overlay, each of the format of the table's pages. -/
theorem overlay_found (s : State) (hk : s.kv = (tabled (kvTab 5 2) []).kv) (hf : s.pm.frames = []) (hl : s.pm.localGib = 2)
    (hq : 2 ≤ (s.ctx 3).quota.toNat) :
    ∃ s1 b s2 es s3 es2, s.takeBlock 2 = some (s1, b) ∧ s1.kvNewPages (kvTab 5 2) 0 4 true 1 0 [] = .ok (s2, es) ∧
      s2.kvNewPages (kvTab 5 2) 0 4 true 1 0 es = .ok (s3, es2) ∧ s3.serving = s.serving ∧ s3.kv.tables = s.kv.tables ∧
      ∀ e ∈ s3.kv.pages, e.2.fmt = 4 := by
  obtain ⟨b, hb⟩ : ∃ b, s.takeBlock 2 = some ({ s.draw with kv := { s.kv with blocks := s.kv.blocks.put b 2 } }, b) := by
    have hk : s.kv.blocks = [(0, 1)] := by rw [hk]; rfl
    have h1 : s.blockFree 2 1 = true := by unfold State.blockFree; rw [hk]; rfl
    simp only [State.takeBlock, hk, List.map, List.find?, h1]
    split
    · exact ⟨_, rfl⟩
    · split <;> exact ⟨_, rfl⟩
  have hp0 : s.kv.pages = [(1, kvPage0)] := by rw [hk]; rfl
  obtain ⟨l1, g1, x1, p1, hx1, hf1, e1⟩ := overlay_page_found { s.draw with kv := { s.kv with blocks := s.kv.blocks.put b 2 } }
    (1, kvPage0) (1, kvPage0) hl hq (.inl hf) (.inl hp0)
  obtain ⟨a, c, hp⟩ : ∃ a c, (Store.put s.kv.pages l1 p1 : Store KvPage) = [a] ∨ (Store.put s.kv.pages l1 p1 : Store KvPage) = [a, c] := by
    rw [hp0]
    simp only [Store.put]
    split
    · exact ⟨_, _, .inr rfl⟩
    · split
      · exact ⟨_, (1, kvPage0), .inl rfl⟩
      · exact ⟨_, _, .inr rfl⟩
  obtain ⟨l2, g2, x2, p2, hx2, hf2, e2⟩ := overlay_page_found ({ s.draw with
      free := s.draw.free + 1, pm := { s.pm with frames := Store.put s.pm.frames g1 x1 },
      kv := { s.kv with blocks := s.kv.blocks.put b 2, pages := Store.put s.kv.pages l1 p1 } } : State)
    a c hl hq (.inr ⟨g1, x1, by show Store.put s.pm.frames g1 x1 = _; rw [hf]; rfl, hx1⟩) hp
  have one (a c : State) (acc : List KvEntry) (l : Nat) (h : a.kvNewPage (kvTab 5 2) 0 0 4 true = .ok (c, l)) :
      a.kvNewPages (kvTab 5 2) 0 4 true 1 0 acc = .ok (c, acc ++ [⟨l, 0⟩]) := by
    unfold State.kvNewPages
    rw [h]
    rfl
  refine ⟨_, b, _, _, _, _, hb, one _ _ _ _ e1, one _ _ _ _ e2, rfl, rfl, fun e he => ?_⟩
  obtain rfl | he := Store.mem_put _ _ _ _ he
  · exact hf2
  · obtain rfl | he := Store.mem_put _ _ _ _ he
    · exact hf1
    · simp only [hp0, List.mem_singleton] at he
      rw [he]
      rfl

theorem hyps_KvSharingAndSpeculation_specOpen :
    let s : State := { tabled (kvTab 5 2) [] with pm := { (tabled (kvTab 5 2) []).pm with frames := [] } }
    ∃ s1 b s2 es s3 es2, s.takeBlock 2 = some (s1, b) ∧ s1.kvNewPages (kvTab 5 2) 0 4 true 1 0 [] = .ok (s2, es) ∧
      s2.kvNewPages (kvTab 5 2) 0 4 true 1 0 es = .ok (s3, es2) := by
  obtain ⟨s1, b, s2, es, s3, es2, h1, h2, h3, -⟩ := overlay_found { tabled (kvTab 5 2) [] with pm := { (tabled (kvTab 5 2) []).pm with frames := [] } }
    rfl rfl rfl (by decide +kernel)
  exact ⟨s1, b, s2, es, s3, es2, h1, h2, h3⟩

/-! ### JobsArePlacedAndComplete -/

theorem hyps_JobsArePlacedAndComplete :
    let w : Job := { run3 with placed := false, regions := [], ops := [.waiting] }
    let base : State := { atTurn 2 .running with progs := [(3072, prog0)], sched := { ready.sched with running := some 3 } }
    let s : State := { base with jobs := [(7, w)] }
    let d (x : OpPhase) : State := { base with jobs := [(7, { run3 with entry := 7, ops := [x] })] }
    (s.computeOpen = true ∧ (s.elapse 5).nextJob = some (7, w) ∧ s.progs.look 3072 = some prog0 ∧ ready.nextJob = none) ∧
    ((d .computed).clocked = true ∧ ((d .computed).elapse 5).issues [0] = true ∧ ((d .computed).elapse 5).jobStalled 7 = false) ∧ ([0] : List Nat).all ((d .complete).elapse 5).granting = true ∧
    ((d .complete).queue 3 0).entries.find? (fun y => y.id == 7) = some ⟨7, 0, 2, .running, 0, 0, false, 0⟩ ∧ prog0.unloaded = false ∧
    (d .complete).mirrored 3 = false := by decide +kernel

/-- Some region is free on a module at rest, whichever the free choice begins with. -/
theorem hyps_JobsArePlacedAndComplete_free : ready.freeRegions ≠ [] := by
  have h : ∀ r, r < 6 → ready.regionFree r = true := by decide +kernel
  intro e
  have hm : ready.pick 0 % 6 ∈ ready.freeRegions := by
    simp only [State.freeRegions, List.mem_filter, List.mem_map, List.mem_range]
    exact ⟨⟨0, by omega, by omega⟩, h _ (Nat.mod_lt _ (by omega))⟩
  rw [e] at hm
  exact absurd hm (List.not_mem_nil)

/-! ### ServedModelsAndAdapters -/

/-- A model of context 3 in slot 0 with program 3072. -/
def model0 : Model := ⟨3072, 64, 100, 0, 0xFFFF, 1, [0, 1], 1, 0, 0, none, 1, 1, 16, 16, 0, 256, none, 0⟩

/-- A customer with a refill of 1 position a second and a burst of 4, half full. -/
def customer0 : Customer := ⟨1, 4, 2048, 0, 0⟩

/-- `atTurn` with these serving records. -/
def serving (raw : BitVec 512) (f : Serving → Serving) : State := { atTurn raw .fetched with serving := f (atTurn raw .fetched).serving }

/-- An adapter generation of context 3, handle 0. -/
def adapter0 (cur : Bool) (w : List EntryRef) : AdapterGen := ⟨3, 0, 1, 0, cur, [], [], w⟩

/-- An ADAPTER_LOAD of context 3 whose record at CVA 0 names model 0 and one target of rank 1 on an operator without elements. -/
def adapting : State :=
  let s := serving 0x15 fun v => { v with models := [(12, model0)] }
  { s with
    hbm := [(2, 1), (68, 1)], progs := [(3072, { prog0 with operators := [BitVec.ofNat 512 (2 ^ 48)], tensors := [1] })] }

theorem hyps_ServedModelsAndAdapters :
    let e (raw : BitVec 512) : QEntry := ⟨7, 0, raw, .fetched, 0, 0, false, 0⟩
    (∀ ty ∈ [0x10, 0x11, 0x15, 0x16], (atTurn (BitVec.ofNat 512 ty) .fetched).nextEntry 3 0 ty = some (e (BitVec.ofNat 512 ty))) ∧
    (atTurn 0x10 .fetched).unitsRun = true ∧
    (let s := serving 0x10 fun v => { v with models := [(12, model0)] }
     (s.model 3 0).isSome = true ∧ s.model 3 0 = some model0 ∧ model0.leaving = none) ∧ (atTurn 0x11 .fetched).model 3 0 = none ∧
    (let s := serving 0 fun v => { v with models := [(12, { model0 with leaving := some ⟨3, 0, 7⟩ })] }
     s.clocked = true ∧ s.requestsOf 3 = [] ∧ s.serving.steps.look 3 = none) ∧
    ((atTurn 0x15 .fetched).adapterLoad 3 0 0).2 = stBadAdapter ∧ adapting.nextEntry 3 0 0x15 = some (e 0x15) ∧ (adapting.adapterLoad 3 0 0).2 = stOk ∧
    (let s := serving 0x16 fun v => { v with adapters := [(5, adapter0 true [])] }
     s.currentAdapter 3 0 = some (5, adapter0 true []) ∧ (BitVec.ofNat 512 0x16).getLsbD 232 = false ∧ s.serving.adapters.look 5 = some (adapter0 true [])) ∧
    (let s := serving 0 fun v => { v with adapters := [(5, adapter0 false [⟨3, 0, 7⟩]), (6, adapter0 false [])] }
     s.pinned (adapter0 false []) = [] ∧ s.serving.adapters.look 5 = some (adapter0 false [⟨3, 0, 7⟩]) ∧ s.clocked = true) := by decide +kernel

/-! ### RequestsAndStreams -/

/-- A request descriptor of context 3: TAG 9, STREAM 0, MODEL 0, MAX_NEW_TOKENS `n`, DEADLINE `d`. -/
def reqDesc (n d : Nat) : BitVec 1024 := BitVec.ofNat 1024 (9 * 2 ^ 416 + n * 2 ^ 448 + d * 2 ^ 608)

/-- A request of context 3 between steps. -/
def request0 : Request :=
  { ctx := 3, gen := 1, desc := reqDesc 8 0, state := .decode, admitTide := 0, delivered := 0, prefixHit := 0, specProposed := 0, specAccepted := 0
    energy := 0, table := 9, draftTable := none, adapterGen := 0, status := 0, waitReason := 0, restarts := 0, mixedKv := false
    deadlineMissed := false, cancelPending := false, forced := false, resumed := false, inFlight := false, endReason := 0, prompt := [1, 2]
    frames := [], out := [], counts := [], drawn := [], endDue := false, noMemSince := none, budgetSince := none, cancels := [] }

/-- A stream in the mapped page at CVA 0. -/
def stream0 : Stream := ⟨0, 4, 0, 0, 0, true, true, none⟩

/-- A serving context: this entry at turn, this request 0, stream 0, model 0. -/
def requesting (raw : BitVec 512) (r : Request) : State :=
  serving raw fun v => { v with requests := [(0, r)], streams := [(768, stream0)], models := [(12, model0)], customers := [(3072, customer0)] }

theorem hyps_RequestsAndStreams :
    let e (raw : BitVec 512) : QEntry := ⟨7, 0, raw, .fetched, 0, 0, false, 0⟩
    let s := requesting 0 request0
    let x (r : Request) : State := requesting 0 r
    let tok : Request := { request0 with drawn := [5] }
    let late : Request := { request0 with desc := reqDesc 8 1 }
    let nomem : Request := { request0 with noMemSince := some 0 }
    let done : Request := { request0 with state := .ending }
    (∀ ty ∈ [0x13, 0x14, 0x17, 0x18, 0x19], (atTurn (BitVec.ofNat 512 ty) .fetched).nextEntry 3 0 ty = some (e (BitVec.ofNat 512 ty))) ∧
    (s.unitsRun = true ∧ s.workRefusal 3 = none ∧ { s with integ := { s.integ with persistent := some 1 } }.workRefusal 3 = some stJobFault ∧
      (s.submitRequest 3 0).2 = stBadRequest) ∧
    (s.requestByTag 3 8 = none ∧ s.requestByTag 3 9 = some (0, request0) ∧ s.request 0 = some request0 ∧ request0.cancelPending = false ∧
      (x { request0 with inFlight := true }).requestByTag 3 9 = some (0, { request0 with inFlight := true })) ∧
    (s.cvaMapped 3 0 128 = true ∧ ((s.refreshWaits 3).request 0).isSome = true) ∧
    (s.stream 3 0 = some stream0 ∧ s.stream 3 1 = none ∧ stream0.closing = none ∧ entField (BitVec.ofNat 512 (0x17 + 4 * 2 ^ 232)) 232 5 = 4 ∧
      entField (BitVec.ofNat 512 0x17) 232 5 < 4) ∧
    (let c : State := serving 0 fun v => { v with streams := [(768, { stream0 with closing := some ⟨3, 0, 7⟩ })] }
     c.clocked = true ∧ c.requestsOf 3 = [] ∧ (c.stream 3 0).isSome = true) ∧
    (((x tok).streamDue 3 0).filter (fun e => (x tok).mirrorCovers e.1) = [(0, tok)] ∧ (x tok).mayServe 3 = true ∧ stream0.used < 2 ^ stream0.order - 1 ∧
      (x tok).cvaMapped 3 0 32 = true ∧ ({ stream0 with tail := 15 } : Stream).used = 2 ^ 4 - 1) ∧
    (s.serves 3 = true ∧ (s.ctx 3).tdi ≠ .locked) ∧ ((x done).request 0 = some done ∧ (x done).clocked = true) ∧
    (reqDeadline late.desc ≠ 0 ∧ reqDeadline late.desc < ((x late).elapse 5).tideNat ∧ late.deadlineMissed = false ∧ reqDeadline request0.desc = 0) ∧
    ((x nomem).request 0 = some nomem ∧ 0 + 100000000 ≤ (x nomem).now + 100000000) ∧
    (let r : State := { s with sched := { s.sched with running := some 3 } }
     r.ctxRunning 3 = true ∧ r.computeOpen = true ∧ (r.servingRegions 3).length < r.servingWant 3 ∧ s.ctxRunning 3 = false ∧ s.serving.steps.look 3 = none) := by
  decide +kernel

/-! ### ServingSteps -/

/-- `requesting` with a step in flight that holds request 0. -/
def stepping (r : Request) : State :=
  let s := requesting 0 r
  { s with serving := { s.serving with steps := [(3, ⟨.decode, 0, [⟨0, 2, [2], [], [], 0, 0, 1⟩], 1, [0]⟩)] } }

/-- `requesting` with the context running, a region held for it, and the request's table. -/
def dueStep (r : Request) : State :=
  let s := requesting 0 r
  { s with
    sched := { s.sched with running := some 3 }, regions := [(0, { RegionState.reset with holder := .serving 3, sram := some 3 })]
    kv := (tabled (kvTab 5 2) []).kv, pm := { s.pm with frames := [] } }

theorem hyps_ServingSteps_issue :
    let s (r : Request) : State := (((dueStep r).elapse 5).noteIdle 3).refreshWaits 3
    let pre : Request := { request0 with state := .prefill, prompt := [1, 2, 3] }
    (∀ r ∈ [request0, pre], (s r).mayStep 3 = true ∧ (s r).request 0 = some r ∧ (s r).model 3 0 = some model0 ∧ (s r).kvTable 9 = some (kvTab 5 2) ∧
      (s r).customer 3 0 = some customer0 ∧ ((s r).walkFormats model0 9).1 = true ∧ (s r).keyOrder 3 = [(0, r)]) ∧
    ((s request0).draftCount request0 = 0 ∧ ((s request0).evictingEdit 3 fun x => x.kvCover 9 0 0 (x.reqLength request0 + 1) 65537).2 = stOk) ∧
    (((s pre).evictingEdit 3 fun x => x.kvCover 9 0 0 (x.reqLength pre + 1) 65537).2 = stOk ∧
      min (min (pre.sequence.length - (s pre).reqLength pre) ((s pre).dictVal 0x310002)) (min 16384 model0.sMax) = 1) := by decide +kernel

/-- The same with one draft from the prefix index: a root and a node of 16 tokens that begins with the request's. -/
def draftDue : State :=
  let r : Request := { request0 with desc := request0.desc + 2 * 2 ^ 369 + 2 ^ 371 }
  let node : PrefixNode :=
    { tokens := [], lastUse := 0, table := none, parent := none, depth := 0, children := 1, pins := 0, adapter := 0, adapterGen := 0, gen := 1
      ctx := 3, model := 0, hash := rootHash 3 1 0 0 0, next := none }
  let s := dueStep r
  { s with serving := { s.serving with
    nodes := [(0, node), (1, { node with parent := some 0, depth := 1, children := 0, tokens := [1, 2] ++ List.replicate 14 7 })]
    buckets := [(prefixBucket (rootHash 3 1 0 0 0), 0)] } }

/-- What a store looks up is listed in it. -/
theorem look_mem {α : Type} (m : Store α) (a : Nat) (v : α) (h : m.look a = some v) : (a, v) ∈ m := by
  induction m with
  | nil => cases h
  | cons x m ih =>
    obtain ⟨k, w⟩ := x
    unfold Store.look at h
    split at h
    · rename_i e
      cases h
      rw [e]
      exact List.mem_cons_self
    · exact List.mem_cons_of_mem _ (ih h)

theorem hyps_ServingSteps_spec :
    let u := ((draftDue.elapse 5).noteIdle 3).refreshWaits 3
    ∃ r v kv, u.mayStep 3 = true ∧ u.request 0 = some r ∧ u.model 3 0 = some model0 ∧ (u.kvTable 9).isSome = true ∧ v.kvTable 9 = some kv ∧
      v.customer 3 0 = some customer0 ∧ (v.walkFormats model0 9).1 = true ∧ u.keyOrder 3 = [(0, r)] ∧ r.state = .decode ∧
      reqSpecSource r.desc = 2 ∧ u.draftCount r = 1 ∧ u.evictingEdit r.ctx (fun x => x.kvSpecOpen r.table (u.draftCount r + 1)) = (v, stOk) := by
  intro u
  obtain ⟨r, hr⟩ : ∃ r, r = ({ request0 with desc := request0.desc + 2 * 2 ^ 369 + 2 ^ 371 } : Request) := ⟨_, rfl⟩
  obtain ⟨s1, b, s2, es, s3, es2, h1, h2, h3, hs, ht, hp⟩ :=
    overlay_found u (by decide +kernel) (by decide +kernel) (by decide +kernel) (by decide +kernel)
  have hd : u.draftCount r = 1 := by rw [hr]; decide +kernel
  have ho : u.kvOwner 9 = .ok (kvTab 5 2) := by
    have h : (match u.kvOwner 9 with | .ok t => t == kvTab 5 2 | .error _ => false) = true := by decide +kernel
    revert h
    cases u.kvOwner 9 with
    | error e => exact fun h => Bool.noConfusion h
    | ok t => exact fun h => by rw [eq_of_beq h]
  have hx : ((kvTab 5 2).spans.getLast?.bind fun x => x.entries.head?).bind (fun e => (u.kvPage e.slot).map (·.fmt)) = some 4 := by decide +kernel
  have hn : u.serving.nodes.length = 2 := by decide +kernel
  have hr' : r.table = 9 := by rw [hr]; rfl
  have hv : u.kvSpecOpen 9 2 = (s3.setTable 9 { kvTab 5 2 with overlay := some ⟨2, 2, b, es2⟩ }).kvSay stOk := by
    unfold State.kvSpecOpen
    simp only [ho, hx]
    simp only [show (kvTab 5 2).overlay = none from rfl, show (kvTab 5 2).layers = 1 from rfl, h1, h2, h3]
    rfl
  have he : u.evictingEdit r.ctx (fun x => x.kvSpecOpen r.table (u.draftCount r + 1)) =
      (((s3.setTable 9 { kvTab 5 2 with overlay := some ⟨2, 2, b, es2⟩ }).kvSay stOk).1, stOk) := by
    rw [hd]
    simp only [State.evictingEdit, State.evicting, hn, State.withEviction, hr', hv]
    rfl
  have hc : s3.serving.customers.look 3072 = some customer0 := by
    rw [hs]
    decide +kernel
  obtain ⟨v, hv'⟩ : ∃ v, v = ((s3.setTable 9 { kvTab 5 2 with overlay := some ⟨2, 2, b, es2⟩ }).kvSay stOk).1 := ⟨_, rfl⟩
  have hk : v.kvTable 9 = some { kvTab 5 2 with overlay := some ⟨2, 2, b, es2⟩ } := by rw [hv']; exact Store.look_put_same _ _ _
  have hc' : v.customer 3 0 = some customer0 := by rw [hv']; exact hc
  have hp' : ∀ e ∈ v.kv.pages, e.2.fmt = 4 := by rw [hv']; exact hp
  rw [← hv'] at he
  refine ⟨r, v, _, by decide +kernel, by rw [hr]; decide +kernel, by decide +kernel, by decide +kernel, hk, hc', ?_, by rw [hr]; decide +kernel, by rw [hr]; rfl, by rw [hr]; decide +kernel, hd, he⟩
  unfold State.walkFormats
  rw [hk]
  simp only [List.all_eq_true, List.mem_filterMap]
  rintro f ⟨i, -, hi⟩
  obtain ⟨p, hq, rfl⟩ := Option.map_eq_some_iff.mp hi
  rw [show p.fmt = 4 from hp' _ (look_mem _ _ _ hq)]
  decide +kernel

theorem hyps_ServingSteps :
    let s := stepping { request0 with inFlight := true }
    let rows (l : List (List (BitVec 32))) : State := { s with serving := { s.serving with rows := [.request ⟨0, l, [], []⟩] } }
    (s.serving.steps.look 3).isSome = true ∧ (s.clocked = true ∧ (s.elapse 5).issues [0] = true) ∧ ready.serving.steps.look 3 = none ∧
    ({ request0 with cancelPending := true }.cancelPending = true ∧ request0.restarts < 2 ∧ 2 ≤ { request0 with restarts := 2 }.restarts) ∧
    ready.serving.rows = [] ∧ ((rows [[0x3F800000, 0]]).request 0).isSome = true ∧
    drawToken request0.params (fun y => request0.counts.valAt 0 y) (uniform (reqSeed request0.desc) 0 0) ([0x3F800000, 0].map decode32) = some 0 ∧
    drawToken request0.params (fun y => request0.counts.valAt 0 y) (uniform (reqSeed request0.desc) 0 0) ([] : List Val) = none := by
  decide +kernel

/-! ### CustomerSetKeepsTheLevel -/

theorem hyps_CustomerSetKeepsTheLevel :
    let e (raw : BitVec 512) : QEntry := ⟨7, 0, raw, .fetched, 0, 0, false, 0⟩
    let set : BitVec 512 := BitVec.ofNat 512 (0x12 + 4 * 2 ^ 448)
    (atTurn set .fetched).nextEntry 3 0 0x12 = some (e set) ∧ (atTurn set .fetched).unitsRun = true ∧
    (atTurn 0x12 .fetched).nextEntry 3 0 0x12 = some (e 0x12) ∧ entField (BitVec.ofNat 512 0x12) 448 32 = 0 ∧ entField set 448 32 = 4 ∧
    (serving set fun v => { v with customers := [(3072, customer0)] }).customer 3 0 = some customer0 ∧ (atTurn set .fetched).customer 3 0 = none ∧
    ({ customer0 with refill := 0 }.carry < 10 ^ 9 ∧ customer0.level ≤ (customer0.burst * 1024 : Nat) ∧ customer0.last ≤ 0) := by decide +kernel

/-! ### VideoDecodeSessions -/

/-- An open decode session of context 3 (16 × 16, one slot, a ring of 16 records in the page at CVA 0). -/
def dec0 : DecSession :=
  { ctx := 3, desc := BitVec.ofNat 1024 (2 ^ 768 * 100 + 2 ^ 752 * 16 + 2 ^ 736 * 16 + 2 ^ 731 + 2 ^ 725 + 2 ^ 720 * 4), tensor := 0, queue := [], feed := none
    ring := ⟨0, 4, 0, 0, 0, true, true, []⟩, slots := [.free], lastSlot := 0, ready := [], core := none, started := 0, pts := 0, outputs := 0, pictures := 0
    size := (0, 0), taint := false, skipping := false, lastStatus := 0, closing := none, discard := false, frames := [], pins := [] }

/-- A grey picture of 16 × 16. -/
def pic0 : DecodedPicture := ⟨.frame ⟨16, 16, [], []⟩, none, none, 0, true, true⟩

/-- Its sequence: Main profile, 4:2:0, 8 bits. -/
def seq0 : SequenceInfo := ⟨.main, 30, 1, 8, 16, 16, 1, false, none, false⟩

/-- This entry at turn and this session 0. -/
def decoding (raw : BitVec 512) (x : DecSession) : State := { atTurn raw .fetched with video := ⟨[(384, x)], [], [], []⟩ }

theorem hyps_VideoDecodeSessions :
    let e (raw : BitVec 512) : QEntry := ⟨7, 0, raw, .fetched, 0, 0, false, 0⟩
    let d (f : DecSession → DecSession) : State := decoding 0 (f dec0)
    let piece : FeedPiece := ⟨[1, 2], 0, false, false⟩
    let r : ReadyPicture := ⟨pic0, seq0, 0, false, false, []⟩
    let feed : BitVec 512 := BitVec.ofNat 512 (0x21 + 8 * 2 ^ 416)
    let clean : DecodeOutcome := ⟨[], [], 0, seq0, some pic0⟩
    let units : List DecUnit := [⟨3, 0, 2⟩]
    (∀ ty ∈ [0x20, 0x21, 0x22], (decoding (BitVec.ofNat 512 ty) dec0).nextEntry 3 0 ty = some (e (BitVec.ofNat 512 ty))) ∧
    ((decoding 0x20 dec0).unitsRun = true ∧ ((decoding 0x20 dec0).vdecOpen 3 0 0).2 = stSessionBusy ∧
      (decoding 0x20 dec0).decSession 3 1 = none) ∧
    ((decoding feed dec0).nextEntry 3 0 0x21 = some (e feed) ∧ entField feed 416 32 = 8 ∧ 8 ≤ dsInput dec0.desc ∧ (decoding feed dec0).cvaMapped 3 0 8 = true ∧
      dsInput dec0.desc < entField (BitVec.ofNat 512 (0x21 + 200 * 2 ^ 416)) 416 32) ∧
    ((d fun x => { x with feed := some (feed, ⟨3, 0, 7⟩) }).readCvaN 3 none 0 8 = some (List.replicate 8 0) ∧
      dsInput dec0.desc < ({ dec0 with queue := [⟨List.replicate 99 0, 0, false, false⟩] } : DecSession).queued + 8) ∧
    (streamBytes dec0.queue = 0 ∧ dec0.ring.due = [] ∧ (0 + 2 ^ 4 - 0) % 2 ^ 4 < 2 ^ 4 - 1 ∧ streamBytes [piece] ≠ 0) ∧
    (dec0.freeSlot = some 0 ∧ ({ dec0 with slots := [.host] } : DecSession).freeSlot = none ∧ dsDrop dec0.desc = false ∧ dsNoDamaged dec0.desc = false ∧
      dsNoDamaged (dec0.desc ||| 1 <<< 710) = true) ∧
    (let s := d fun x => { x with queue := [piece] }
     s.computeOpen = true ∧ s.agentIssues 8 = true ∧
       (pickSession s.video.turn 0 (fun y => dsPriority y.desc) (s.video.dec.filter fun e => e.2.startable (unitOf units e.1))).isSome = true ∧
       (∀ y ∈ s.video.dec.vals, y.core ≠ some 0)) ∧
    (let s := d fun x => { x with core := some 0 }
     s.video.dec.find? (fun e => e.2.core == some 0) = some (384, { dec0 with core := some 0 }) ∧ s.clocked = true ∧ beyondSession dec0.desc seq0 = false ∧ sequenceSupported (dsCodec dec0.desc) seq0 = true ∧
       sequenceSupported (dsCodec dec0.desc) { seq0 with chroma := 2 } = false ∧
       clean.picture = some pic0 ∧ 0 + s.pictureBudget { dec0 with core := some 0 } < s.now + 10 ^ 9) ∧
    ((d id).serves 3 = true ∧ ((d id).ctx 3).tdi ≠ .locked ∧ ((decoding 0 { dec0 with ready := [r] }).decSession 3 0).isSome = true) ∧
    (d fun x => { x with ring := { x.ring with due := [⟨1, 0, 0, 0, 0, 0, false, some 0⟩] } }).unitsRun = true := by decide +kernel

/-! ### VideoEncodeSessions -/

/-- An open encode session of context 3: 16 × 2, one slice a picture, rings in the page at CVA 0; RC_MODE `m`. -/
def enc0 (m : Nat) : EncSession :=
  { ctx := 3
    desc := BitVec.ofNat 2048 (2 ^ 1888 * 4096 + 2 ^ 1744 * 30 + 2 ^ 1728 + 2 ^ 1712 * 16 + 2 ^ 1696 * 2 + 2 ^ 1640 * 2 + 2 ^ 1636 + 2 ^ 1627 * 4 + 2 ^ 1617 * m)
    bitrate := 0, maxBitrate := 0, rate := 0, nextRate := none, fullness := 0, frames := [], coded := [], refs := [], pool := [], vectors := [], sinceIdr := none, idrOwed := false, number := 0
    current := none, core := none, ring := ⟨0, 4, 0, 0, 0, true, true, []⟩, outHead := 0, outTail := 0, lastStatus := 0, closing := none, memory := []
    pins := [] }

/-- A source picture without content, and the picture that codes it. -/
def frame0 : EncFrame := ⟨0, [], ⟨[], []⟩, [], false, false, false, 0⟩

def coding (slices : Nat) : EncPicture := ⟨frame0, true, false, 21600000, 0, 0, slices, 0, []⟩

/-- This entry at turn and this session 0. -/
def encoding (raw : BitVec 512) (x : EncSession) : State := { atTurn raw .fetched with video := ⟨[], [(96, x)], [], []⟩ }

theorem hyps_VideoEncodeSessions :
    let e (raw : BitVec 512) : QEntry := ⟨7, 0, raw, .fetched, 0, 0, false, 0⟩
    let frame (y : Nat) : BitVec 512 := BitVec.ofNat 512 (0x24 + 2 ^ 240 + y * 2 ^ 448)
    let busy (n : Nat) : State := encoding 0 { enc0 0 with core := some 0, current := some (coding n), refs := [.current] }
    let open0 := encoding 0x23 (enc0 0)
    (∀ ty ∈ [0x23, 0x24, 0x25, 0x26], (encoding (BitVec.ofNat 512 ty) (enc0 0)).nextEntry 3 0 ty = some (e (BitVec.ofNat 512 ty))) ∧
    (open0.unitsRun = true ∧ (open0.vencOpen 3 0 0).2 = stSessionBusy ∧ open0.encSession 3 1 = none ∧ (enc0 0).closing = none) ∧
    (entField (BitVec.ofNat 512 0x24) 240 16 = 0 ∧ entField (frame 0) 240 16 = 1 ∧ entField (frame 0) 236 4 = 0 ∧
      (encoding 0 (enc0 0)).readCvaN 3 none 8192 (64 * esHeight (enc0 0).desc) = none ∧ entField (frame 8192) 448 64 = 8192 ∧
      esWidth (enc0 0).desc * esBytes (enc0 0).desc ≤ 64 ∧ (encoding 0 (enc0 0)).readCvaN 3 none 0 (64 * 2) = some (List.replicate 128 0) ∧
      (encoding 0 (enc0 0)).readCvaN 3 none 0 (64 * 1) = some (List.replicate 64 0)) ∧
    ((0 + 2 ^ 4 - 0) % 2 ^ 4 < 2 ^ 4 - 1 ∧ (enc0 0).ring.due = [] ∧ (enc0 0).frames = []) ∧
    (esRcMode (enc0 0).desc = 0 ∧ esRcMode (enc0 1).desc = 1 ∧ hrdBad (enc0 1).desc (hrdRate 0) = true ∧ hrdBad (enc0 1).desc (hrdRate 100000) = true ∧
      (let d := (enc0 1).desc ||| (BitVec.ofNat 2048 (10 ^ 9 * 2 ^ 1792 + 90000 * 2 ^ 1760))
       esRcMode d = 1 ∧ hrdBad d (hrdRate 100000) = false)) ∧
    (open0.serves 3 = true ∧ (open0.ctx 3).tdi ≠ .locked ∧ esOutBytes (enc0 0).desc = 4096) ∧
    (let s := encoding 0 { enc0 0 with frames := [frame0] }
     s.computeOpen = true ∧ s.agentIssues 8 = true ∧ (pickSession s.video.turn 8 (fun y => esPriority y.desc) (s.video.enc.filter fun e => e.2.core.isNone && !e.2.frames.isEmpty)).isSome = true) ∧
    (esSlices (enc0 0).desc = 1 ∧ (busy 0).encodeCore 0 = some (96, { enc0 0 with core := some 0, current := some (coding 0), refs := [.current] }, coding 0) ∧
      (busy 1).encodeCore 0 = some (96, { enc0 0 with core := some 0, current := some (coding 1), refs := [.current] }, coding 1) ∧ (busy 0).clocked = true) := by
  decide +kernel

/-- A CBR session that codes its first picture, whose cap leaves room for one byte. -/
def cbr0 (head : Nat) : EncSession := { enc0 1 with core := some 0, current := some (coding 0), refs := [.current], outHead := head }

/-- Whatever the encoder codes, one byte of it is stored where the cap leaves room for one. -/
theorem slice_of_one_byte (x : EncSession) (p : EncPicture) (hm : esRcMode x.desc = 1) (hf : p.floor = 0)
    (hn : (p.cap - p.used - restBits x.desc p) / bitUnit x.desc / 8 = 1) : (x.sliceBytes p).length = 1 := by
  have hb : (x.sliceBody p).length = 1 := by
    unfold EncSession.sliceBody
    rw [hm, if_neg (by decide), hn]
    split
    · rfl
    · rename_i h
      rw [List.length_take]
      exact Nat.min_eq_left (List.length_pos_iff.mpr h)
  have hc : ∀ n, ceilDiv 0 n = 0 := fun n => by
    unfold ceilDiv
    rw [Nat.zero_add]
    rcases n with _ | n
    · rfl
    · exact Nat.div_eq_of_lt (by omega)
  unfold EncSession.sliceBytes
  dsimp only
  split
  · rw [hf, Nat.zero_sub, hc, List.length_append, hb]
    rfl
  · exact hb

/-- Such a slice fits an empty ring and no full one. -/
theorem hyps_VideoEncodeSessions_slice :
    ((cbr0 0).sliceBytes (coding 0)).length = 1 ∧ (cbr0 0).sliceFits (coding 0) 1 = true ∧
      ((cbr0 1).sliceBytes (coding 0)).length = 1 ∧ (cbr0 1).sliceFits (coding 0) 1 = false ∧ esRcMode (cbr0 0).desc ≠ 0 ∧
      (encoding 0 (cbr0 0)).encodeCore 0 = some (96, cbr0 0, coding 0) ∧ (encoding 0 (cbr0 0)).clocked = true :=
  ⟨slice_of_one_byte _ _ (by decide +kernel) rfl (by decide +kernel), by decide +kernel,
    slice_of_one_byte _ _ (by decide +kernel) rfl (by decide +kernel), by decide +kernel, by decide +kernel, by decide +kernel, by decide +kernel⟩

/-! ### ChipFaultOverridesRegionHandling -/

theorem hyps_ChipFaultOverridesRegionHandling :
    let s : State := { ready with regions := [(2, { RegionState.reset with phase := .draining, faulted := [4] }), (3, { RegionState.reset with phase := .selfTest })] }
    s.board.powered = true ∧ s.board.ready = true ∧ s.slackRuns = true ∧ s.slackArmed 3 = false ∧ (s.regions.valAt .reset 2).phase ≠ .disabled ∧
      ({ s with integ := { s.integ with persistent := some 2 } } : State).integ.persistent.isSome = true := by decide +kernel

/-! ### RegionFaultsAndRetries -/

theorem hyps_RegionFaultsAndRetries :
    let reg (p : RegionPhase) : State := { ready with regions := [(2, { RegionState.reset with phase := p, faulted := [4] })] }
    let j : Job := { run3 with regions := [2] }
    (ready.clocked = true ∧ ready.integ.recovering = none ∧ ready.integ.persistent = none ∧ (ready.regions.valAt .reset 2).phase = .inService ∧
      ((reg .selfTest).regions.valAt .reset 2).phase = .selfTest ∧ ((reg .draining).regions.valAt .reset 2).phase = .draining ∧
      2 ≤ (([0, 0] : List Nat).filter fun t => decide (ready.now ≤ t + 1000000000)).length ∧
      ({ ready with integ := { ready.integ with poisoned := [(turnBlock 2 7, [0, 0])] } } : State).integ.poisoned.valAt [] (turnBlock 2 7) = [0, 0] ∧
      (({ ready with pm := { ready.pm with frames := [(5, ⟨0, .device, 0, 0, false, false, .held⟩)] } } : State).frameAt (5 * 64 / 64)).isSome = true ∧
      bitOf (ready.disabledOf 2) 7 = false ∧ bitOf (({ ready with integ := { ready.integ with disabled := [(2, 128)] } } : State).disabledOf 2) 7 = true) ∧
    (({ reg .draining with jobs := [(4, { run3 with regions := [1] }), (5, j), (6, run3)] } : State).jobs.look 5 = some j ∧ 2 ∈ j.regions ∧ 2 ∉ run3.regions) ∧
    ready.regionFree 2 = true ∧
    (ready.board.powered = true ∧ ready.board.ready = true ∧ ready.slackRuns = true ∧ ready.slackArmed 3 = false ∧ ready.pair.role ≠ .active ∧
      causePersists (causeCode .railFault) = true ∧ causePersists (causeCode .thermalTrip) = false ∧ ready.obs.slack.faultPending = none ∧
      ({ ready with obs := { ready.obs with slack := { ready.obs.slack with mode := .captured } } } : State).slackRuns = false) ∧
    ((ready.d2d .a).failed = false ∧ (ready.d2d .a).failing 5 < 8 ∧ (⟨5, 7, false⟩ : D2dLink).failing 5 = 8 ∧ ready.integ.noc.2 < 7) := by
  decide +kernel

/-! ### SelfTestWindowsSweepsAndRecovery -/

theorem hyps_SelfTestWindowsSweepsAndRecovery :
    let w : TestWindow := ⟨0, 1, 0, none, false, false⟩
    let win (x : TestWindow) : State := { ready with integ := { ready.integ with windows := [(2, x)] } }
    let rec7 : State := { ready with integ := { ready.integ with recovering := some (7, 0) } }
    let swept : State := { ready with integ := { ready.integ with sweep := some (0, 0) } }
    (ready.clocked = true ∧ (ready.elapse 2000000000).tideNat / 2000000000 ≠ ready.integ.windowsAt ∧ ready.integ.recovering = none ∧ ready.integ.sweep = none ∧
      (ready.regions.valAt .reset 2).phase = .inService ∧ ready.integ.windows.look 2 = none ∧ ready.disabledOf 2 = 0 ∧ ready.integ.repeats = [] ∧
      (ready.elapse 5).tideNat / 2000000000 = ready.integ.windowsAt) ∧
    ((win w).integ.windows.look 2 = some w ∧ w.opened + 2000000 ≤ (win w).now + 2000000 ∧ ((win w).elapse 2000000).issues [2] = true ∧
      (win w).integ.mismatched.contains 64 = false) ∧
    (({ w with stalled := some 0 } : TestWindow).stalled = some 0 ∧ 0 + 10000000 ≤ ready.now + 10000000) ∧
    (ready.limits.tripped = false ∧ ready.woOpen = true) ∧
    (swept.integ.sweep = some (0, 0) ∧ swept.board.powered = true ∧ swept.slackRuns = true ∧ swept.asleep = false ∧ swept.regionsGone = false) ∧
    (ready.power.mode < 3 ∧ ready.integ.watchdog = none) ∧ (rec7.recoveryOver = true ∧ rec7.pair.role ≠ .fenced ∧ ready.recoveryOver = true) := by
  decide +kernel

/-! ### PowerLimitsAndEnergy -/

theorem hyps_PowerLimitsAndEnergy :
    let w : PowerWindow := ⟨[300000, 0, 0, 0, 0, 0, 0, 0, 0, 0, 0, 0], 10, 5⟩
    let trip : State := { ready with limits := { ready.limits with tripped := true, coolSince := some 0 } }
    let hot : State := { ready with limits := { ready.limits with junction := [(1, 96), (2, 94)], fThermal := [(3, 60)] } }
    ready.mgmtUp = true ∧ ready.serves 0 = true ∧ ready.serves 3 = true ∧ ready.marginTop = some 150 ∧ ready.marginOf 2 3 + 10 ≤ 150 ∧
    ({ ready with dict := [(0x250007, 2)] } : State).marginTop = none ∧
    (ready.loopsRun = true ∧ (ready.elapse 2000).tideNat % 2000 = 0 ∧ (ready.elapse 1999).tideNat % 2000 ≠ 0 ∧ (∃ x ∈ regionRails w 0, x.2.2 < x.2.1) ∧
      (∀ x ∈ regionRails w 1, x.2.1 * 100 ≤ x.2.2 * 95)) ∧
    (trip.limits.coolSince = some 0 ∧ 0 + 1000000000 ≤ trip.now + 1000000000) ∧
    (ready.thermalTarget = some 95 ∧ ({ ready with dict := [(0x250005, 2)] } : State).thermalTarget = none ∧ (95 : Int) ≤ hot.junctionOf 1 ∧
      min 900 (hot.vLoNow 1) ≤ hot.limits.ceiling.valAt 900 1 ∧ (95 : Int) - 3 < hot.junctionOf 2 ∧ hot.junctionOf 3 ≤ 95 - 3 ∧ hot.limits.fThermal.valAt 64 3 < 64) ∧
    ((ready.elapse 1000000).tideNat % 1000000 = 0 ∧ ready.limits.use = [] ∧ ready.limits.diverged = false ∧ ready.limits.over15 < 49 ∧
      ({ ready with jobs := [(5, run3)] } : State).jobs.look 5 = some run3) := by decide +kernel

/-! ### PowerStatesAndWake -/

theorem hyps_PowerStatesAndWake :
    let m (f : PowerUnit → PowerUnit) : State := { ready with power := f ready.power }
    let sleeping := m fun p => { p with mode := 2 }
    let drop (mode perm : Nat) : State := { m (fun p => { p with mode := mode, deeperSince := some 0 }) with dict := [(0x200002, perm), (0x201001, 255)], config := [(0, 1), (3, 1)] }
    let sess : State := { ready with net := { ready.net with sessions := [(2, session)] } }
    (ready.serves 3 = true ∧ ready.net.sessions.look 5 = none ∧ sess.mgmtUp = true ∧ sess.asleep = false ∧ sess.net.sessions.look 2 = some session ∧
      session.opening = false) ∧
    ((m fun p => { p with mode := 0 }).workOver = true ∧ (m fun p => { p with mode := 0 }).board.powered = true) ∧
    (((drop 1 2).elapse (10 ^ 12)).mayDrop = true ∧ 2 ≤ ((drop 1 2).elapse (10 ^ 12)).permitted ∧ (ready.elapse 5).mayDrop = false ∧
      ((drop 2 3).elapse (10 ^ 12)).mayDrop = true ∧ ((drop 2 3).elapse (10 ^ 12)).permitted = 3 ∧
      { drop 2 3 with dict := [(0x200002, 3), (0x201001, 1)] }.floorMiss = none ∧ { drop 2 3 with config := [(0, 1)] }.floorMiss ≠ none) ∧
    ((m fun p => { p with entering := some (3, 0) }).board.powered = true ∧ ready.power.exiting = none ∧ ready.power.wake = none ∧ ready.journal.queued = []) ∧
    (ready.asleep = false ∧ sleeping.asleep = true ∧ (m fun p => { p with mode := 2, wake := some ⟨6, 255, 15, 0, 0, true⟩ }).asleep = true) ∧
    (let s : State := { ready with dict := [(0x200005, 5)] }
     s.dictVal 0x200005 ≠ 0 ∧ s.dictVal 0x200005 ≤ (s.elapse 5).tideNat ∧ ready.dictVal 0x200005 = 0) ∧
    ((m fun p => { p with mode := 3 }).power.brownOut = false ∧ ready.power.held = [] ∧ (m fun p => { p with exiting := some 0 }).power.exiting ≠ none) := by
  decide +kernel

/-! ### TideReadsCountersAndSnapshots -/

theorem hyps_TideReadsCountersAndSnapshots :
    let going : State := ready.setSnap 3 { SnapBank.reset with going := some (1, 2) }
    (ready.serves 0 = true ∧ ready.serves 3 = true) ∧
    (counterExists (.block 0x005 1) = true ∧ sourceOk (.block 0x005 1) 0x10 = true ∧ sourceOk (.block 0x005 1) 0x80 = false ∧ counterExists (.block 0xFFF 0) = false ∧
      (0x81000010 : BitVec 32).getLsbD 28 = false ∧ (0x91000010 : BitVec 32).getLsbD 28 = true ∧ (0x91000010 : BitVec 32).getLsbD 24 = true) ∧
    (ready.counterSeen 3 (ready.obs.counters.valAt .reset 5) = false ∧ ready.counterSeen 0 (ready.obs.counters.valAt .reset 5) = true) ∧
    ((ready.snap 3).going = none ∧ snapOk 1 2 = true ∧ snapOk 3 0 = false ∧ (going.snap 3).going ≠ none) ∧
    (going.board.powered = true ∧ going.board.ready = true ∧ (going.snap 3).going = some (1, 2)) := by decide +kernel

/-! ### SlackStopsCapturesAndHangs -/

/-- A pending TRUNCATE of a table waits for a walk, and a request's next walk of the table waits for it. -/
def hung : State :=
  let s := requesting 0 { request0 with state := .decode, inFlight := false, table := 0 }
  { s with kv := { s.kv with tables := [(0, kvTab 3 3)], walks := [(1, ⟨0, 0, 3, 0, 0, 1, none, 1, []⟩)], pending := [⟨0, .truncate 1, 0⟩] } }
theorem hyps_SlackStopsCapturesAndHangs :
    let m (f : Slack → Slack) : State := { ready with obs := { ready.obs with slack := f ready.obs.slack } }
    let arm (v : Nat) : State := { ready with dict := [(0x660002, v), (0x670001, 1)] }
    (ready.serves 0 = true ∧ ready.serves 3 = true ∧ ready.woOpen = true ∧ ready.slackRuns = true) ∧
    (let s := m fun k => { k with mode := .captured }
     s.fnPresent 0 = true ∧ s.board.ready = true ∧ s.pair.role ≠ .leaving ∧ s.asleep = false ∧ s.slackRuns = false ∧ s.obs.slack.faultPending = none) ∧
    ((arm 2).slackArmed 0 = false ∧ (arm 2).slackArmed 1 = true ∧ (arm 2).obs.slack.atTide.toNat ≤ ((arm 2).elapse 5).tideNat ∧ ready.slackArmed 1 = false) ∧
    (let s : State := { arm 16 with fab := { ready.fab with ports := [(1, { PortState.reset with mode := .up })] } }
     (s.port 1).mode = .up ∧ s.slackArmed 4 = true ∧ s.board.lost = false) ∧
    ((m fun k => { k with repeats := [(1, 0)] }).obs.slack.repeats.look 1 = some 0 ∧ (m fun k => { k with mode := .capturing }).obs.slack.mode = .capturing ∧
      (m fun k => { k with mode := .scanning }).obs.slack.mode = .scanning) ∧
    (ready.mgmtUp = true ∧ ready.obs.wfgAsked = false ∧ (arm 32).dictVal 0x670001 ≠ 0 ∧
      (arm 32).obs.wfgAt + (arm 32).dictVal 0x670001 * 1000000 ≤ (arm 32).now + 1000000 ∧ (arm 32).slackArmed 5 = true ∧ ready.slackArmed 5 = false) ∧
    (match hung.waitEdges [] with
      | [a, b] => !edgeExternal a && !edgeExternal b && edgeWaiter a == edgeHolder b && edgeWaiter b == edgeHolder a && edgeWaiter a != edgeWaiter b
      | _ => false) = true ∧ hung.board.ready = true ∧ hung.mgmtUp = true := by decide +kernel

/-! ### LateCompletionIsDroppedAndCounted -/

theorem hyps_LateCompletionIsDroppedAndCounted :
    let s : State := { ready with ctxs := [(3, { Context.reset with ide := { Context.reset.ide with retired := true } })] }
    s.board.powered = true ∧ (s.ctx 3).ide.retired = true ∧ s.resident 3 = false := by decide +kernel

/-! ### QopSessionsAndFrames -/

/-- A module whose port A is up, with the password set. -/
def linked : State := { ready with net := { ready.net with linkA := true, sessions := [(2, session)] }, trust := { ready.trust with password := some [1], deviceId := [] } }

/-- A QOP frame on port A. -/
def framed (h : QopHead) (mac : List Byte) : QopFrame := ⟨.a, 0, 0, none, h.bytes ++ mac⟩

/-- The head of an OPEN_REQ for the password. -/
def openHead : QopHead := ⟨1, 0, 0, 9, 0, 0, 0, 0xFF :: 1 :: List.replicate 32 7⟩

/-- A session that waits for its proof. -/
def proving : QopSession := { session with opening := true, keySlot := 0xFF }

/-- The frame is heard with this head. -/
def hears (s : State) (f : QopFrame) (type : Nat) : Bool :=
  s.board.ready && s.power.mode != 3 && s.mgmtUp && s.tsnUp f.port && f.rtag.isNone && (match qopParse f.payload with | some h => h.type == type | none => false) &&
    (s.meter (tsnNo f.port) 2 (s.frameBytes f.payload.length false)).2

theorem hyps_QopSessionsAndFrames_open :
    hears linked (framed openHead (List.replicate 16 0)) 1 = true ∧ openHead.value.length = 34 ∧ fieldAt openHead.value 0 1 = 0xFF ∧
      fieldAt openHead.value 1 1 ≤ 1 ∧ openHead.session = 0 ∧ qopMac (framed openHead (List.replicate 16 0)).payload = List.replicate 16 0 ∧
      linked.freeSessionSlot = some 0 ∧ linked.proofKey 0xFF ≠ none ∧ linked.net.locked.look (lockSlot 0xFF) = none ∧ linked.proofKey 3 = none := by decide +kernel

theorem hyps_QopSessionsAndFrames_auth :
    let s : State := { linked with net := { linked.net with sessions := [(1, proving)] } }
    let good : QopHead := ⟨3, 3, 0, 10, 0, 0, 0, s.proof proving [1]⟩
    let bad : QopHead := ⟨3, 3, 0, 10, 0, 0, 0, [5]⟩
    hears s (framed good (List.replicate 16 0)) 3 = true ∧ s.sessionOf (framed good (List.replicate 16 0)) 3 true = some 1 ∧
      s.net.sessions.look 1 = some proving ∧ good.value = s.proof proving ((s.proofKey proving.keySlot).getD []) ∧
      hears s (framed bad (List.replicate 16 0)) 3 = true ∧ s.sessionOf (framed bad (List.replicate 16 0)) 3 true = some 1 ∧
      bad.value ≠ s.proof proving ((s.proofKey proving.keySlot).getD []) ∧
      4 ≤ (([0, 0, 0, 0] : List Nat).filter fun u => decide (s.now < u + 60000000000)).length := by decide +kernel

theorem hyps_QopSessionsAndFrames_session :
    let h : QopHead := ⟨5, 3, 0, 11, 0, 0, 0, []⟩
    let f := framed h (h.mac session.key)
    hears linked f 5 = true ∧ linked.sessionOf f h.session false = some 2 ∧ linked.net.sessions.look 2 = some session ∧
      qopMac f.payload = (hmac512 session.key (f.payload.take (f.payload.length - 16) ++ List.replicate 16 0)).take 16 ∧ session.lastSeq = none ∧ session.opening = false ∧
      linked.awaited 2 = false ∧ { linked with net := { linked.net with writes := [⟨0x110003, [], 0, .qop 2 4⟩] } }.awaited 2 = true ∧
      qopMac (framed h (List.replicate 16 0)).payload ≠ (hmac512 session.key ((framed h (List.replicate 16 0)).payload.take 24 ++ List.replicate 16 0)).take 16 := by
  decide +kernel

theorem hyps_QopSessionsAndFrames_copy :
    let s : State := { linked with net := { linked.net with active := [(0x110202, 1)], sessions := [(2, { session with seen := [7], heard := ready.now })] } }
    let h : QopHead := ⟨0x10, 3, 0, 11, 0, 0, 0, []⟩
    let f : QopFrame := { framed h (h.mac session.key) with rtag := some 7 }
    s.power.mode ≠ 3 ∧ s.mgmtUp = true ∧ s.tsnUp f.port = true ∧ s.netVal 0x110202 = 1 ∧ qopParse f.payload = some h ∧
      (s.meter (tsnNo f.port) 2 (s.frameBytes f.payload.length true)).2 = true ∧ s.streamOf f h = some 2 ∧
      s.net.sessions.look 2 = some { session with seen := [7], heard := ready.now } ∧ ({ session with seen := [7], heard := ready.now } : QopSession).judge s.now 7 = .copy := by decide +kernel

theorem hyps_QopSessionsAndFrames_rest :
    (linked.board.ready = true ∧ linked.mgmtUp = true ∧ linked.net.linkA = true ∧ linked.net.sessions.wf = true ∧ linked.tsnUp .a = true) ∧
    ((BitVec.ofNat 32 (linked.netVal 0x110003)).toNat = linked.netVal 0x110003 ∧ (1 : BitVec 32).toNat ≠ linked.netVal 0x110003) ∧ (linked.meter 0 3 64).2 = true ∧
    (session.closing = none ∧ session.heard + session.idleMs * 1000000 ≤ linked.now + 10000000000) ∧
    ({ ready with net := { ready.net with locked := [(8, 5)] } } : State).net.locked.look 8 = some 5 := by decide +kernel

/-! ### DictionaryAccess -/

/-- A QOP frame of the open session with its MAC. -/
def spoken (h : QopHead) : QopFrame := framed h (h.mac session.key)

/-- A module with a message in a mailbox channel. -/
def mailed (fn ch : Nat) (words : List Nat) : State :=
  { ready with mbx := [(mbxKey fn ch, { MbxChannel.reset with outFull := true, outMsg := words })], trust := { ready.trust with slots := [(2, 1, [])] } }

/-- The message stands in its channel. -/
def holds (fn ch : Nat) (words : List Nat) : Bool :=
  let s := mailed fn ch words
  s.board.ready && s.targetDomain ch == 0 && (s.channel (mbxKey fn ch)).outFull && (s.channel (mbxKey fn ch)).outMsg == words

theorem hyps_DictionaryAccess_frames :
    let rd (k : Nat) : QopHead := ⟨0x10, 3, 0, 11, k / 256, k % 256, 0, []⟩
    let wr (k : Nat) (v : List Byte) : QopHead := ⟨0x11, 3, 0, 11, k / 256, k % 256, 0, v⟩
    hears linked (spoken (rd 0x310003)) 0x10 = true ∧ hears linked (spoken (wr 0x604001 [0, 0, 0, 1])) 0x11 = true ∧
    linked.sessionOf (spoken (rd 0x310003)) 3 false = some 2 ∧ linked.readRefusal ⟨1, some 2⟩ 0x999999 = some stNoEntry ∧
    linked.readRefusal ⟨1, some 2⟩ 0x310003 = none ∧ (match linked.entryRow 0x310003 with | some r => r.numeric | none => false) = true ∧
    linked.derivedA 0x310003 = none ∧ linked.derivedB 0x310003 = none ∧ linked.derivedC 0x310003 = none := by decide +kernel

theorem hyps_DictionaryAccess_writes :
    let rowOf (k : Nat) (a : DictAccess) : Bool := match linked.entryRow k with | some r => r.numeric && r.access == a | none => false
    linked.writeRefusal ⟨1, some 2⟩ 0x310001 [2] ≠ none ∧ linked.writeRefusal ⟨3, some 2⟩ 0x310003 (wireOrder 0x310003 [2]) = none ∧
    linked.writeRefusal ⟨1, none⟩ 0x604001 [1, 0, 0, 0] = none ∧ linked.writeRefusal ⟨1, none⟩ 0x310003 [2] = none ∧ rowOf 0x604001 .rw = true ∧ rowOf 0x310003 .rwp = true ∧
    linked.writeRefusal ⟨1, some 2⟩ 0x604001 (wireOrder 0x604001 [0, 0, 0, 1]) = none := by decide +kernel

theorem hyps_DictionaryAccess_rest :
    (ready.woOpen = true ∧ ({ ready with pair := { ready.pair with role := .leaving } } : State).woOpen = false ∧ ready.dictVal 0x110301 ≠ 0) ∧
    (let w : PendingWrite := ⟨0x310003, [2], 5, .mbx 0 0 7⟩
     let s : State := { ready with net := { ready.net with writes := [w] }, journal := { ready.journal with durable := 6 } }
     s.mgmtUp = true ∧ w.record < s.journal.durable ∧ ready.journal.durable ≤ w.record ∧ (match dictRow? 0x310003 with | some r => r.numeric | none => false) = true) ∧
    (ready.net.gclAt = none ∧ (0 ≤ (ready.elapse 5).tideNat ∧ (ready.elapse 5).tideNat < 6)) := by decide +kernel

theorem hyps_DictionaryAccess_mail :
    let read : List Nat := [0x02000007, 0x31000300, 0, 0, 0, 0, 0, 0]
    let write : List Nat := [0x03000007, 0x60400100, 0x40000, 1, 0, 0, 0, 0]
    let persist : List Nat := [0x03000007, 0x31000300, 0x10000, 2, 0, 0, 0, 0]
    let net : List Nat := [0x43000007, 0x4E455452, 0, 0, 0, 0, 0, 0]
    (holds 0 1 read = true ∧ mbxCommand read = 2 ∧ holds 0 4 read = true ∧ ready.readRefusal ⟨mbxRole 0, none⟩ 0x310003 = none ∧
      ready.readRefusal ⟨mbxRole 0, none⟩ 0x999999 = some stNoEntry) ∧
    (holds 0 1 write = true ∧ holds 3 1 write = true ∧ mbxCommand write = 3 ∧ bitsOf ((write[2]?).getD 0) 31 16 = 4 ∧ 3 + (4 + 3) / 4 ≤ write.length ∧
      holds 0 1 persist = true) ∧
    (holds 0 4 net = true ∧ holds 0 1 net = true ∧ mbxCommand net = 0x43 ∧ (net[1]?).getD 0 = 0x4E455452 ∧ ready.journal.canTake = true) := by decide +kernel

/-! ### MailboxesAndKeys -/

theorem hyps_MailboxesAndKeys :
    let echo : List Nat := [0x01000007, 5, 0, 0, 0, 0, 0, 0]
    let odd : List Nat := [0x77000007, 5, 0, 0, 0, 0, 0, 0]
    let set (part : Nat) : List Nat := [0x40000007, 0x02010000 + part * 256, 1, 2, 3, 4, 5, 6, 7, 8]
    let clear : List Nat := [0x41000007, 0x02000000, 0, 0, 0, 0, 0, 0]
    let pass (n : Nat) : List Nat := [0x42000007, n, 0x41414141, 0x41414141, 0, 0, 0, 0]
    let down : State := { ready with integ := { ready.integ with recovering := some (7, 0) } }
    (ready.serves 0 = true ∧ ready.serves 3 = true ∧ ready.secureAccess false = false ∧ ready.targetDomain 1 = 0 ∧ down.serves 3 = true ∧ down.targetDomain 1 ≠ 0) ∧
    ((0x801 : BitVec 32).getLsbD 0 = true ∧ (8 : Nat) ≤ (0x801 : BitVec 32).toNat / 256 % 32 ∧ (0x701 : BitVec 32).toNat / 256 % 32 < 8) ∧
    ((ready.channel (mbxKey 0 1)).outFull = false ∧ holds 0 1 echo = true ∧ mbxCommand echo = 1 ∧ holds 0 4 echo = true ∧ holds 3 1 odd = true ∧
      mbxCommands.contains (mbxCommand odd) = false) ∧
    (holds 0 4 (set 0) = true ∧ mbxCommand (set 0) = 0x40 ∧ 10 ≤ (set 1).length ∧ bitsOf (((set 1)[1]?).getD 0) 31 24 = 2 ∧ bitsOf (((set 1)[1]?).getD 0) 23 16 = 1 ∧
      bitsOf (((set 1)[1]?).getD 0) 15 8 = 1 ∧ holds 0 4 (set 1) = true ∧ (mailed 0 4 (set 0)).trust.parts.look 4 = none ∧ holds 0 4 clear = true ∧ mbxCommand clear = 0x41) ∧
    (holds 0 5 (pass 8) = true ∧ mbxCommand (pass 8) = 0x42 ∧ utf8 ((((pass 8).drop 2).flatMap fun w => leBytes 4 w).take 8) = true ∧
      2 + (8 + 3) / 4 ≤ (pass 8).length ∧ holds 0 5 (pass 7) = true) ∧
    (((receiving (message 0x32 (List.replicate 32 1))).fab.inbox.find? fun e => e.2.type == 0x32) ≠ none ∧
      (receiving (message 0x32 [1])).managementDomain = 0 ∧ (ready.fab.inbox.find? fun e => e.2.type == 0x32) = none) := by decide +kernel

end Sys2Proof.Tests
end

section
/-! PROOF. Operations of the chip fault's handling that leave every region's state alone: pages, KV tables, requests and steps, the fabric and the pair, records. -/

namespace Sys2Proof.Machine

/-- A run of operations keeps the regions when each of them does. -/
@[simp] theorem foldl_regions {α : Type} (f : State → α → State) (hf : ∀ s a, (f s a).regions = s.regions) (l : List α) (s : State) :
    (l.foldl f s).regions = s.regions := by
  induction l generalizing s with
  | nil => rfl
  | cons a l ih => rw [List.foldl_cons, ih, hf]

/-! ### Jobs, windows, records and units -/

@[simp] theorem State.failJobs_regions (s : State) (p : Nat → Job → Bool) : (s.failJobs p).regions = s.regions := rfl

@[simp] theorem State.dropWindow_regions (s : State) (r : Nat) : (s.dropWindow r).regions = s.regions := rfl

@[simp] theorem State.outOfService_regions (s : State) (ids : List Nat) : (s.outOfService ids).regions = s.regions := by
  simp [State.outOfService, State.strandAll]

@[simp] theorem State.countSplit_regions (s : State) (source key : Nat) (blocks : List Nat) (ctx : Option Nat) (n : Nat) :
    (s.countSplit source key blocks ctx n).regions = s.regions := by
  simp [State.countSplit]

@[simp] theorem State.recordWake_regions (s : State) (left : Nat) (lost : Bool) (w : WakeInfo) :
    (s.recordWake left lost w).regions = s.regions := by
  simp [State.recordWake]

@[simp] theorem State.managementReset_regions (s : State) : s.managementReset.regions = s.regions := rfl

@[simp] theorem State.endReceiving_regions (s : State) : s.endReceiving.regions = s.regions := by
  unfold State.endReceiving
  dsimp only
  split
  · split <;> simp
  · rfl

/-! ### Pages and frames -/

@[simp] theorem State.modFrame_regions (s : State) (f : Nat) (g : PageFrame → PageFrame) : (s.modFrame f g).regions = s.regions := rfl

@[simp] theorem State.settleFrame_regions (s : State) (f : Nat) : (s.settleFrame f).regions = s.regions := by
  unfold State.settleFrame
  split
  · rfl
  · split <;> rfl

@[simp] theorem State.unref_regions (s : State) (f : Nat) : (s.unref f).regions = s.regions := by
  simp [State.unref]

@[simp] theorem State.addRef_regions (s : State) (f : Nat) : (s.addRef f).regions = s.regions := rfl

@[simp] theorem State.discharge_regions (s : State) (c seq : Nat) : (s.discharge c seq).regions = s.regions := by
  simp [State.discharge, State.dropGhosts]

@[simp] theorem State.loseStacks_regions (s : State) : s.loseStacks.regions = s.regions := by
  unfold State.loseStacks
  split <;> rfl

/-! ### KV tables -/

@[simp] theorem State.dropBlock_regions (s : State) (b : Nat) : (s.dropBlock b).regions = s.regions := rfl

@[simp] theorem State.kvSay_regions (s : State) (st : Status) : (s.kvSay st).1.regions = s.regions := rfl

theorem State.takeBlock_regions {s s1 : State} {n b : Nat} (h : s.takeBlock n = some (s1, b)) : s1.regions = s.regions := by
  unfold State.takeBlock at h
  obtain ⟨b', -, hb⟩ := Option.map_eq_some_iff.mp h
  obtain ⟨rfl, -⟩ := Prod.mk.inj hb
  simp

theorem State.growBlock_regions {s s1 : State} {id n : Nat} {t t1 : KvTable} (h : s.growBlock id t n = some (s1, t1)) :
    s1.regions = s.regions := by
  unfold State.growBlock at h
  dsimp only at h
  split at h
  · obtain ⟨rfl, -⟩ := Prod.mk.inj (Option.some.inj h)
    rfl
  · split at h
    · cases h
    · split at h
      · cases h
      · rename_i s2 b htake
        rw [← State.takeBlock_regions htake]
        split at h
        · obtain ⟨rfl, -⟩ := Prod.mk.inj (Option.some.inj h)
          rfl
        · split at h <;> obtain ⟨rfl, -⟩ := Prod.mk.inj (Option.some.inj h) <;> simp

@[simp] theorem State.kvUnref_regions (s : State) (slot : Nat) : (s.kvUnref slot).regions = s.regions := by
  unfold State.kvUnref
  dsimp only
  split
  · rfl
  · split <;> simp

@[simp] theorem State.kvUnrefSpans_regions (s : State) (l : List KvSpan) : (s.kvUnrefSpans l).regions = s.regions := by
  simp [State.kvUnrefSpans]

@[simp] theorem State.kvAddRefs_regions (s : State) (slots : List Nat) : (s.kvAddRefs slots).regions = s.regions := by
  refine foldl_regions _ (fun s i => ?_) slots s
  split <;> simp

@[simp] theorem State.kvCreate_regions (s : State) (c kind layers hkv d dv : Nat) :
    (s.kvCreate c kind layers hkv d dv).1.regions = s.regions := by
  unfold State.kvCreate
  dsimp only
  split
  · simp
  · split
    · simp
    · split
      · simp
      · split
        · simp
        · rename_i htake
          simp [State.takeBlock_regions htake]

@[simp] theorem State.kvForkInto_regions (s : State) (src dst p : Nat) : (s.kvForkInto src dst p).1.regions = s.regions := by
  unfold State.kvForkInto
  dsimp only
  split
  · simp
  · simp
  · split
    · simp
    · split
      · simp
      · split
        · simp
        · split
          · simp
          · split
            · simp
            · rename_i hgrow
              simp [State.growBlock_regions hgrow]

@[simp] theorem State.kvRemove_regions (s : State) (id : Nat) : (s.kvRemove id).regions = s.regions := by
  unfold State.kvRemove
  dsimp only
  split
  · rfl
  · split <;> simp

@[simp] theorem State.kvRemoval_regions (s : State) (id : Nat) (t : KvTable) (e : KvRemoval) : (s.kvRemoval id t e).regions = s.regions := by
  cases e with
  | truncate p => simp [State.kvRemoval]
  | replace i new =>
    unfold State.kvRemoval
    dsimp only
    split <;> simp
  | destroy => simp [State.kvRemoval]

@[simp] theorem State.kvRemoveEdit_regions (s : State) (id : Nat) (t : KvTable) (e : KvRemoval) (waits : Bool) :
    (s.kvRemoveEdit id t e waits).1.regions = s.regions := by
  unfold State.kvRemoveEdit
  dsimp only
  split <;> simp

@[simp] theorem State.kvDestroy_regions (s : State) (id : Nat) : (s.kvDestroy id).1.regions = s.regions := by
  unfold State.kvDestroy
  split <;> simp

@[simp] theorem State.kvCancelOverlay_regions (s : State) (id : Nat) (t : KvTable) (o : KvOverlay) :
    (s.kvCancelOverlay id t o).regions = s.regions := by
  simp [State.kvCancelOverlay, State.kvCloseOverlay]

@[simp] theorem State.strandWalk_regions (s : State) (event ctx table : Nat) (epoch : BitVec 32) :
    (s.strandWalk event ctx table epoch).regions = s.regions := by
  simp [State.strandWalk]

@[simp] theorem State.kvRelease_regions (s : State) (walk : Nat) : (s.kvRelease walk).regions = s.regions := by
  unfold State.kvRelease
  dsimp only
  split
  · rfl
  · rw [foldl_regions _ State.settleFrame_regions, foldl_regions]
    · simp
    · exact fun _ _ => rfl

/-! ### The fabric and the pair -/

theorem State.pumpOne_regions {s s1 : State} {p : Nat} (h : s.pumpOne p = some s1) : s1.regions = s.regions := by
  unfold State.pumpOne at h
  dsimp only at h
  split at h
  · cases h
  · obtain ⟨-, h⟩ := Option.ite_none_right_eq_some.mp h
    obtain rfl := Option.some.inj h
    simp

@[simp] theorem State.pump_regions (p n : Nat) (s : State) : (State.pump p n s).regions = s.regions := by
  induction n generalizing s with
  | zero => rfl
  | succ n ih =>
    unfold State.pump
    split
    · rename_i hpump
      rw [ih, State.pumpOne_regions hpump]
    · rfl

@[simp] theorem State.sendOn_regions (s : State) (p : Nat) (m : FabMsg) : (s.sendOn p m).regions = s.regions := by
  simp [State.sendOn, State.pumpPort]

@[simp] theorem State.sendSegments_regions (s : State) (p type ctx gen dst xfer fuel off : Nat) (bs : List Byte) :
    (s.sendSegments p type ctx gen dst xfer fuel off bs).regions = s.regions := by
  induction fuel generalizing s off bs with
  | zero => rfl
  | succ fuel ih =>
    unfold State.sendSegments
    dsimp only
    split <;> simp [ih]

@[simp] theorem State.sendPayload_regions (s : State) (p type ctx gen dst : Nat) (body : List Byte) :
    (s.sendPayload p type ctx gen dst body).regions = s.regions := by
  unfold State.sendPayload
  dsimp only
  split <;> simp

@[simp] theorem State.sendTo_regions (s : State) (place type ctx gen : Nat) (body : List Byte) :
    (s.sendTo place type ctx gen body).1.regions = s.regions := by
  unfold State.sendTo
  split <;> simp

@[simp] theorem State.mirror_regions (s : State) (c kind : Nat) (content : List Byte) : (s.mirror c kind content).regions = s.regions := by
  unfold State.mirror
  dsimp only
  split <;> simp

@[simp] theorem State.sendPair_regions (s : State) (path : PairPath) (toWitness : Bool) (body : List Byte) :
    (s.sendPair path toWitness body).regions = s.regions := by
  cases path with
  | tsnA => unfold State.sendPair; dsimp only; split <;> simp
  | tsnB => unfold State.sendPair; dsimp only; split <;> simp
  | fabric => simp [State.sendPair]

@[simp] theorem State.sendPairKind_regions (s : State) (kind : Nat) (witness : Bool) : (s.sendPairKind kind witness).regions = s.regions := by
  unfold State.sendPairKind
  dsimp only
  split <;> simp [State.nextPairSeq]

/-! ### Requests and serving steps -/

@[simp] theorem State.modRequest_regions (s : State) (i : Nat) (f : Request → Request) : (s.modRequest i f).regions = s.regions := rfl

@[simp] theorem State.modNode_regions (s : State) (i : Nat) (f : PrefixNode → PrefixNode) : (s.modNode i f).regions = s.regions := rfl

@[simp] theorem State.mirrorEnd_regions (s : State) (r : Request) : (s.mirrorEnd r).regions = s.regions := by
  unfold State.mirrorEnd
  split <;> simp

@[simp] theorem State.endRequest_regions (s : State) (i : Nat) (st : Status) (reason : Nat) (withRecord : Bool) :
    (s.endRequest i st reason withRecord).regions = s.regions := by
  unfold State.endRequest
  dsimp only
  split
  · rfl
  · split <;> simp

@[simp] theorem State.drained_regions (s : State) (i : Nat) (r : Request) : (s.drained i r).regions = s.regions := by
  unfold State.drained
  dsimp only
  split <;> simp

@[simp] theorem State.prefixReuse_regions (s : State) (r : Request) : (s.prefixReuse r).1.regions = s.regions := by
  unfold State.prefixReuse
  dsimp only
  split
  · rfl
  · split
    · rfl
    · rename_i root _
      have hpath : ((s.prefixWalk r.sequence 65536 root 0).foldl (fun s n => s.modNode n fun x => { x with lastUse := s.tideNat }) s).regions =
          s.regions := foldl_regions _ (fun s n => State.modNode_regions s n _) _ s
      split
      · exact hpath
      · split <;> simp [hpath]

@[simp] theorem State.rollbackAll_regions (s : State) (r : Request) : (s.rollbackAll r).regions = s.regions := by
  unfold State.rollbackAll
  dsimp only
  split
  · split <;> split <;> simp
  · split <;> simp

@[simp] theorem State.faultRequest_regions (s : State) (i : Nat) : (s.faultRequest i).regions = s.regions := by
  unfold State.faultRequest
  dsimp only
  split
  · rfl
  · split
    · simp
    · split
      · split <;> simp
      · split <;> simp

@[simp] theorem State.ranSome_regions (s : State) (c : Nat) (st : ServingStep) : (s.ranSome c st).regions = s.regions := by
  unfold State.ranSome
  split
  · rfl
  · simp [State.ranLayers]

@[simp] theorem State.stepEnergy_regions (s : State) (st : ServingStep) : (s.stepEnergy st).regions = s.regions := by
  unfold State.stepEnergy
  dsimp only
  split
  · rfl
  · rw [foldl_regions]
    · simp
    · exact fun _ _ => rfl

@[simp] theorem State.faultStep_regions (s : State) (c : Nat) : (s.faultStep c).regions = s.regions := by
  unfold State.faultStep
  split
  · rfl
  · simp [State.faultMembers, State.closeStep]

@[simp] theorem State.refuseUnstarted_regions (s : State) (c : Nat) (st : Status) : (s.refuseUnstarted c st).regions = s.regions := by
  simp [State.refuseUnstarted]

@[simp] theorem State.dropRequests_regions (s : State) (c : Nat) : (s.dropRequests c).regions = s.regions := by
  refine foldl_regions _ (fun s e => ?_) _ s
  split <;> simp

/-- Giving up the lease (R613, R621) refuses and drops mirrored work; the regions stand. -/
@[simp] theorem State.giveUp_regions (s : State) : s.giveUp.regions = s.regions := by
  simp [State.giveUp, State.fence]

end Sys2Proof.Machine
end

section
/-! PROOF. A chip-level fault takes the steps of R37 over from the regions (01_package_regions_and_figures.md R37, R43; 18_integrity_faults_and_self_test.md R704). -/

namespace Sys2Proof.Machine

/-! ### One region -/

/-- What the steps of R37 keep of a region: its phase and the jobs that had work in it when it faulted. -/
def State.handling (s : State) (r : Nat) : RegionPhase × List Nat :=
  ((s.regions.valAt .reset r).phase, (s.regions.valAt .reset r).faulted)

/-- What the chip fault makes of that: a region that is not disabled is drained by it, with no jobs of its own left. -/
def takenOver (h : RegionPhase × List Nat) : RegionPhase × List Nat := if h.1 = .disabled then h else (.draining, [])

theorem takenOver_eq (h : RegionPhase × List Nat) :
    takenOver h = (if h.1 = .disabled then .disabled else .draining, if h.1 = .disabled then h.2 else []) := by
  unfold takenOver
  split
  · next hd => rw [← hd]
  · rfl

theorem State.handling_congr {s t : State} (h : t.regions = s.regions) (r : Nat) : t.handling r = s.handling r := by
  rw [State.handling, State.handling, h]

theorem State.modRegion_valAt_same (s : State) (r : Nat) (f : RegionState → RegionState) :
    (s.modRegion r f).regions.valAt .reset r = f (s.regions.valAt .reset r) :=
  Store.valAt_setAt_same _ _ _ _

theorem State.modRegion_valAt_other (s : State) {r x : Nat} (f : RegionState → RegionState) (h : r ≠ x) :
    (s.modRegion r f).regions.valAt .reset x = s.regions.valAt .reset x :=
  Store.valAt_setAt_other _ _ _ _ _ h

/-- A change of a region that keeps its phase and its jobs keeps every region's. -/
theorem State.handling_modRegion_of_keeps (s : State) (r : Nat) {f : RegionState → RegionState}
    (hf : ∀ x, (f x).phase = x.phase ∧ (f x).faulted = x.faulted) (x : Nat) : (s.modRegion r f).handling x = s.handling x := by
  by_cases h : r = x
  · subst h
    simp only [State.handling, State.modRegion_valAt_same, hf]
  · simp only [State.handling, State.modRegion_valAt_other s f h]

/-- A run of operations keeps every region's handling when each of them does. -/
theorem foldl_handling {α : Type} (f : State → α → State) (hf : ∀ s a x, (f s a).handling x = s.handling x) (l : List α) (s : State) (x : Nat) :
    (l.foldl f s).handling x = s.handling x := by
  induction l generalizing s with
  | nil => rfl
  | cons a l ih => rw [List.foldl_cons, ih, hf]

/-! ### Draining -/

theorem State.drainRegion_regions_of_other (s : State) {r x : Nat} (h : r ≠ x) :
    (s.drainRegion r).regions.valAt .reset x = s.regions.valAt .reset x := by
  unfold State.drainRegion
  dsimp only
  rw [State.modRegion_valAt_other _ _ h]
  split
  · split
    · split <;> simp
    · simp
  · simp

/-- The jobs of a drained region have their end; its list is empty (R37 step 3). -/
theorem State.drainRegion_faulted (s : State) (r : Nat) : ((s.drainRegion r).regions.valAt .reset r).faulted = [] := by
  unfold State.drainRegion
  dsimp only
  rw [State.modRegion_valAt_same]

/-- The drain of one region by the chip fault (R704 step 2), as `State.drainAll` makes it for each. -/
def State.drainOne (s : State) (r : Nat) : State :=
  if (s.regions.valAt .reset r).phase = .disabled then s
  else
    let s1 := if (s.regions.valAt .reset r).phase = .inService then s.outOfService (regionBlocks r) else s
    ((s1.dropWindow r).drainRegion r).modRegion r fun x => { x with phase := .draining }

theorem State.drainAll_eq (s : State) : s.drainAll = (List.range 6).foldl State.drainOne s := rfl

theorem State.drainOne_handling_same (s : State) (r : Nat) : (s.drainOne r).handling r = takenOver (s.handling r) := by
  unfold State.drainOne
  by_cases h : (s.regions.valAt .reset r).phase = .disabled
  · simp [State.handling, takenOver, h]
  · simp [State.handling, takenOver, h, State.modRegion_valAt_same, State.drainRegion_faulted]

theorem State.drainOne_handling_other (s : State) {r x : Nat} (h : r ≠ x) : (s.drainOne r).handling x = s.handling x := by
  unfold State.drainOne
  dsimp only
  split
  · rfl
  · simp only [State.handling, State.modRegion_valAt_other _ _ h, State.drainRegion_regions_of_other _ h, State.dropWindow_regions]
    split <;> simp

theorem State.foldl_drainOne_handling_of_not_mem (l : List Nat) (s : State) {x : Nat} (h : x ∉ l) :
    (l.foldl State.drainOne s).handling x = s.handling x := by
  induction l generalizing s with
  | nil => rfl
  | cons r l ih =>
    obtain ⟨hr, hl⟩ := List.ne_and_not_mem_of_not_mem_cons h
    rw [List.foldl_cons, ih _ hl, State.drainOne_handling_other s (Ne.symm hr)]

theorem State.foldl_drainOne_handling_of_mem (l : List Nat) (s : State) {x : Nat} (hd : l.Nodup) (h : x ∈ l) :
    (l.foldl State.drainOne s).handling x = takenOver (s.handling x) := by
  induction l generalizing s with
  | nil => cases h
  | cons r l ih =>
    obtain ⟨hr, hd⟩ := List.nodup_cons.mp hd
    rw [List.foldl_cons]
    rcases List.mem_cons.mp h with rfl | h
    · rw [State.foldl_drainOne_handling_of_not_mem l _ hr, State.drainOne_handling_same]
    · rw [ih _ hd h, State.drainOne_handling_other s (ne_of_mem_of_not_mem h hr).symm]

/-- The chip fault takes every region over (R704 step 2). -/
theorem State.drainAll_handling (s : State) {r : Nat} (h : r < 6) : s.drainAll.handling r = takenOver (s.handling r) := by
  rw [State.drainAll_eq]
  exact State.foldl_drainOne_handling_of_mem _ s List.nodup_range (List.mem_range.mpr h)

/-! ### The handling of a chip-level fault -/

theorem State.losePools_handling (s : State) (r : Nat) : s.losePools.handling r = s.handling r := by
  unfold State.losePools
  rw [foldl_handling]
  intro s b x
  dsimp only
  refine State.handling_modRegion_of_keeps s b (fun y => ?_) x
  split <;> exact ⟨rfl, rfl⟩

theorem State.loseSram_handling (s : State) (r : Nat) : s.loseSram.handling r = s.handling r := by
  unfold State.loseSram
  rw [foldl_handling]
  intro s b x
  refine State.handling_modRegion_of_keeps s b (fun y => ?_) x
  exact ⟨rfl, rfl⟩

/-- What a sleep has lost of a region is its data, never its place in R37. -/
theorem State.leaveSleep_handling (s : State) (r : Nat) : s.leaveSleep.handling r = s.handling r := by
  have hpools : (if s.power.mode = 3 then s.losePools.loseStacks else s).loseSram.handling r = s.handling r := by
    rw [State.loseSram_handling]
    split
    · rw [State.handling_congr (State.loseStacks_regions _), State.losePools_handling]
    · rfl
  unfold State.leaveSleep
  dsimp only
  split
  · rfl
  · refine (State.handling_congr ?_ r).trans hpools
    generalize (if s.power.mode = 3 then s.losePools.loseStacks else s).loseSram = woken
    split <;> simp

/-- The module is under the handling of a chip-level fault, which persists or is being recovered from. -/
def State.chipFaulted (s : State) : Prop := s.integ.persistent.isSome = true ∨ s.integ.recovering.isSome = true

theorem State.settleHealth_regions (s : State) : s.settleHealth.regions = s.regions := by
  simp

theorem State.settleHealth_chipFaulted (s : State) : s.settleHealth.chipFaulted ↔ s.chipFaulted := by
  unfold State.settleHealth
  dsimp only
  split
  · rfl
  · simp [State.chipFaulted]

theorem State.handleFault_chipFaulted (s : State) (cause : Nat) : (s.handleFault cause).chipFaulted := by
  unfold State.handleFault
  dsimp only
  rw [State.settleHealth_chipFaulted]
  unfold State.chipFaulted
  dsimp only
  split
  · exact .inl rfl
  · exact .inr rfl

/-- The chip fault ends every job and step, and an active with a STANDBY partner gives up its lease (R43, R621): what `State.handleFault` does before the regions drain. -/
def State.endWork (s : State) : State :=
  let yields := s.pair.role = .active && s.pair.partnerRole == some .standby
  let s1 := if yields then { s with jobs := s.jobs.mapVals fun _ j => { j with once := true } } else s
  let s2 := s1.failJobs fun _ _ => true
  let s3 := s2.serving.steps.keys.foldl State.faultStep s2
  if yields then s3.giveUp else s3

/-- The management firmware restarts after its own fault, and a power transition is abandoned (R704, Table 13-10): what `State.handleFault` does after the regions drain. -/
def State.restartUnits (s : State) (cause : Nat) : State :=
  let s5 := if cause = 7 then s.managementReset else s
  if s5.power.mode != 4 && (s5.power.entering.isSome || s5.power.exiting.isSome) then s5.leaveSleep else s5

theorem State.handleFault_regions (s : State) (cause : Nat) :
    (s.handleFault cause).regions = (s.endWork.drainAll.endReceiving.restartUnits cause).regions := by
  rw [State.handleFault, State.settleHealth_regions]
  rfl

theorem State.endWork_regions (s : State) : s.endWork.regions = s.regions := by
  unfold State.endWork
  dsimp only
  split <;> simp

theorem State.restartUnits_handling (s : State) (cause r : Nat) : (s.restartUnits cause).handling r = s.handling r := by
  have hreset : (if cause = 7 then s.managementReset else s).regions = s.regions := by split <;> simp
  rw [← State.handling_congr hreset]
  unfold State.restartUnits
  generalize (if cause = 7 then s.managementReset else s) = u
  dsimp only
  split
  · exact u.leaveSleep_handling r
  · rfl

theorem State.handleFault_handling (s : State) (cause : Nat) {r : Nat} (h : r < 6) :
    (s.handleFault cause).handling r = takenOver (s.handling r) := by
  rw [State.handling_congr (s.handleFault_regions cause), State.restartUnits_handling, State.handling_congr (State.endReceiving_regions _),
    State.drainAll_handling _ h, State.handling_congr s.endWork_regions]

/-! ### CHIP_FAULT -/

/-- While a chip-level fault is handled, or with no clock, no region takes a step of R37. -/
theorem regionSteps_change_only_time (s : State) (h : s.clocked = false ∨ s.chipFaulted) (dt : Nat) (r : Region) (pass : Bool) :
    execRegionDrained dt r s = .next (s.elapse dt) ∧ execRegionSelftestDone dt r pass s = .next (s.elapse dt) ∧ execRegionFault r s = .next s := by
  have hclosed : (s.clocked && s.integ.recovering.isNone && s.integ.persistent.isNone) = false := by
    rcases h with h | h | h
    · simp [h]
    · simp [Option.isNone_eq_false_iff.mpr h]
    · simp [Option.isNone_eq_false_iff.mpr h]
  refine ⟨?_, ?_, ?_⟩
  · simp [execRegionDrained, hclosed]
  · simp [execRegionSelftestDone, hclosed]
  · simp [execRegionFault, hclosed]

/-- What tells of a chip-level fault: its entry, the event and the HEALTH record (R43, R704). -/
def State.tellFault (s : State) (cause : Nat) : State :=
  ((s.setDict 0x600002 cause).raise stChipFault (beData [(1, cause), (1, if causePersists cause then 1 else 0)])).health 0xFFF stChipFault 6 cause none 0 0

theorem State.tellFault_regions (s : State) (cause : Nat) : (s.tellFault cause).regions = s.regions := by
  simp [State.tellFault]

theorem State.tellFault_board (s : State) (cause : Nat) : (s.tellFault cause).board = s.board := by
  simp [State.tellFault]

theorem State.tellFault_obs (s : State) (cause : Nat) : (s.tellFault cause).obs = s.obs := by
  simp [State.tellFault]

theorem State.tellFault_slackArmed (s : State) (cause bit : Nat) : (s.tellFault cause).slackArmed bit = s.slackArmed bit := by
  have hdict : (s.tellFault cause).dict = (s.setDict 0x600002 cause).dict := by simp [State.tellFault]
  have hother : (s.tellFault cause).dictVal 0x660002 = s.dictVal 0x660002 := by
    unfold State.dictVal
    rw [hdict]
    exact Store.valAt_setAt_other _ _ _ _ _ (by decide)
  rw [State.slackArmed, hother, State.slackArmed]

theorem State.setFw_board (s : State) (f : Firmware) : (s.setFw f).board = s.board := by
  unfold State.setFw
  split <;> rfl

/-- After a module reset the module is not ready (R735). -/
theorem State.moduleReset_ready (s : State) : (s.moduleReset false).board.ready = false := by
  have hwarm : s.moduleReset false =
      if (s.resetKeeping false).board.bootWaits then s.resetKeeping false else (s.resetKeeping false).bootStart := rfl
  rw [hwarm]
  split
  · rfl
  · rw [State.bootStart, State.setFw_board]
    rfl

theorem State.clocked_of_not_ready {s : State} (h : s.board.ready = false) : s.clocked = false := by
  simp [State.clocked, h]

/-- A fault that comes while Slack is not RUNNING is handled at RESUME (R650). -/
def State.holdFault (s : State) (cause : Nat) : State :=
  let keep := match s.obs.slack.faultPending with | some c => if causePersists c then c else cause | none => cause
  { s with obs := { s.obs with slack := { s.obs.slack with faultPending := some keep } } }

theorem State.holdFault_slackRuns (s : State) (cause : Nat) : (s.holdFault cause).slackRuns = s.slackRuns := rfl

theorem State.chipFault_of_unpowered {s : State} (h : s.board.powered = false) (cause : Nat) : s.chipFault cause = s := by
  simp [State.chipFault, h]

/-- With power the fault is told; then it ends a boot attempt (R675), is handled (R704) or waits for RESUME (R650). -/
theorem State.chipFault_of_powered {s : State} (h : s.board.powered = true) (cause : Nat) :
    s.chipFault cause =
      if !s.board.ready && s.fw.pending == some s.fw.booting then (s.tellFault cause).noteAttempt.moduleReset false
      else if ((s.tellFault cause).slackStop 4).slackRuns then ((s.tellFault cause).slackStop 4).handleFault cause
      else ((s.tellFault cause).slackStop 4).holdFault cause := by
  rw [State.chipFault, if_neg (by simp [h])]
  rfl

/-- A chip-level fault leaves the module without a clock or under the fault's handling. -/
theorem State.chipFault_clocked_or_chipFaulted (s : State) (cause : Nat) :
    (s.chipFault cause).clocked = false ∨ (s.chipFault cause).chipFaulted := by
  by_cases hp : s.board.powered = true
  · rw [State.chipFault_of_powered hp]
    split
    · exact .inl (State.clocked_of_not_ready (State.moduleReset_ready _))
    · split
      · exact .inr (State.handleFault_chipFaulted _ _)
      · rename_i hstopped
        exact .inl (by simp [State.clocked, State.holdFault_slackRuns, hstopped])
  · rw [State.chipFault_of_unpowered (by simpa using hp)]
    exact .inl (by simp [State.clocked, hp])

/-- On a running module whose stop sources do not stop at the fault, the fault is handled at once. -/
theorem State.chipFault_of_running {s : State} (cause : Nat) (hpowered : s.board.powered = true) (hready : s.board.ready = true)
    (hruns : s.slackRuns = true) (harmed : s.slackArmed 3 = false) : s.chipFault cause = (s.tellFault cause).handleFault cause := by
  have hstop : (s.tellFault cause).slackStop 4 = s.tellFault cause := by
    simp [State.slackStop, State.tellFault_slackArmed, harmed]
  have hstill : (s.tellFault cause).slackRuns = true := by
    rw [State.slackRuns, State.tellFault_obs]
    exact hruns
  rw [State.chipFault_of_powered hpowered, hstop, if_neg (by simp [hready]), if_pos hstill]

/-- Settles O50: a chip-level fault leaves no clock or its own handling, in which no step of R37 is open, and its handling takes every region over. -/
theorem chipFaultOverridesRegionHandling : Obligations.ChipFaultOverridesRegionHandling := by
  refine ⟨fun s cause => ⟨s.chipFault (causeCode cause), rfl, fun dt r pass => ?_, fun hpowered hready hruns harmed r hr => ?_⟩,
    fun s h dt r pass => regionSteps_change_only_time s (.inr h) dt r pass⟩
  · obtain ⟨hdrained, htested, -⟩ := regionSteps_change_only_time _ (s.chipFault_clocked_or_chipFaulted (causeCode cause)) dt r pass
    exact ⟨hdrained, htested⟩
  · have htaken : (s.chipFault (causeCode cause)).handling r = takenOver (s.handling r) := by
      rw [State.chipFault_of_running _ hpowered hready hruns harmed, State.handleFault_handling _ _ hr,
        State.handling_congr (s.tellFault_regions _)]
    obtain ⟨hphase, hjobs⟩ := Prod.mk.inj (htaken.trans (takenOver_eq _))
    exact ⟨hphase, fun hne => hjobs.trans (if_neg hne)⟩

end Sys2Proof.Machine
end

section
/-! PROOF. Tide and the error estimate of HOLDOVER as time passes (02_clockless_timing_and_tide.md R70, R88). -/

namespace Sys2Proof.Machine

/-! ### The rate of the error estimate -/

/-- Disciplined by TIDE_REF, HOLDOVER adds 10 units per ns (R88). -/
theorem TideUnit.growth_of_holdover_refInUse {t : TideUnit} (hmode : t.mode = .holdover) (href : t.refInUse = true) :
    t.growth = 10 := by
  simp [TideUnit.growth, hmode, href]

/-- Without TIDE_REF, HOLDOVER adds 90,000 units per ns (R88). -/
theorem TideUnit.growth_of_holdover_noRef {t : TideUnit} (hmode : t.mode = .holdover) (href : t.refInUse = false) :
    t.growth = 90000 := by
  simp [TideUnit.growth, hmode, href]

/-- In FREE, ACQUIRING and LOCKED time alone leaves the estimate (log entry 79). -/
theorem TideUnit.growth_of_not_holdover {t : TideUnit} (hmode : t.mode ≠ .holdover) : t.growth = 0 := by
  unfold TideUnit.growth
  split
  case h_1 hhold => exact absurd hhold hmode
  case h_2 => rfl

/-- 10 units per ns are 10 ns per hour. -/
theorem hours_at_ten_units (h : Nat) : h * 3600000000000 * 10 = h * 10 * errUnit := by
  unfold errUnit
  omega

/-- 90,000 units per ns are 25 ns per second. -/
theorem seconds_at_ninety_thousand_units (n : Nat) : n * 1000000000 * 90000 = n * 25 * errUnit := by
  unfold errUnit
  omega

/-! ### The passage of time -/

/-- Tide counts every ns and wraps at 64 bits (R70). -/
theorem State.tideAfter_toNat (s : State) (dt : Nat) : (s.tideAfter dt).toNat = (s.tide.count.toNat + dt) % 2 ^ 64 := by
  rw [State.tideAfter, BitVec.toNat_add, BitVec.toNat_ofNat, Nat.add_mod_mod]

/-- The estimate after `dt` ns: its rate is that of the mode and of TIDE_REF when they begin. -/
theorem State.elapse_errFine (s : State) (dt : Nat) : (s.elapse dt).tide.errFine = s.tide.errFine + dt * s.tide.growth := by
  rw [State.elapse_tide]

/-- Settles O3: Tide wraps at 64 bits, and each of the three rates of the estimate, over its span of time, gives the stated growth. -/
theorem timeAdvancesTideAndHoldoverError : Obligations.TimeAdvancesTideAndHoldoverError := by
  refine ⟨fun s dt => ?count, fun s h hmode href => ?withRef, fun s n hmode href => ?withoutRef, fun s dt hmode => ?outside⟩
  case count => rw [State.elapse_tide, State.tideAfter_toNat]
  case withRef => rw [State.elapse_errFine, TideUnit.growth_of_holdover_refInUse hmode href, hours_at_ten_units]
  case withoutRef => rw [State.elapse_errFine, TideUnit.growth_of_holdover_noRef hmode href, seconds_at_ninety_thousand_units]
  case outside => rw [State.elapse_errFine, TideUnit.growth_of_not_holdover hmode, Nat.mul_zero, Nat.add_zero]

end Sys2Proof.Machine
end

section
/-! PROOF. CUSTOMER_SET and the refill of a token bucket (09_serving_engine.md R362, R364). -/

namespace Sys2Proof.Machine

/-! ### An entry that runs at once -/

/-- On running units the ring's next entry of this TYPE is carried out (R202). -/
theorem State.entryStart_of_next {s : State} {fn q ty : Nat} {e : QEntry} (f : State → QEntry → State) (hrun : s.unitsRun = true)
    (hnext : s.nextEntry fn q ty = some e) : s.entryStart fn q ty f = .next (f s e) := by
  simp [State.entryStart, hrun, hnext]

/-- A completion reads the queues and the clocks and writes the queues: a change of the serving engine's records passes through it. -/
theorem State.completeEntry_with_serving (s : State) (v : Serving) (fn q id : Nat) (st : Status) (result : BitVec 32) :
    { s with serving := v }.completeEntry fn q id st result = { s.completeEntry fn q id st result with serving := v } := by
  have hqueue : { s with serving := v }.queue fn q = s.queue fn q := rfl
  unfold State.completeEntry
  simp only [hqueue]
  split <;> rfl

theorem State.runEntry_with_serving (s : State) (v : Serving) (fn q : Nat) (e : QEntry) (st : Status) (result : BitVec 32) :
    { s with serving := v }.runEntry fn q e st result = { s.runEntry fn q e st result with serving := v } :=
  State.completeEntry_with_serving (s.startEntry fn q e.id .running) v fn q e.id st result

/-- An entry that runs at once changes the queues alone. -/
theorem State.runEntry_eq_with_queues (s : State) (fn q : Nat) (e : QEntry) (st : Status) (result : BitVec 32) :
    s.runEntry fn q e st result = { s with queues := (s.runEntry fn q e st result).queues } := by
  unfold State.runEntry State.completeEntry
  dsimp only
  split <;> rfl

/-! ### The bucket -/

/-- The gain of R362 in units of 10^-9 of 2^-10 token: what is refilled up to `now`, and what was carried. -/
def Customer.gain (c : Customer) (now : Nat) : Nat := c.refill * 1024 * (now - c.last) + c.carry

theorem Customer.refilled_eq (c : Customer) (now : Nat) :
    c.refilled now = { c with
      carry := c.gain now % 10 ^ 9
      level := min (c.burst * 1024 : Int) (c.level + (c.gain now / 10 ^ 9 : Nat))
      last := now } := rfl

theorem Customer.refilled_level (c : Customer) (now : Nat) :
    (c.refilled now).level = min (c.burst * 1024 : Int) (c.level + (c.gain now / 10 ^ 9 : Nat)) := rfl

/-- What is left of a gain is carried on: the gain of `b` is the whole units credited at `a` and the gain of the refilled bucket. -/
theorem Customer.gain_eq_of_refilled (c : Customer) {a b : Nat} (hlast : c.last ≤ a) (hab : a ≤ b) :
    c.gain b = 10 ^ 9 * (c.gain a / 10 ^ 9) + (c.refilled a).gain b := by
  have hspan : b - c.last = (a - c.last) + (b - a) := by omega
  calc c.gain b = c.refill * 1024 * (b - a) + c.gain a := by
        rw [Customer.gain, Customer.gain, hspan, Nat.mul_add]
        omega
    _ = c.refill * 1024 * (b - a) + (10 ^ 9 * (c.gain a / 10 ^ 9) + c.gain a % 10 ^ 9) := by rw [Nat.div_add_mod]
    _ = 10 ^ 9 * (c.gain a / 10 ^ 9) + (c.refilled a).gain b := Nat.add_left_comm ..

/-- A refill in between changes nothing: the carry keeps the arithmetic exact (R362). -/
theorem Customer.refilled_refilled (c : Customer) {a b : Nat} (hlast : c.last ≤ a) (hab : a ≤ b) :
    (c.refilled a).refilled b = c.refilled b := by
  have hgain := c.gain_eq_of_refilled hlast hab
  have hcarry : (c.refilled a).gain b % 10 ^ 9 = c.gain b % 10 ^ 9 := by omega
  have hwhole : c.gain b / 10 ^ 9 = c.gain a / 10 ^ 9 + (c.refilled a).gain b / 10 ^ 9 := by omega
  have hlevel : min (c.burst * 1024 : Int) ((c.refilled a).level + ((c.refilled a).gain b / 10 ^ 9 : Nat)) =
      min (c.burst * 1024 : Int) (c.level + (c.gain b / 10 ^ 9 : Nat)) := by
    rw [Customer.refilled_level, hwhole]
    omega
  calc (c.refilled a).refilled b
      _ = { c with
            carry := (c.refilled a).gain b % 10 ^ 9
            level := min (c.burst * 1024 : Int) ((c.refilled a).level + ((c.refilled a).gain b / 10 ^ 9 : Nat))
            last := b } := rfl
      _ = c.refilled b := by rw [hcarry, hlevel, Customer.refilled_eq]

theorem Customer.refilled_level_le_burst (c : Customer) (now : Nat) : (c.refilled now).level ≤ ((c.burst * 1024 : Nat) : Int) := by
  rw [Customer.refilled_level]
  omega

/-- With REFILL = 0 nothing is added, however long the time (R364). -/
theorem Customer.refilled_level_of_refill_zero {c : Customer} (now : Nat) (hrefill : c.refill = 0) (hcarry : c.carry < 10 ^ 9)
    (hlevel : c.level ≤ (c.burst * 1024 : Nat)) : (c.refilled now).level = c.level := by
  have hgain : c.gain now / 10 ^ 9 = 0 := by
    rw [Customer.gain, hrefill]
    omega
  rw [Customer.refilled_level, hgain]
  omega

/-! ### The customers of a context -/

theorem State.customer_setCustomer_same (s : State) (c n : Nat) (x : Customer) : (s.setCustomer c n x).customer c n = some x :=
  Store.look_put_same ..

theorem State.customer_setCustomer_other (s : State) (c : Nat) {n j : Nat} (x : Customer) (h : j ≠ n) :
    (s.setCustomer c n x).customer c j = s.customer c j :=
  Store.look_put_other _ _ _ _ (by omega)

/-- Noting when a context had a startable request (R353) writes `idleSince` alone. -/
theorem State.noteIdle_eq (s : State) (c : Nat) :
    s.noteIdle c = { s with serving := { s.serving with idleSince := (s.noteIdle c).serving.idleSince } } := by
  unfold State.noteIdle
  split <;> rfl

theorem State.noteIdle_customer (s : State) (c d n : Nat) : (s.noteIdle c).customer d n = s.customer d n := by
  rw [State.noteIdle_eq]
  rfl

theorem State.noteIdle_tideNat (s : State) (c : Nat) : (s.noteIdle c).tideNat = s.tideNat := by
  rw [State.noteIdle_eq]
  rfl

/-- The bucket that CUSTOMER_SET gives a customer: a full one, or the one it had, refilled at the old rate and limited to the new BURST (R364). -/
def setBucket (old : Option Customer) (refill burst now : Nat) : Customer :=
  match old with
  | none => ⟨refill, burst, (burst * 1024 : Nat), 0, now⟩
  | some x => { x.refilled now with refill := refill, burst := burst, level := min (x.refilled now).level (burst * 1024 : Nat) }

theorem State.customerSet_eq (s : State) (c n refill burst : Nat) :
    s.customerSet c n refill burst = s.setCustomer c n (setBucket (s.customer c n) refill burst s.tideNat) := by
  unfold State.customerSet setBucket
  cases s.customer c n with
  | none => rfl
  | some x => rfl

/-! ### CUSTOMER_SET -/

/-- A BURST of 0 is refused (Table 9-2, log entry 49). -/
theorem execCustomerSet_of_burst_zero {s : State} {fn : Fn} {q : Qn} {e : QEntry} (hrun : s.unitsRun = true)
    (hnext : s.nextEntry fn.val q.val 0x12 = some e) (hburst : entField e.raw 448 32 = 0) :
    execCustomerSet fn q s = .next (s.runEntry fn.val q.val e stBadEntry 0) := by
  rw [execCustomerSet, State.entryStart_of_next _ hrun hnext]
  simp [hburst]

/-- The budget that a CUSTOMER_SET entry of context `fn` leaves, the entry not yet completed. -/
def State.budgetSet (s : State) (fn : Nat) (e : QEntry) : State :=
  (s.noteIdle fn).setCustomer fn (entField e.raw 224 10)
    (setBucket (s.customer fn (entField e.raw 224 10)) (entField e.raw 480 32) (entField e.raw 448 32) s.tideNat)

theorem State.budgetSet_eq (s : State) (fn : Nat) (e : QEntry) :
    s.budgetSet fn e = { s with serving := { s.serving with
      customers := (s.budgetSet fn e).serving.customers, idleSince := (s.budgetSet fn e).serving.idleSince } } := by
  unfold State.budgetSet State.setCustomer
  rw [State.noteIdle_eq]

theorem State.runEntry_budgetSet (s : State) (fn q : Nat) (e : QEntry) (st : Status) :
    (s.budgetSet fn e).runEntry fn q e st 0 =
      { s with queues := (s.runEntry fn q e st 0).queues, serving := { s.serving with
          customers := (s.budgetSet fn e).serving.customers, idleSince := (s.budgetSet fn e).serving.idleSince } } := by
  conv =>
    lhs
    rw [State.budgetSet_eq, State.runEntry_with_serving, State.runEntry_eq_with_queues]

theorem execCustomerSet_of_burst_pos {s : State} {fn : Fn} {q : Qn} {e : QEntry} (hrun : s.unitsRun = true)
    (hnext : s.nextEntry fn.val q.val 0x12 = some e) (hburst : entField e.raw 448 32 ≠ 0) :
    execCustomerSet fn q s = .next ((s.budgetSet fn.val e).runEntry fn.val q.val e stOk 0) := by
  rw [execCustomerSet, State.entryStart_of_next _ hrun hnext]
  simp only [hburst, if_false, State.customerSet_eq, State.noteIdle_customer, State.noteIdle_tideNat]
  rfl

/-- The completion of an entry leaves every bucket alone. -/
theorem State.runEntry_customer (s : State) (fn q : Nat) (e : QEntry) (st : Status) (result : BitVec 32) (c n : Nat) :
    (s.runEntry fn q e st result).customer c n = s.customer c n := by
  simp [State.customer]

theorem State.runEntry_budgetSet_customer_same (s : State) (fn q : Nat) (e : QEntry) (st : Status) :
    ((s.budgetSet fn e).runEntry fn q e st 0).customer fn (entField e.raw 224 10) =
      some (setBucket (s.customer fn (entField e.raw 224 10)) (entField e.raw 480 32) (entField e.raw 448 32) s.tideNat) := by
  rw [State.runEntry_customer, State.budgetSet, State.customer_setCustomer_same]

theorem State.runEntry_budgetSet_customer_other (s : State) (fn q : Nat) (e : QEntry) (st : Status) {j : Nat}
    (h : j ≠ entField e.raw 224 10) : ((s.budgetSet fn e).runEntry fn q e st 0).customer fn j = s.customer fn j := by
  rw [State.runEntry_customer, State.budgetSet, State.customer_setCustomer_other _ _ _ h, State.noteIdle_customer]

/-- Settles O47: the entry writes its customer's bucket and nothing of another's, and the refill's carry makes refills add up exactly. -/
theorem customerSetKeepsTheLevel : Obligations.CustomerSetKeepsTheLevel := by
  refine ⟨fun s fn q e hrun hnext => ⟨fun hburst => execCustomerSet_of_burst_zero hrun hnext hburst, fun hburst =>
      ⟨_, execCustomerSet_of_burst_pos hrun hnext hburst, ?new, ?old, ?others, ?queues, ?frame⟩⟩,
    fun c now hrefill hcarry hlevel => c.refilled_level_of_refill_zero now hrefill hcarry hlevel,
    fun c a b hlast hab => ⟨c.refilled_refilled hlast hab, c.refilled_level_le_burst b⟩⟩
  case new =>
    intro hnone
    rw [State.runEntry_budgetSet_customer_same, hnone]
    rfl
  case old =>
    intro x hsome
    rw [State.runEntry_budgetSet_customer_same, hsome]
    rfl
  case others => exact fun j _ hj => State.runEntry_budgetSet_customer_other _ _ _ _ _ hj
  case queues => rw [State.runEntry_budgetSet]
  case frame => rw [State.runEntry_budgetSet]

end Sys2Proof.Machine
end

section
/-! PROOF. A completion that comes for a torn-down context (11_host_link_contexts_and_trust.md R468). -/

namespace Sys2Proof.Machine

/-! ### Counting in the dictionary -/

/-- Setting one key leaves what every other key lists, whichever default it is read with. -/
theorem Store.look_setAt_other {α : Type} [DecidableEq α] (d : α) (m : Store α) {a b : Nat} (v : α) (h : a ≠ b) :
    (m.setAt d a v).look b = m.look b := by
  unfold Store.setAt
  split
  · exact Store.look_del_other m a b h
  · exact Store.look_put_other m a b v h

@[simp] theorem State.setDict_dictVal_same (s : State) (k v : Nat) : (s.setDict k v).dictVal k = v :=
  Store.valAt_setAt_same _ _ _ _

theorem State.setDict_dictVal_other (s : State) {k j : Nat} (v : Nat) (h : j ≠ k) : (s.setDict k v).dictVal j = s.dictVal j :=
  congrArg (Option.getD · (dictDefault j)) (Store.look_setAt_other _ _ v h.symm)

/-- A counter saturates at the largest value of its type (R492). -/
theorem State.bump_dictVal_same (s : State) (k : Nat) : (s.bump k).dictVal k = min (dictMax k) (s.dictVal k + 1) :=
  s.setDict_dictVal_same k _

theorem State.bump_dictVal_other (s : State) {k j : Nat} (h : j ≠ k) : (s.bump k).dictVal j = s.dictVal j :=
  s.setDict_dictVal_other _ h

/-- Counting writes the numeric dictionary alone. -/
theorem State.bump_eq_with_dict (s : State) (k : Nat) : s.bump k = { s with dict := (s.bump k).dict } := rfl

theorem State.bump_ctx (s : State) (k c : Nat) : (s.bump k).ctx c = s.ctx c := by
  simp [State.ctx]

/-! ### The completion -/

/-- On a retired stream, before the next CREATE, the completion is counted in LATE_COMPLETIONS and dropped. -/
theorem exec_lateCompletion_of_retired {s : State} {c : Ctx} (hpowered : s.board.powered = true)
    (hretired : (s.ctx c.val).ide.retired = true) (hgone : s.resident c.val = false) :
    exec (.lateCompletion c) s = .next (s.bump 0x710005) := by
  change execLateCompletion c s = _
  simp [execLateCompletion, hpowered, hretired, hgone]

/-- All of R468: LATE_COMPLETIONS counts the completion, and no other dictionary entry, no IDE stream and nothing else changes. -/
theorem lateCompletion_changes_only_its_count {s : State} {c : Ctx} (hpowered : s.board.powered = true)
    (hretired : (s.ctx c.val).ide.retired = true) (hgone : s.resident c.val = false) :
    ∃ t, exec (.lateCompletion c) s = .next t ∧ t.dictVal 0x710005 = min (dictMax 0x710005) (s.dictVal 0x710005 + 1) ∧
      (∀ k, k ≠ 0x710005 → t.dictVal k = s.dictVal k) ∧ (∀ x, t.ctx x = s.ctx x) ∧ t = { s with dict := t.dict } :=
  ⟨s.bump 0x710005, exec_lateCompletion_of_retired hpowered hretired hgone, s.bump_dictVal_same _,
    fun _ hk => s.bump_dictVal_other hk, s.bump_ctx _, s.bump_eq_with_dict _⟩

/-- Settles O57: the completion is one count of LATE_COMPLETIONS, and every context's table entry stands, its stream with it. -/
theorem lateCompletionIsDroppedAndCounted : Obligations.LateCompletionIsDroppedAndCounted := by
  intro s c hpowered hretired hgone
  obtain ⟨t, hexec, hcount, -, hctx, hframe⟩ := lateCompletion_changes_only_its_count hpowered hretired hgone
  exact ⟨t, hexec, hcount, fun x => congrArg Context.ide (hctx x), hframe⟩

end Sys2Proof.Machine
end
